-- ==== Sys2Proof/Word.lean ====
section
/-! DEFINITION. The word types of the ZT9612 model, the names of its numbered instances and the two time units. -/

namespace Sys2Proof

/-- A device register (R4). -/
abbrev Word := BitVec 32

/-- A byte. -/
abbrev Byte := BitVec 8

/-- A nibble, the datapath width of a pick. -/
abbrev Nib := BitVec 4

/-- A list of (index, value) pairs. It is canonical when the indices rise strictly and no value equals
the one that an unlisted index reads as (`Machine.swf`). -/
abbrev Sparse (α : Type) := List (Nat × α)

/-- Lode time in units of 2^-16 ns (R25), linear over seconds, nanoseconds and fraction. -/
abbrev Fu := Nat

/-- Client port E0 to E63. -/
abbrev PortNo := Fin 64
/-- Reference identifier 0 to 32 (R76). -/
abbrev RefId := Fin 33
/-- Gallery G0 to G15 (R10). -/
abbrev GalNo := Fin 16
/-- Global pick number (R10). -/
abbrev PickNo := Fin 512

/-- What SECDED finds when a session record is read (R284): 0 nothing; 1 a corrected word of the memory or of the cache bank;
2 a corrected directory entry; 3 and 4 an uncorrectable word of the memory, of the cache bank; 5 an uncorrectable directory
entry. -/
abbrev ReadErr := Fin 6
/-- Seam 0 to 15 (R302). -/
abbrev SeamNo := Fin 16
/-- Dial channel D0 to D23 (R98). -/
abbrev DialCh := Fin 24
/-- Haulage links H0 to H15, then T0 and T1 (R318). -/
abbrev LinkNo := Fin 18
/-- Antenna A or B. -/
abbrev Ant := Fin 2
/-- Crypto lane C0 to C15 (R287). -/
abbrev LaneNo := Fin 16
/-- Output OUT0 to OUT7. -/
abbrev OutNo := Fin 8
/-- Synthesiser SYN0 to SYN3. -/
abbrev SynNo := Fin 4
/-- Event pin EV0 to EV7. -/
abbrev EvNo := Fin 8
/-- Fault source 0 to 319 (R381). -/
abbrev FaultSrc := Fin 320
/-- Session channel M0 to M3. -/
abbrev ChanNo := Fin 4
/-- Register number N0 to N15 of a pick. -/
abbrev Reg := Fin 16
/-- Field pointer number F0 to F7 of a pick. -/
abbrev Ptr := Fin 8

end Sys2Proof
end

