-- ==== Sys2Proof/Machine/Maps.lean ====
section
/-! DEFINITION. The canonical sparse maps that hold every numbered resource of the device (registers, ports, picks, records, memories), and the integer helpers that the whole model shares. -/

namespace Sys2Proof.Machine

/-- The value at index `i`, or `d` where nothing is listed. -/
def sget {α : Type} (d : α) : Sparse α → Nat → α
  | [], _ => d
  | (k, v) :: r, i => if i = k then v else sget d r i

/-- Without the entries of index `i`. -/
def sdel {α : Type} (i : Nat) (m : Sparse α) : Sparse α := m.filter fun e => e.1 != i

/-- Inserts an entry before the first of a higher index. -/
def sins {α : Type} (i : Nat) (v : α) : Sparse α → Sparse α
  | [] => [(i, v)]
  | (k, w) :: r => if i < k then (i, v) :: (k, w) :: r else (k, w) :: sins i v r

/-- Writes `v` at index `i`. A sorted list stays sorted, and never lists the default `d`. -/
def sput {α : Type} [DecidableEq α] (d : α) (m : Sparse α) (i : Nat) (v : α) : Sparse α :=
  if v = d then sdel i m else sins i v (sdel i m)

/-- Applies `f` to the value at index `i`. -/
def smod {α : Type} [DecidableEq α] (d : α) (m : Sparse α) (i : Nat) (f : α → α) : Sparse α :=
  sput d m i (f (sget d m i))

/-- The canonical form: every index is at least `lo`, indices rise strictly, no value is the default. -/
def swfFrom {α : Type} [DecidableEq α] (d : α) : Nat → Sparse α → Bool
  | _, [] => true
  | lo, (k, v) :: r => decide (lo ≤ k) && decide (v ≠ d) && swfFrom d (k + 1) r

/-- The canonical form of a sparse map. -/
def swf {α : Type} [DecidableEq α] (d : α) (m : Sparse α) : Bool := swfFrom d 0 m

/-- Applies `f` to every listed value. -/
def smap {α : Type} [DecidableEq α] (d : α) (f : α → α) : Sparse α → Sparse α
  | [] => []
  | (k, v) :: r => if f v = d then sdel k (smap d f r) else (k, f v) :: smap d f r

/-- Keeps the entries whose index satisfies `p`. -/
def skeep {α : Type} (p : Nat → Bool) (m : Sparse α) : Sparse α := m.filter fun e => p e.1

/-- Bits [hi:lo] of a number. -/
def bitsOf (hi lo n : Nat) : Nat := (n / 2 ^ lo) % 2 ^ (hi + 1 - lo)

/-- `n` with bits [hi:lo] replaced by `v`. -/
def setBits (hi lo v n : Nat) : Nat :=
  n - bitsOf hi lo n * 2 ^ lo + (v % 2 ^ (hi + 1 - lo)) * 2 ^ lo

/-- Whether bit `b` of `n` is set. -/
def bitAt (n b : Nat) : Bool := (n / 2 ^ b) % 2 == 1

/-- Quotient rounded up. -/
def ceilDiv (a b : Nat) : Nat := (a + b - 1) / b

/-- Quotient rounded to nearest, ties upward (R444). -/
def roundDiv (a : Int) (b : Nat) : Int := Int.fdiv (2 * a + b) (2 * b)

/-- Clamp to an interval. -/
def clampInt (lo hi x : Int) : Int := if x < lo then lo else if hi < x then hi else x

/-- Saturation at the signed `n`-bit range without its most negative value (R57, R445). -/
def satSigned (n : Nat) (x : Int) : Int := clampInt (-(2 ^ (n - 1) - 1)) (2 ^ (n - 1) - 1) x

/-- Two's complement of an integer in `n` bits, as a register shows it. -/
def twosComp (n : Nat) (x : Int) : Nat := (x % (2 ^ n : Int)).toNat

/-- The signed value of an `n`-bit field. -/
def signedOf (n v : Nat) : Int := if v % 2 ^ n < 2 ^ (n - 1) then (v % 2 ^ n : Nat) else (v % 2 ^ n : Nat) - (2 ^ n : Int)

/-- Addition that saturates at an unsigned `n`-bit maximum. -/
def satAdd (n a b : Nat) : Nat := min (a + b) (2 ^ n - 1)

/-- Integer division truncating toward zero. -/
def truncDiv (a : Int) (b : Nat) : Int := if a < 0 then -((a.natAbs / b : Nat) : Int) else (a.natAbs / b : Nat)

/-- Newton's iteration for the integer square root, `fuel` steps from `x`. -/
def isqrtLoop (n : Nat) : Nat → Nat → Nat
  | 0, x => x
  | fuel + 1, x => let y := (x + n / x) / 2; if y < x then isqrtLoop n fuel y else x

/-- Integer square root, rounded down. -/
def isqrt (n : Nat) : Nat := if n = 0 then 0 else isqrtLoop n 300 (2 ^ (n.log2 / 2 + 1))

/-- Integer square root, rounded up. -/
def isqrtUp (n : Nat) : Nat := let r := isqrt n; if r * r = n then r else r + 1

/-- The sum of a list of naturals. -/
def sumNat (l : List Nat) : Nat := l.foldl (· + ·) 0

/-- The sum of a list of integers. -/
def sumInt (l : List Int) : Int := l.foldl (· + ·) 0

/-- The largest of a list of naturals, 0 for none. -/
def maxNat (l : List Nat) : Nat := l.foldl max 0

/-- Big-endian bytes of a number, `n` of them (R4: fields on a wire are big-endian). -/
def beBytes : Nat → Nat → List Nat
  | 0, _ => []
  | n + 1, v => (v / 256 ^ n) % 256 :: beBytes n v

/-- The number that big-endian bytes spell. -/
def beVal (l : List Nat) : Nat := l.foldl (fun a b => a * 256 + b % 256) 0

/-- `n` elements from position `i`, short where the list ends. -/
def slice {α : Type} (i n : Nat) (l : List α) : List α := (l.drop i).take n

/-- Big-endian field of `n` bytes at offset `i` of a frame. -/
def beAt (l : List Nat) (i n : Nat) : Nat := beVal (slice i n l)

/-- A list with the elements from position `i` replaced by `v`, as far as it reaches. -/
def overlay {α : Type} (l : List α) (i : Nat) (v : List α) : List α :=
  l.take i ++ v.take (l.length - i) ++ l.drop (i + v.length)

end Sys2Proof.Machine
end

