-- ==== Sys2Proof/Sections.lean ====
section
/-! DEFINITION. The Survey image: its header, its records, and the parameters of every section (R344 to R353). The manual gives what each section defines, in chapter after chapter, and no byte layout of the payloads, so a payload is held here as its parameters (log entry 10). -/

namespace Sys2Proof

/-- Device role (R3). -/
inductive Role where
  | headframe
  | face
  deriving DecidableEq, Repr

/-- Parameters of one fault class (R384). -/
structure FaultClassCfg where
  n : Nat := 1
  /-- Window, ms. -/
  w : Nat := 1000
  /-- Quiet period, units of 100 ms. -/
  q : Nat := 600
  ceiling : Nat := 2
  deriving DecidableEq, Repr

/-- The class defaults of R383. -/
def FaultClassCfg.defaults : List FaultClassCfg :=
  [⟨1, 1000, 600, 3⟩, ⟨3, 3600000, 100, 3⟩, ⟨4, 3600000, 6000, 2⟩, ⟨3, 3600000, 6000, 2⟩,
   ⟨8, 3600000, 600, 2⟩, ⟨8, 3600000, 600, 2⟩, ⟨16, 1000, 600, 2⟩, ⟨16, 1000, 600, 2⟩,
   ⟨4, 1000, 300, 2⟩, ⟨2, 3600000, 600, 2⟩, ⟨16, 1000, 600, 2⟩, ⟨8, 3600000, 600, 2⟩,
   ⟨8, 100, 100, 2⟩, ⟨8, 1000, 600, 2⟩, ⟨1, 1000, 600, 2⟩]

/-- What REFERENCES states for a Daylight reference (R118 to R132). -/
structure DaylCfg where
  inUse : Bool := true
  /-- Enabled signals by code (R119). -/
  signals : Nat := 0x1FF
  /-- Early-late spacing of each signal in 1/40 chip, its multipath pair, integration of data and pilot in ms, DLL
  bandwidth in 0.01 Hz and PLL bandwidth in Hz (R121), where the entry states them. -/
  tracking : Sparse (List Nat) := []
  /-- Pivot system: 0 GPS, 1 Galileo, 2 BeiDou. -/
  pivot : Nat := 0
  /-- Elevation mask in 0.1 degree. -/
  mask : Int := 100
  /-- Use threshold in 0.25 dB-Hz. -/
  useCn0 : Nat := 120
  /-- Antenna position (ECEF) in mm, and its uncertainty in mm. -/
  posX : Int := 0
  posY : Int := 0
  posZ : Int := 0
  sigmaPos : Nat := 0
  /-- Front-end group delays of bands 1 and 2, antenna cable delay (R118), and their uncertainties, in ps. -/
  delay1 : Nat := 0
  delay2 : Nat := 0
  cable : Nat := 0
  delayUnc : List Nat := []
  burstEn : Bool := false
  burstMs : Nat := 200
  selfSurvey : Bool := false
  /-- Thresholds of R130: k_r; r_min, T_sys, T_ant and T_phi in ns; n_p; C_max in 0.25 dB-Hz; T_g in 0.01 cycle;
  tau_r in s; R_thr in 10^-13. -/
  kR : Nat := 5
  rMin : Nat := 10
  nP : Nat := 4
  cMax : Nat := 220
  tSys : Nat := 15
  tG : Nat := 15
  tAnt : Nat := 10
  tauR : Nat := 10
  rThr : Nat := 1000
  tPhi : Nat := 15
  /-- Anchor period and clear time in s (R131, R132). -/
  tauAnchor : Nat := 3600
  clearS : Nat := 600
  deriving DecidableEq, Repr

/-- A band of an SMP port (R117): IF in kHz, spectral inversion, mixing ratio, enable. -/
structure SmpBand where
  ifKHz : Int := 0
  inverted : Bool := false
  mixNum : Nat := 1
  mixDen : Nat := 1
  en : Bool := false
  deriving DecidableEq, Repr

/-- A reference's entry in REFERENCES (R59, R76, R77, R83, R138). A field that ends in a question mark takes the
default of the reference's kind where the entry does not state it. [DESIGN CHOICE, log 58] -/
structure RefRec where
  id : Nat := 0
  /-- A REFIN entry is a time reference; otherwise frequency-only (R76). -/
  refinTime : Bool := true
  /-- Nominal source frequency in Hz of a REFIN (R106). -/
  nomHz : Nat := 1
  /-- A REFIN's input is single-ended; its internal 100 ohm termination is on (R432). -/
  singleEnded : Bool := false
  termOn : Bool := false
  /-- Measurement interval in ns. -/
  interval? : Option Nat := none
  /-- Time-loop natural frequency in uHz, and the one used while an atomic flywheel is qualified. -/
  fn? : Option Nat := none
  fnAtomic : Nat := 1000
  /-- Damping in units of 1/16. -/
  zeta : Nat := 16
  /-- Frequency limits in units of 10^-15. -/
  fAcc? : Option Nat := none
  fRej? : Option Nat := none
  /-- Frequency gate in ms. -/
  gateMs : Nat := 1000
  /-- Phase limits in ps. -/
  pAcc? : Option Nat := none
  pRej? : Option Nat := none
  /-- Consistency window in s. -/
  tauC : Nat := 300
  bAcc : Nat := 800
  bRej : Nat := 1600
  /-- Validity age in us. -/
  validUs? : Option Nat := none
  nMiss : Nat := 4
  soakS : Nat := 60
  /-- Hold-off in units of 0.1 s. -/
  holdoffDs : Nat := 100
  wtrS : Nat := 300
  minQl? : Option Nat := none
  maxClockClass : Nat := 6
  /-- Stated uncertainty in ps; a Daylight entry's dual-band value. -/
  uPs : Option Nat := none
  /-- A Daylight entry's single-band value in ps. -/
  uSinglePs : Option Nat := none
  dayl : DaylCfg := {}
  /-- Paired TODIN of a REFIN time entry. -/
  todin : Option Nat := none
  /-- Baud rate of that TODIN; 0 not stated (R170). -/
  baud : Nat := 0
  /-- Client port of a SyncE or PTP reference. -/
  port : Option Nat := none
  deriving DecidableEq, Repr

/-- A position of the time list (R89). -/
structure ListEntry where
  id : Nat := 0
  revertive : Bool := false
  deriving DecidableEq, Repr

/-- Stated flywheel bounds of a class (R142): y in units of 10^-18, a in units of 10^-24 per second. -/
structure FlyBound where
  y : Nat := 0
  a : Nat := 0
  deriving DecidableEq, Repr

/-- A port-seam pair with its home gallery (R231). -/
structure PairCfg where
  port : Nat := 0
  seam : Nat := 0
  home : Nat := 0
  deriving DecidableEq, Repr

/-- A policer (R305). -/
structure PolCfg where
  en : Bool := false
  classes : Nat := 0
  /-- Frames per second. -/
  rate : Nat := 1000
  burst : Nat := 1
  deriving DecidableEq, Repr

/-- A PTP domain of a seam (R202, R204, R207, R208). -/
structure PtpDomain where
  number : Nat := 0
  /-- 0 default profile, 1 G.8275.2, 2 ST 2059-2. -/
  profile : Nat := 0
  oneStep : Bool := true
  /-- Multicast transports of the domain: bit 0 UDP/IPv4, bit 1 UDP/IPv6, bit 2 Ethernet. -/
  transports : Nat := 1
  /-- logInterMessagePeriod of Sync and Announce. -/
  syncLog : Int := 0
  annLog : Int := 1
  /-- The seam's ranges of logInterMessagePeriod for Sync, Announce and Delay_Resp. -/
  syncLo : Int := -7
  syncHi : Int := 1
  annLo : Int := -3
  annHi : Int := 4
  drLo : Int := -7
  drHi : Int := 7
  /-- The bound TLV is enabled (R207). -/
  bound : Bool := false
  /-- SPP and keyID of an authenticated domain (R208). -/
  auth : Option (Nat × Nat) := none
  deriving DecidableEq, Repr

/-- The defaults of each profile (R202). -/
def PtpDomain.standard (profile : Nat) : PtpDomain :=
  if profile = 1 then
    { number := 44, profile := 1, syncLog := -4, annLog := 0, syncHi := 0, annHi := 0 }
  else if profile = 2 then { number := 127, profile := 2, syncLog := -3, annLog := -2, syncHi := -1, annHi := 1 }
  else {}

/-- A security parameter pointer: algorithm and Magazine slot for each keyID (R208). -/
structure SppCfg where
  spp : Nat := 0
  /-- AES-128-CMAC; otherwise HMAC-SHA-256 truncated to 128 bits. -/
  cmac : Bool := false
  /-- keyID and slot. -/
  keys : List (Nat × Nat) := []
  deriving DecidableEq, Repr

/-- What SEAMS states for the synchronization-metadata TLV of ST 2059-2 (R209). -/
structure SmpteCfg where
  rateNum : Nat := 25
  rateDen : Nat := 1
  localOffset : Int := 0
  jamTime : Nat := 0
  jumpTime : Nat := 0
  jumpOffset : Int := 0
  /-- Time and offset of the previous daily jam. -/
  lastJam : Nat := 0
  lastJamOffset : Int := 0
  deriving DecidableEq, Repr

/-- The client side that `ptp-ref` runs on a PTP-reference port (R209). -/
structure PtpRefCfg where
  domain : Nat := 44
  clockId : Nat := 0
  /-- logInterMessagePeriod of Delay_Req. -/
  reqLog : Int := 0
  /-- 0 UDP/IPv4, 1 UDP/IPv6, 2 Ethernet. -/
  transport : Nat := 0
  /-- Address of a unicast master; 0 where it is reached by multicast. -/
  master : Nat := 0
  /-- SPP and keyID of an authenticated domain (R208). -/
  auth : Option (Nat × Nat) := none
  deriving DecidableEq, Repr
/-- A seam's record in SEAMS. -/
structure SeamRec where
  configured : Bool := false
  /-- Service limit L_s, a bound code (R151). -/
  limit : Nat := 0
  /-- Resume delay in ms (R151). -/
  resumeMs : Nat := 1000
  /-- The seam has an operator's program that serves NTP or NTS (R151). -/
  ntp : Bool := false
  /-- The seam presents smeared UTC (R34). -/
  smear : Bool := false
  /-- The record states L_s (R303). -/
  limitStated : Bool := true
  /-- Session records: base and count K_s, as global indices (R280). -/
  recBase : Nat := 0
  recCount : Nat := 0
  /-- Policy KEEP; otherwise EVICT (R283). -/
  keep : Bool := false
  /-- 128-bit SipHash key (R281). -/
  hashKey : Nat := 0
  /-- Session-cache ways (R285). -/
  wayMask : Nat := 0
  /-- Magazine slot range (R295). -/
  magBase : Nat := 0
  magCount : Nat := 0
  /-- Default lane mask (R290). -/
  laneMask : Nat := 0
  /-- Fixed-slot crypto (R293). -/
  fixed : Bool := false
  /-- Channel budget (R306). -/
  beta : Nat := 0
  /-- Quotas of CRYPTO, SESSION and MAGAZINE; 0 where not stated (R271, R303). -/
  quotas : List Nat := [0, 0, 0]
  policers : List PolCfg := []
  /-- Response age A_max in us (R201). -/
  aMaxUs : Nat := 100
  /-- The seam's addresses (R199). -/
  mac : Nat := 0
  ip4 : Nat := 0
  ip6 : Nat := 0
  domains : List PtpDomain := []
  spps : List SppCfg := []
  /-- Longest grant D_max in s (R205). -/
  dMaxS : Nat := 300
  clockId : Nat := 0
  prio1 : Nat := 128
  prio2 : Nat := 128
  variance : Nat := 0x4E5D
  /-- organizationId and organizationSubType of the bound TLV (R207). -/
  orgId : Nat := 0
  orgSub : Nat := 0
  smpte : SmpteCfg := {}
  /-- Range of the NTP poll field (R211). -/
  pollLo : Int := -7
  pollHi : Int := 10
  /-- NTP bound extension field: type, and always added (R212). -/
  boundType : Nat := 0xF5A1
  boundAlways : Bool := false
  /-- Magazine slots of the current and previous cookie keys (R213). -/
  cookieCur : Nat := 0
  cookiePrev : Nat := 0
  /-- NAKs per second (R215). -/
  nakRate : Nat := 100000
  deriving DecidableEq, Repr

/-- A haulage or twin link's parameters. -/
structure HaulLinkCfg where
  tx : Bool := false
  rx : Bool := false
  /-- RS(528,514). -/
  fec : Bool := false
  smac : Nat := 0
  dmac : Nat := 0
  /-- C_in and C_out in 2^-16 ns (R178). -/
  cIn : Nat := 0
  cOut : Nat := 0
  /-- Asymmetry A_h in 2^-16 ns. -/
  aH : Int := 0
  /-- Asymmetry bound A_link in ps (R139). -/
  aLinkPs : Nat := 0
  /-- Feed of a receive link where stated; otherwise the link alone. -/
  feed : Option Nat := none
  deriving DecidableEq, Repr

/-- A Dial channel's source code and role code, as DIAL_CH_CFG shows them (R98): roles 0 unused, 1 REF, 2 MON,
3 USER. -/
structure DialChCfg where
  source : Nat := 0
  role : Nat := 0
  deriving DecidableEq, Repr

/-- A segment of a ramp profile (R159): type 1 RAMP, 2 SET, 0 END. -/
structure RampSeg where
  type : Nat := 0
  /-- Duration in us. -/
  dur : Nat := 0
  value : Int := 0
  deriving DecidableEq, Repr

/-- A synthesiser's entry in OUTPUTS (R156, R159). -/
structure SynCfg where
  /-- VCO frequency in Hz; 0 unused. -/
  fVco : Nat := 0
  char : Bool := false
  profile : List RampSeg := []
  deriving DecidableEq, Repr

/-- An output's entry in OUTPUTS (R156, R161 to R166). -/
structure OutCfg where
  en : Bool := false
  /-- 0 LVDS, 1 HCSL, 2 CML, 3 LVCMOS. -/
  std : Nat := 0
  pulse : Bool := false
  group : Nat := 0
  /-- 0 none, 1 slew, 2 snap. -/
  align : Nat := 0
  snapCh : Nat := 0
  /-- Snap offset in ps. -/
  snapOfsPs : Int := 0
  pol : Bool := false
  div : Nat := 4
  pe : Nat := 0
  we : Nat := 0
  oe : Nat := 0
  /-- Fine offset (pulse mode) or offset o (clock mode) in ps. -/
  finePs : Int := 0
  dBoardPs : Int := 0
  deriving DecidableEq, Repr

/-- A TODOUT's pairing (R169); baud 0 disabled. -/
structure TodoutCfg where
  baud : Nat := 0
  out : Nat := 0
  delayMs : Nat := 10
  uOutPs : Nat := 300
  deriving DecidableEq, Repr

/-- An event pin's role (R171): 0 unused, 1 knock, 2 bell. -/
structure EvCfg where
  role : Nat := 0
  /-- Knock edges: bit 0 rising, bit 1 falling. -/
  edge : Nat := 0
  pol : Bool := false
  deriving DecidableEq, Repr

/-- A client port's entry in STRUCTURE (R174, R178, R179). -/
structure PortCfg where
  en : Bool := false
  /-- 0 10 G, 1 25 G, 2 50 G, 3 100 G. -/
  speed : Nat := 0
  /-- 0 none, 1 BASE-R FEC, 2 RS(528,514), 3 RS(544,514). -/
  fec : Nat := 0
  /-- 0 backplane, 1 copper cable, 2 optical module. -/
  pmd : Nat := 2
  synceTx : Bool := false
  /-- C_in and C_out of each rate and FEC mode in 2^-16 ns (R178), by 4 * speed + fec. -/
  cal : Sparse (Nat × Nat) := []
  /-- A_p in 2^-16 ns; u_A in ps. -/
  aP : Int := 0
  uA : Nat := 0
  deriving DecidableEq, Repr

/-- A gallery's entry in STRUCTURE (R10, R231). -/
structure GalCfg where
  used : Bool := false
  seam : Nat := 0
  alt : Nat := 0
  deriving DecidableEq, Repr

/-- A classifier rule (R304). -/
structure ClsRule where
  ports : Nat := 0
  vlanAny : Bool := true
  untagged : Bool := false
  vid : Nat := 0
  /-- 0 any, 4, 6. -/
  ipver : Nat := 0
  plen : Nat := 0
  /-- The prefix: 32 bits for IPv4, 128 for IPv6. -/
  dst : Nat := 0
  portLo : Nat := 0
  portHi : Nat := 0xFFFF
  classes : Nat := 0xFFFF
  seam : Nat := 0
  /-- The bits that the layout leaves at 0: VLAN 13:12, bytes 16 to 27 where the prefix is not of IPv6, and bytes 35 to 39. -/
  spare : List Nat := []
  deriving DecidableEq, Repr

/-- A crypto lane's entry in SEAMS (R293): a schedule entry is a seam, or 16 for idle. -/
structure LaneCfg where
  fixed : Bool := false
  sched : List Nat := []
  deriving DecidableEq, Repr

/-- A module of a PROGRAMS record (R255). -/
structure ProgModule where
  id : Nat := 0
  first : Nat := 0
  last : Nat := 0
  version : Nat := 0
  deriving DecidableEq, Repr

/-- STRUCTURE (R353). -/
structure StructureSec where
  role : Role := .headframe
  /-- LO nominal frequency in MHz (R51). -/
  loMHz : Nat := 10
  /-- The LO's input is single-ended; its internal 100 ohm termination is on (R432). -/
  loSingleEnded : Bool := false
  loTermOn : Bool := false
  /-- LO calibration offset in units of 10^-18 (R59). -/
  loOfs : Int := 0
  /-- Uncertainty of the LO calibration offset in units of 10^-12 (R122). -/
  loUnc : Nat := 0
  /-- CANARY frequency in Hz (R392). -/
  canaryHz : Nat := 1000
  faultClasses : List FaultClassCfg := FaultClassCfg.defaults
  /-- Calibration epoch (R45). -/
  calEpoch : Nat := 0
  /-- Dial channels (R98). -/
  dial : Sparse DialChCfg := []
  /-- Port timestamp uncertainty of each port in ps (R141). -/
  uPort : Sparse Nat := []
  pairs : List PairCfg := []
  /-- SSM network option, 1 or 2 (R195, R446). -/
  ssmOption : Nat := 1
  ports : Sparse PortCfg := []
  gals : Sparse GalCfg := []
  /-- Latch stages of a Shaft path, by 128 * gallery + target (R260). -/
  stages : Sparse Nat := []
  /-- Session channels: enabled, rate code, capacity code (R277). -/
  sessEn : Bool := false
  sessRate : Nat := 0
  sessCap : Nat := 0
  /-- Bands of the SMP ports, by 2 * antenna + band (R117). -/
  smp : Sparse SmpBand := []
  deriving DecidableEq, Repr

/-- HAULAGE (R314). -/
structure HaulageSec where
  present : Bool := false
  /-- Links H0 to H15. -/
  links : Sparse HaulLinkCfg := []
  streamId : Nat := 0
  senderId : Nat := 0
  etype : Nat := 0x88B5
  gallery : Nat := 0
  /-- Split tolerance in ns, split wait in us, round-trip outlier limit in ps, snapshot interval in s. -/
  tauSNs : Nat := 10
  waitUs : Nat := 200
  deltaTolPs : Nat := 2000
  snapS : Nat := 60
  deriving DecidableEq, Repr

/-- TWIN (R314). -/
structure TwinSec where
  present : Bool := false
  /-- Links T0 and T1, numbered 16 and 17. -/
  links : Sparse HaulLinkCfg := []
  tauTwNs : Nat := 5
  seniority : Nat := 0
  joinMs : Nat := 100
  deltaTolPs : Nat := 2000
  deriving DecidableEq, Repr

/-- SEAMS (R353). -/
structure SeamsSec where
  present : Bool := false
  seams : Sparse SeamRec := []
  rules : List ClsRule := []
  lanes : Sparse LaneCfg := []
  /-- The device range of Magazine slots (R295). -/
  devBase : Nat := 0
  devCount : Nat := 0
  /-- Tokens by gallery, as SHAFT_TOKENS shows them; none where the record states none (R274). -/
  tokens : Option (Sparse Nat) := none
  /-- The client side of `ptp-ref`, by reference ID (R209). -/
  ptpRef : Sparse PtpRefCfg := []
  deriving DecidableEq, Repr

/-- REFERENCES (R353). -/
structure RefsSec where
  refs : List RefRec := []
  /-- Position 0 is the chosen entry. -/
  timeList : List ListEntry := []
  /-- Designated flywheel, its class (1 to 3) and the natural frequency of its loop in uHz. -/
  flywheel : Option Nat := none
  flywheelClass : Nat := 1
  flywheelFn : Nat := 1000000
  /-- Stated bounds of flywheel classes 0 to 3 (R142). -/
  fly : List FlyBound := [{}, {}, {}, {}]
  /-- Leap fields (R31): UTC offset, pending leap, leap instant. -/
  leapOffset : Int := 0
  leapPending : Int := 0
  leapInstant : Nat := 0
  deriving DecidableEq, Repr

/-- LIMITS (R353). [DESIGN CHOICE, log 58] -/
structure LimitsSec where
  /-- Lock window in 2^-16 ns (R59); default 2 ns. -/
  lockWindow : Nat := 131072
  /-- Lock settle time in s. -/
  lockSettle : Nat := 30
  /-- Pull slope in ps/s. -/
  pullSlope : Nat := 1000
  /-- Holdover averaging time in s. -/
  tauAvg : Nat := 300
  /-- Holdover guard in s. -/
  guardS : Nat := 4
  /-- LO ageing learning window in s. -/
  ageWindow : Nat := 86400
  /-- Holdover maximum in s, 0 for none. -/
  holdMax : Nat := 0
  /-- Device service limit as a bound code (R359). -/
  svcLimit : Nat := 1600
  /-- Noise multiplier k_n (R137). -/
  kN : Nat := 4
  /-- Launch threshold minimum of each port in ns (R191). -/
  thetaMin : Sparse Nat := []
  /-- Quiet period of the launch threshold in ms. -/
  qThetaMs : Nat := 10000
  deriving DecidableEq, Repr

/-- OUTPUTS (R353). -/
structure OutputsSec where
  syn : Sparse SynCfg := []
  out : Sparse OutCfg := []
  todout : Sparse TodoutCfg := []
  ev : Sparse EvCfg := []
  deriving DecidableEq, Repr

/-- PROGRAMS: one record for the galleries of its mask (R255). -/
structure ProgramsSec where
  /-- Gallery mask, bit g for gallery g. -/
  mask : Nat := 0
  /-- The instructions; their count is I (R255). -/
  insns : List Nat := []
  /-- Watchdog field: 0 means 8,192 and 0xFFFF means 65,536. -/
  watchdog : Nat := 0
  /-- Local-store image, nibble by nibble; its length is S. -/
  image : List Nat := []
  /-- Tick periods of streams 0 to 3 in us, as written. -/
  periods : List Nat := [0, 0, 0, 0]
  /-- Dispatch entries by class; 0xFFFF is DROP. -/
  dispatch : List Nat := []
  modules : List ProgModule := []
  /-- The payload length is the one that its fields imply (R256). -/
  lengthOk : Bool := true
  deriving DecidableEq, Repr

/-- PATCH (R358). -/
structure PatchSec where
  version : Nat := 0
  romVersion : Nat := 0
  /-- Entries: ROM address and offset into the code. -/
  entries : List (Nat × Nat) := []
  code : List Nat := []
  /-- Whether both firmware-key signatures verify. -/
  signatureOk : Bool := false
  deriving DecidableEq, Repr

/-- The payload of a record (R345). -/
inductive Payload where
  | structureP (p : StructureSec)
  | programsP (p : ProgramsSec)
  | referencesP (p : RefsSec)
  | outputsP (p : OutputsSec)
  | haulageP (p : HaulageSec)
  | twinP (p : TwinSec)
  | seamsP (p : SeamsSec)
  | limitsP (p : LimitsSec)
  | patchP (p : PatchSec)
  /-- A record whose type byte is none of R345. -/
  | otherP (type : Nat)
  deriving DecidableEq, Repr

/-- The type byte of a payload (R345). -/
def Payload.typeByte : Payload → Nat
  | .structureP _ => 1
  | .programsP _ => 2
  | .referencesP _ => 3
  | .outputsP _ => 4
  | .haulageP _ => 5
  | .twinP _ => 6
  | .seamsP _ => 7
  | .limitsP _ => 8
  | .patchP _ => 9
  | .otherP t => t

/-- A record (R345). [DESIGN CHOICE, log 10] -/
structure Record where
  seq : Nat := 0
  /-- Whether the record's CRC-32C is right. -/
  crcOk : Bool := true
  payload : Payload
  /-- SHA-384 of the record's bytes (R350). -/
  digest : Nat := 0
  deriving DecidableEq, Repr

/-- A signer entry (R347): its role and the key digests it carries. Whether its two signatures verify is
reported by PK_VERIFY_DONE. -/
structure Signer where
  /-- 1 image authority, 2 time authority. -/
  role : Nat := 1
  /-- SHA-256 of the P-384 public key. -/
  keyP384 : Nat := 0
  /-- SHA-256 of the ML-DSA-65 public key. -/
  keyMlDsa : Nat := 0
  deriving DecidableEq, Repr

/-- An image (R344 to R347). [DESIGN CHOICE, log 10] -/
structure Image where
  magicOk : Bool := true
  formatVersion : Nat := 1
  headerLength : Nat := 64
  headerCrcOk : Bool := true
  /-- 1 full image, 2 amendment. -/
  kind : Nat := 1
  signersByte : Nat := 3
  securityVersion : Nat := 0
  totalLength : Nat := 0
  serial : Nat := 0
  deviceSerial : Nat := 0
  /-- Base digest: the first 32 bytes of M of the full image in force. -/
  baseDigest : Nat := 0
  records : List Record := []
  signers : List Signer := []
  /-- M: SHA-384 of the message's bytes (R347). -/
  digest : Nat := 0
  deriving DecidableEq, Repr

/-- The parameters in force, section by section. -/
structure Sections where
  str : StructureSec := {}
  haul : HaulageSec := {}
  twin : TwinSec := {}
  seams : SeamsSec := {}
  refs : RefsSec := {}
  lim : LimitsSec := {}
  outs : OutputsSec := {}
  deriving DecidableEq, Repr

end Sys2Proof
end

