-- ==== Sys2Proof/Blocks/Dayl.lean ====
section
/-! DEFINITION. Daylight (R116 to R135): what the baseband measures, and its state. -/

namespace Sys2Proof.Machine

/-- What a tracking channel gives at a whole second (R119, R121, R124). -/
structure ChanObs where
  n : Nat
  /-- Prompt C/N0 in 0.25 dB-Hz. -/
  cn0 : Nat := 0
  /-- Pseudorange: Lode time of reception less the system's time of transmission, 2^-16 ns. -/
  pr : Int := 0
  /-- Early, prompt, late, very early and very late correlator outputs. -/
  early : Int := 0
  prompt : Int := 0
  late : Int := 0
  veryEarly : Int := 0
  veryLate : Int := 0
  deriving DecidableEq, Repr

/-- What one antenna gives at a whole second. -/
structure AntObs where
  /-- Samples of the last second, as the levels of lanes D0 to D7 in bits 0 to 7 (R116). -/
  samples : List Nat := []
  chans : List ChanObs := []
  /-- Decoded time-of-week less Lode time, 2^-16 ns. -/
  tow : Option Int := none
  /-- Carrier-derived clock rate, 2^-64, while signals are tracked. -/
  rate : Option Int := none
  /-- Broadcast offset of each other system, 2^-16 ns. -/
  isbBroadcast : List (Nat × Int) := []
  deriving DecidableEq, Repr

/-- What decoded navigation data say beside orbits (R134): UTC parameters (offset in 2^-16 ns, rate in 2^-64), the
ionosphere model's data, and leap data (offset, pending leap, instant). -/
structure NavData where
  utc : Option (Int × Int) := none
  iono : Option Nat := none
  leap : Option (Int × Int × Nat) := none
  deriving DecidableEq, Repr

/-- A solution as its registers show it. -/
structure SolSt where
  e : Int := 0
  sigma : Nat := 0
  cd : Nat := 0
  /-- Mean rate less y_fw, 2^-64. -/
  rate : Int := 0
  sec : Nat := 0
  deriving DecidableEq, Repr

/-- One antenna. -/
structure AntSt where
  valid : Bool := false
  /-- The class in force, once a valid solution has given one (R126). -/
  dual : Option Bool := none
  dualRun : Nat := 0
  alarm : Bool := false
  causes : Nat := 0
  /-- Tick of the last failing evaluation (R132). -/
  lastFail : Nat := 0
  /-- Interference of each band: marked, seconds outside and seconds inside (R130). -/
  intf1 : Bool := false
  out1 : Nat := 0
  in1 : Nat := 0
  intf2 : Bool := false
  out2 : Nat := 0
  in2 : Nat := 0
  mag1 : Nat := 0
  mag2 : Nat := 0
  /-- Systems excluded, bits 0 to 2. -/
  sysExcl : Nat := 0
  used : Nat := 0
  trk : Nat := 0
  /-- Consecutive failing seconds of the inter-system and phase checks. -/
  sysRun : Nat := 0
  phaseRun : Nat := 0
  /-- Carrier rates of the last 100 s: (tick, 2^-64), newest first. -/
  rates : List (Nat × Int) := []
  /-- Flywheel-referred offsets of the last 8 solutions, newest first (R131). -/
  us : List Int := []
  /-- Anchor: tick, u_a, and y_fw at it in 2^-64. -/
  anchor : Option (Nat × Int × Int) := none
  /-- Samples are discarded until this tick (R118), and a second has used discarded samples. -/
  cleanFrom : Nat := 0
  discarded : Bool := false
  lost : Bool := false
  /-- Sample-time line of the last block: Lode time of its first sample in 2^-16 ns, and the sample clock's fractional
  frequency in 2^-64 (R118). -/
  line : Option (Int × Int) := none
  /-- Ticks of the exclusions of each satellite, by 256 * system + PRN (R130). -/
  exclTicks : Sparse (List Nat) := []
  /-- Inter-system biases of the last 24 h by system: (tick, 2^-16 ns), newest first. -/
  isb : Sparse (List (Nat × Int)) := []
  sol : SolSt := {}
  latch : SolSt := {}
  /-- Tick of the last alarm, of its clearing, or of the last invalid solution (R123). -/
  badTick : Nat := 0
  burst : Bool := false
  window : Bool := false
  /-- Navigation solutions of the last 24 h: tick and position in mm, newest first (R129). -/
  nav : List (Nat × Int × Int × Int) := []
  survX : Int := 0
  survY : Int := 0
  survZ : Int := 0
  survSigma : Nat := 0
  survHours : Nat := 0
  deriving DecidableEq, Repr

/-- A tracking channel (R120, R121): states of DAYL_CH_STATE. -/
structure ChanSt where
  state : Nat := 0
  ant : Nat := 0
  signal : Nat := 0
  sv : Nat := 0
  cn0 : Nat := 0
  /-- Last code discriminator output, and the tick since which C/N0 has been below 25 dB-Hz. -/
  disc : Int := 0
  lowTick : Option Nat := none
  deriving DecidableEq, Repr

/-- A satellite in the orbit cache (R122, R134). -/
structure OrbitSt where
  /-- Ephemeris and almanac, as their data, and the ticks at which they were decoded; one that a restore brought may be
  older than the tick count. -/
  eph : Option (Nat × Int) := none
  alm : Option (Nat × Int) := none
  /-- A new ephemeris that awaits confirmation: the satellite is excluded. -/
  pending : Option Nat := none
  /-- Week of the cached ephemeris, and the last 13-bit week of CNAV or CNAV-2 (R134). -/
  week : Option Nat := none
  cnavWeek : Option Nat := none
  deriving DecidableEq, Repr

/-- Daylight. -/
structure DaylSt where
  ants : Sparse AntSt := []
  chans : Sparse ChanSt := []
  orbit : Sparse OrbitSt := []
  /-- Leap announcements by satellite: offset, pending, instant (R31). -/
  votes : Sparse (Option (Int × Int × Nat)) := []
  /-- Broadcast UTC parameters by system: offset from UTC(k) in 2^-16 ns, its rate in 2^-64, the Lode time they stand
  for; and the broadcast ionosphere model's data (R124, R125, R134). -/
  utc : Sparse (Option (Int × Int × Nat)) := []
  iono : Sparse (Option Nat) := []
  /-- Time of day from the first decoded time-of-week, less Lode time in 2^-16 ns (R122). -/
  tod : Option Int := none
  /-- Consecutive failing seconds of the geometry and inter-antenna time checks. -/
  geomRun : Nat := 0
  antRun : Nat := 0
  geomOn : Bool := false
  /-- Half-widths of the last acquisition search: code in 2^-16 ns (0 the full period) and Doppler in Hz (R122). -/
  searchCode : Nat := 0
  searchHz : Nat := 0
  /-- Centre of that search in the samples, mHz (R117). -/
  searchCentre : Int := 0
  deriving DecidableEq, Repr

end Sys2Proof.Machine
end

