-- ==== Sys2Proof/Blocks/Dial.lean ====
section
/-! DEFINITION. State of the Dial (R98 to R114). -/

namespace Sys2Proof.Machine

/-- A result of a channel, as RES0 to RES3 show it. -/
structure DialResult where
  /-- TIMESTAMP: the 96-bit Lode time. INTERVAL, FREQUENCY: the 64-bit value. -/
  value : Nat := 0
  isTime : Bool := true
  /-- FREQUENCY: the number of points N. -/
  n : Nat := 0
  seq : Nat := 0
  line : Bool := false
  pull : Bool := false
  noAge : Bool := false
  timeout : Bool := false
  invalid : Bool := false
  deriving DecidableEq, Repr

/-- A frequency gate in progress (R106). -/
structure DialGate where
  startTick : Nat := 0
  /-- Timestamped edges since the gate began. -/
  edges : Nat := 0
  /-- Points (k, t_k + r) in 2^-16 ns, newest first. -/
  pts : List (Nat × Int) := []
  invalid : Bool := false
  pull : Bool := false
  deriving DecidableEq, Repr

/-- An edge as a delay line takes it: the line's code (R100), and how long, in ns, the pulse is that it begins (R79, R171). -/
structure PinEdge where
  code : Nat
  width : Nat
  deriving DecidableEq, Repr

/-- A 10 ms block of a sample clock's timestamps (R118): the first, their number, the sums of t_k and of k t_k relative to
the first, the last, and whether one is missing, late or invalid. -/
structure SampleBlock where
  /-- The last timestamp of the block before it. -/
  before : Option Nat := none
  first : Nat := 0
  n : Nat := 0
  sumT : Int := 0
  sumKT : Int := 0
  last : Nat := 0
  bad : Bool := false
  deriving DecidableEq, Repr

/-- A Dial channel. -/
structure DialChSt where
  /-- Ticks until which lines L0 and L1 are busy (R101). -/
  busy0 : Nat := 0
  busy1 : Nat := 0
  /-- Last timestamp in 2^-16 ns, with its tick. -/
  lastT : Option (Nat × Nat) := none
  /-- Valid timestamps of the last second with their ticks, newest first, at most 1,024 (R170). -/
  recent : List (Nat × Nat) := []
  /-- A triggered measurement runs, since the tick; another is held (R105). -/
  running : Option Nat := none
  held : Bool := false
  /-- Start edge of an INTERVAL measurement. -/
  startT : Option Int := none
  /-- That edge's timestamp is invalid (R56). -/
  startBad : Bool := false
  gate : Option DialGate := none
  /-- The block in progress of a sample clock. -/
  block : SampleBlock := {}
  result : DialResult := {}
  isNew : Bool := false
  latched : DialResult := {}
  latchedNew : Bool := false
  /-- Drift of each line at its last complete check, units of 2^-16 ps. -/
  drift0 : Nat := 0
  drift1 : Nat := 0
  /-- Tick of the last complete check of each line. -/
  check0 : Nat := 0
  check1 : Nat := 0
  stale0 : Bool := false
  stale1 : Bool := false
  /-- A check of the channel is in progress since the tick; its lines that are complete (R110, R111). -/
  checking : Option Nat := none
  done0 : Bool := false
  done1 : Bool := false
  /-- Excess in force, units of 2^-16 ps, and what the last three consecutive complete checks gave (R112). -/
  excess : Nat := 0
  lastThree : List Nat := []
  deriving DecidableEq, Repr

/-- The Dial. -/
structure DialSt where
  ch : Sparse DialChSt := []
  /-- Junction temperature at the delay lines, deg C. -/
  temp : Int := 0
  /-- DIAL_CHECK is in progress. -/
  chkRun : Bool := false
  /-- Tick of the last reset: no line has been checked before it (R111). -/
  since : Nat := 0
  deriving DecidableEq, Repr

end Sys2Proof.Machine
end

