-- ==== Sys2Proof/Blocks/Assay.lean ====
section
/-! DEFINITION. State of the Assay and of the Tally. -/

namespace Sys2Proof.Machine

/-- Qualification states (R85). -/
inductive QState where
  | disabled
  | absent
  | rejected
  | soak
  | qualified
  | holdoff
  deriving DecidableEq, Repr

/-- The code of ASSAY_REF_STATE.QSTATE (R85). -/
def QState.code : QState → Nat
  | .disabled => 0
  | .absent => 1
  | .rejected => 2
  | .soak => 3
  | .qualified => 4
  | .holdoff => 5

/-- What a received haulage or twin record says (R39, R138). -/
structure RxRecord where
  code : Nat := 0
  growth : Nat := 0
  flags : Nat := 0
  hop : Nat := 0
  trace : Nat := 0
  /-- Instant of the record, Lode time in 2^-16 ns. -/
  instant : Nat := 0
  /-- Origin trace word that came with it. -/
  origin : Nat := 0
  deriving DecidableEq, Repr

/-- What the Tally takes from a reference's last good measurement (R136 to R138). -/
structure SrcSt where
  /-- The reference; 63 none. -/
  ref : Nat := 63
  /-- Its entry. -/
  entry : RefRec := {}
  /-- Daylight: class of the solution, reported noise and anchored residual in 2^-16 ns. -/
  dual : Bool := true
  sigmaSol : Nat := 0
  cD : Nat := 0
  /-- Haulage and twin: the received record, and the link that brought it. -/
  rx : Option RxRecord := none
  link : Nat := 0
  /-- e - r of the last 64 good measurements (R137). -/
  er : List Int := []
  /-- f_n in use, uHz. -/
  fn : Nat := 10000
  deriving DecidableEq, Repr

/-- The monitor set of one reference (R78 to R90). -/
structure RefSt where
  q : QState := .disabled
  active : Bool := false
  /-- Last frequency-check result, units of 2^-64 (R80). -/
  freq : Option Int := none
  /-- The result of the gate before it, by which the edge that ends a gate is predicted (R81). -/
  freqPrev : Option Int := none
  /-- Last residual c in 2^-16 ns and whether it was inside the accept and reject limits (R81). -/
  cons : Nat := 0
  consAcc : Bool := false
  consRej : Bool := true
  /-- Source check inside its accept and reject limits, and an immediate failure (R82). -/
  srcAcc : Bool := false
  srcRej : Bool := false
  immediate : Bool := false
  /-- Decision ticks from which the soak, hold-off and wait-to-restore timers count (R84, R90). -/
  soakTick : Nat := 0
  holdTick : Nat := 0
  wtrTick : Nat := 0
  missRun : Nat := 0
  /-- A missing measurement since the last decision tick (R86). -/
  missed : Bool := false
  /-- Tick of the last valid edge of a clock or pulse reference (R79). -/
  lastEdge : Nat := 0
  /-- Last measurement: e at full width, tick. -/
  lastE : Int := 0
  lastTick : Option Nat := none
  /-- Last good measurement. -/
  goodTick : Option Nat := none
  goodTime : Nat := 0
  /-- Flywheel-referred offsets that passed the activity and frequency checks: (tick, u), newest first (R81). -/
  passed : List (Nat × Int) := []
  /-- Those of good measurements inside the consistency window. -/
  goodU : List (Nat × Int) := []
  /-- e of the last 8 good measurements (R93). -/
  goodE : List Int := []
  /-- What its last good measurement came with. -/
  good : SrcSt := {}
  /-- Offsets of the frequency gate in progress (R80): (tick, e). -/
  fitE : List (Nat × Int) := []
  /-- A measurement produced by the device's own block and not yet taken: e, tick of its stamp point. -/
  offered : Option (Int × Nat) := none
  /-- SyncE: last QL and its tick (R95). -/
  ql : Nat := 0
  qlTick : Option Nat := none
  /-- PTP-reference: last clockClass, master identity, identity at qualification, held rate (R96). -/
  ptpClass : Nat := 0
  master : Option Nat := none
  qualMaster : Option Nat := none
  masterLost : Bool := false
  /-- The original master is back and no measurement has yet been judged against the held rate (R96). -/
  returning : Bool := false
  /-- TODIN: consecutive edges without a valid, matching sentence (R82). -/
  todinBad : Nat := 2
  /-- TODIN: an edge awaits its sentence; seconds and edge time of the last valid paired sentence. -/
  todinPend : Bool := false
  todinPrev : Option (Nat × Nat) := none
  heldRate : Int := 0
  /-- PTP-reference: the last measurement before the master was lost (R96): e, tick. -/
  heldE : Int := 0
  /-- Its stamp tick (R96). -/
  heldTick : Option Nat := none
  /-- Haulage and twin: the received record of the last copy applied (R329). -/
  rx : Option RxRecord := none
  /-- Pull remainder r_rx of the last copy and its rate of change in 2^-64 (R319, R328). -/
  rRx : Int := 0
  rRate : Int := 0
  /-- Link whose copy was applied last (R329). -/
  rxLink : Nat := 0
  /-- Daylight: class of the last valid solution, reported noise and anchored residual in 2^-16 ns. -/
  dual : Bool := true
  sigmaSol : Nat := 0
  cD : Nat := 0
  deriving DecidableEq, Repr

/-- The course of the time up to a tick at which it bends: phi_t and Lode time then (2^-56 ns), and what each of them had
added per tick before (R17, R81). -/
structure TimeMark where
  tick : Nat := 0
  phi : Int := 0
  corr : Int := 0
  time : Nat := 0
  rate : Nat := 0
  deriving DecidableEq, Repr

/-- The Assay (R76 to R97). -/
structure AssaySt where
  refs : Sparse RefSt := []
  selRef : Nat := 63
  selPos : Nat := 0
  started : Bool := false
  /-- Millisecond of the last decision tick, and how far the steps of Lode time have moved its milliseconds: decision
  ticks are counted without them (R84). -/
  tickMs : Nat := 0
  stepMs : Int := 0
  refSeq : Nat := 0
  fwOk : Bool := false
  /-- Measured flywheel bounds: y in units of 2^-64, a in units of 2^-64 per second (R97). -/
  yMeas : Nat := 0
  aMeas : Nat := 0
  /-- Block averages: (tick, fractional frequency in 2^-64), newest first. -/
  blocks : List (Nat × Int) := []
  /-- The block in progress has been spent wholly in LOCKED, and the tick at which it began. -/
  blockOk : Bool := true
  blockTick : Nat := 0
  /-- Flywheel time offset phi_t in units of 2^-56 ns (R81). -/
  phi : Int := 0
  /-- Where corr_t, phi_t, the increment or Lode time itself last changed, newest first (R17, R81). -/
  phiMarks : List TimeMark := []
  deriving DecidableEq, Repr

/-- Service gate of one seam (R151). -/
structure SeamGate where
  stopped : Bool := true
  /-- Tick since which its evaluated bound has been at or below the limit. -/
  belowTick : Option Nat := none
  deriving DecidableEq, Repr

/-- The latched Tally registers (R136, TALLY_LATCH). -/
structure TallyLatch where
  bound : Nat := 0xFFFFFFFF
  boundHaul : Nat := 0xFFFFFFFF
  growth : Nat := 0xFFFF
  hop : Nat := 0
  trace : Nat := 0xFFC00000
  origin : Nat := 0xFFC00000
  lastGood : Nat := 0
  /-- Term registers 0x0040 to 0x006C, by offset. -/
  terms : Sparse Nat := []
  deriving DecidableEq, Repr

/-- The Tally (R136 to R151, R21, R22). -/
structure TallySt where
  epoch : Nat := 0
  hold : Bool := false
  lastInc : Option Nat := none
  /-- The ticks of the last epoch increments and hold settings, newest first (R188). -/
  moves : List Nat := []
  /-- Last selected reference; 63 none. -/
  lastSel : Nat := 63
  /-- What its last good measurement came with: HOLDOVER keeps it when the entry is removed (R147). -/
  src : SrcSt := {}
  /-- Conditions last seen, for the interrupt edges. -/
  unbounded : Bool := true
  degraded : Bool := false
  traceSeen : Nat := 0xFFC00000
  originSeen : Nat := 0xFFC00000
  /-- Split: set, |delta| and the term S in 2^-16 ns (R143, R330). -/
  split : Bool := false
  splitDelta : Nat := 0
  splitTerm : Nat := 0
  /-- Excess of each Dial channel in 2^-16 ns (R112). -/
  excess : Sparse Nat := []
  gates : Sparse SeamGate := []
  latch : TallyLatch := {}
  deriving DecidableEq, Repr

end Sys2Proof.Machine
end

