-- ==== Sys2Proof/Blocks/Shaft.lean ====
section
/-! DEFINITION. State of the Shaft, the session store, the crypto lanes, the Magazine and the seams' regulators (R258 to R313). -/

namespace Sys2Proof.Machine

/-- What a Shaft request asks (R258). -/
inductive ReqKind where
  | get
  | put
  | crypto
  | inbox
  /-- A STAMP of a standard program, while it waits (R261). -/
  | stamp
  /-- An EMIT to the control gate of more than one transfer (R259). -/
  | emit
  deriving DecidableEq, Repr

/-- A CRYPTO operation as its operand block gives it (R247). -/
structure CryptoOp where
  code : Nat := 0
  /-- The key: from a slot of the Magazine, or the bytes of a session slot. -/
  slot : Option Nat := none
  key : List Nat := []
  /-- The slot's LABEL, read with its key. -/
  label : Nat := 0
  /-- Segments: role and bytes. -/
  segs : List (Nat × List Nat) := []
  /-- Session slot 0 at the call, for NTS seal. -/
  slot0 : List Nat := []
  outOff : Nat := 0
  outLim : Nat := 0
  deriving DecidableEq, Repr

/-- A helper request on the Shaft. -/
structure ShReq where
  id : Nat
  pick : Nat
  gal : Nat
  seam : Nat
  kind : ReqKind
  /-- Class of the pick at the request (R266). -/
  cls : Nat := 1
  /-- Session requests: record address, none without a match; RESULT slot; record of a PUT. -/
  addr : Option Nat := none
  slot : Nat := 0
  data : List Nat := []
  op : CryptoOp := {}
  /-- Lanes that may serve it (R268). -/
  lanes : Nat := 0
  lane : Option Nat := none
  keyFetched : Bool := true
  /-- Destination gallery of an INBOX call, and the cell reserved there. -/
  dest : Nat := 0
  cell : Nat := 0
  /-- Beats of its input, and those accepted. -/
  beats : Nat := 1
  sent : Nat := 0
  /-- DENIED at issue: the status arrives at its fixed time (R300). -/
  denied : Bool := false
  issueTick : Nat := 0
  /-- Home gallery of the pair whose item made the call (R232). -/
  home : Nat := 0
  nowait : Bool := false
  passes : Nat := 0
  promoted : Bool := false
  /-- A transfer of it has been granted; it has been held back (R262). -/
  granted : Bool := false
  heldBack : Bool := false
  /-- Tick from which a fixed-slot operation may send its input. -/
  readyTick : Nat := 0
  /-- Tick at which its last beat was accepted. -/
  doneTick : Option Nat := none
  /-- Channel accesses that its line takes, waiting for its seam's channel budget, and its place in that queue (R306). -/
  need : Nat := 0
  budgetWait : Bool := false
  waitNo : Nat := 0
  /-- Transfers of its result that have come back (R273). -/
  back : Nat := 0
  /-- The input check fails at the lane (R291). -/
  checkOk : Bool := true
  /-- Its item has ended by a fence: results are discarded (R227). -/
  stale : Bool := false
  deriving DecidableEq, Repr

/-- The transfer that holds a target (R259, R272). -/
structure Holder where
  req : Nat
  gal : Nat
  seam : Nat
  beats : Nat
  isProtected : Bool := false
  backstop : Bool := false
  /-- A fetch of a key from the Magazine for the request. -/
  fetch : Bool := false
  deriving DecidableEq, Repr

/-- Lottery state of one group (R269, R271). -/
structure GroupSt where
  /-- The LFSR: the number of the reset at which the entropy source seeded it, and its shifts since. -/
  lfsr : Nat × Nat := (0, 0)
  lastWinner : Nat := 15
  /-- Losses of each gallery. -/
  loss : Sparse Nat := []
  /-- The seams of the last 4,096 beats granted, newest first, as (seam, beats). -/
  window : List (Nat × Nat) := []
  deriving DecidableEq, Repr

/-- The Shaft. -/
structure ShaftSt where
  reqs : List ShReq := []
  nextReq : Nat := 0
  /-- Holder of each target. -/
  holders : Sparse (Option Holder) := []
  /-- Target that each gallery's outbound channel serves, plus one; 0 free. -/
  chan : Sparse Nat := []
  groups : Sparse GroupSt := []
  /-- Round robin position of each class in each gallery, by 4 * gallery + class: pick last granted, plus one. -/
  rrPick : Sparse Nat := []
  /-- The handshake cycle of the latest draw: its tick (R268). -/
  cycleTick : Nat := 0
  /-- The target drawn last in it, plus one (R268). -/
  cycleLast : Nat := 0
  /-- The galleries that have won in it (R268). -/
  cycleWon : List Nat := []
  /-- Target that last returned a transfer to each gallery's inbound direction, plus one (R273). -/
  rrIn : Sparse Nat := []
  /-- Last sender of each inbox, plus one. -/
  rrInbox : Sparse Nat := []
  /-- Classes and tokens in force: by 2 * gallery and 2 * gallery + 1 the class words, and the token words. -/
  classNow : Sparse Nat := []
  tokens : Sparse Nat := []
  deriving DecidableEq, Repr

/-- A directory entry (R280). -/
structure DirEntry where
  valid : Bool := false
  nru : Bool := false
  tag : Nat := 0
  deriving DecidableEq, Repr

/-- A line of the session cache (R285). -/
structure CacheLine where
  /-- Global index of the record, plus one; 0 empty. -/
  line : Nat := 0
  dirty : Bool := false
  nru : Bool := false
  deriving DecidableEq, Repr

/-- The session store. -/
structure SessSt where
  dir : Sparse DirEntry := []
  /-- Records by global index: what their cache line or their memory holds; none listed reads as zero. -/
  recs : Sparse (List Nat) := []
  /-- Cache lines by ((bank * 8192) + set) * 16 + way. -/
  cache : Sparse CacheLine := []
  /-- Trained channels, bit m. -/
  trained : Nat := 0
  trainedOnce : Bool := false
  /-- Channel buckets by 16 * channel + seam: what is missing from a full bucket, in accesses scaled by 256 * 10^9,
  and the ns at which it was brought up to date (R306). -/
  bucket : Sparse (Nat × Nat) := []
  /-- Accesses in the session gate of a channel, in that scale, and the time in ns to which they are counted (R14). -/
  gate : Sparse (Nat × Nat) := []
  /-- Last patrol scrub of each channel, tick. -/
  scrubTick : Sparse Nat := []
  deriving DecidableEq, Repr

/-- One crypto lane (R287 to R293). -/
structure LaneSt where
  fenced : Bool := false
  /-- The known-answer test runs, or starts once the bound operation completes (R292). -/
  testing : Bool := false
  testDue : Bool := false
  /-- Ticks of the test failures of the last 24 h, consecutive passes while fenced, and fenced until reset. -/
  fails : List Nat := []
  passes : Nat := 0
  stuck : Bool := false
  /-- Requests of its DRBG since the last reseed. -/
  drbg : Nat := 0
  /-- Bound operation, request number plus one. -/
  bound : Nat := 0
  /-- Tick at which its last known-answer test ended. -/
  testEnd : Nat := 0
  /-- Fixed-slot contexts: tick after the last beat of each seam's last operation (R293). -/
  ctx : Sparse Nat := []
  deriving DecidableEq, Repr

/-- A Magazine slot (R295). -/
structure MagSlot where
  owner : Nat := 0
  device : Bool := false
  /-- 0 MAC, 1 ENCRYPT, 2 VERIFY, 3 SIGN. -/
  usage : Nat := 0
  len32 : Bool := false
  /-- 0 lanes, 1 haulage, 2 Survey verifier, 3 PK unit. -/
  bind : Nat := 0
  loaded : Bool := false
  isSealed : Bool := false
  lanes : Nat := 0
  label : Nat := 0
  value : Nat := 0
  deriving DecidableEq, Repr

/-- The crypto block (R287 to R301). -/
structure CryptoSt where
  lanes : Sparse LaneSt := []
  mag : Sparse MagSlot := []
  /-- Busy PK units, bit u. -/
  pkBusy : Nat := 0
  deriving DecidableEq, Repr

/-- The regulators and protocol state of one seam. -/
structure SeamSt where
  /-- What each policer's fill lacks of B, in frames scaled by one second of 2^-16 ns, and the Lode time of its
  last growth (R305). -/
  pol : Sparse (Nat × Nat) := []
  /-- NAKs sent in the current second, and the second (R215). -/
  nakSec : Nat := 0
  nakN : Nat := 0
  /-- Delay_Reqs answered in the last second: client and T_rx (R202). -/
  delays : List (List Nat × Nat) := []
  deriving DecidableEq, Repr

/-- A PTP-reference exchange in progress (R209). -/
structure PtpRefSt where
  /-- sequenceId and launch instant t3 of the last Delay_Req. -/
  seq : Nat := 0
  t3 : Option Nat := none
  /-- Sync: sequenceId, t1 in 2^-16 ns, and T_rx t2. -/
  syncSeq : Nat := 0
  t1 : Option Nat := none
  t2 : Option Nat := none
  /-- correctionField of a two-step Sync. -/
  syncCorr : Int := 0
  /-- Master portIdentity, Announce clockClass and the tick of the last Announce. -/
  master : Option Nat := none
  clockClass : Nat := 255
  annTick : Option Nat := none
  /-- Tick at which the unicast grants end. -/
  grantEnd : Nat := 0
  deriving DecidableEq, Repr

end Sys2Proof.Machine
end

