-- ==== Sys2Proof/Blocks/Haul.lean ====
section
/-! DEFINITION. State of the haulage and twin units and of the snapshots (R314 to R343). -/

namespace Sys2Proof.Machine

/-- A leap state as a frame carries it: UTC offset, pending leap, leap instant (R319). -/
structure LeapWord where
  offset : Int := 0
  pending : Int := 0
  instant : Nat := 0
  deriving DecidableEq, Repr

/-- A received copy that awaits its release by `haul` (R317). -/
structure HCopy where
  /-- Frame type of R318. -/
  type : Nat := 1
  seq : Nat := 0
  /-- t1 and t2 in 2^-16 ns, and the tick of t2. -/
  t1 : Int := 0
  t2 : Nat := 0
  tick : Nat := 0
  rx : RxRecord := {}
  rRx : Int := 0
  rRate : Int := 0
  leap : Option LeapWord := none
  /-- LEAD of a TWIN frame. -/
  lead : Bool := false
  /-- t2 was latched while COARSE was 1, and is invalid (R56). -/
  bad : Bool := false
  released : Bool := false
  deriving DecidableEq, Repr

/-- A keyframe that a receiver keeps (R326). -/
structure HKey where
  seq : Nat := 0
  t1 : Nat := 0
  origin : Nat := 0xFFC00000
  deriving DecidableEq, Repr

/-- A held delta (R326): the frame with t2 and its tick. -/
structure HDelta where
  seq : Nat := 0
  keySeq : Nat := 0
  t2 : Nat := 0
  tick : Nat := 0
  bad : Bool := false
  frame : List Nat := []
  /-- `haul` has released it. -/
  released : Bool := false
  deriving DecidableEq, Repr

/-- A KEY frame that the sender keeps, with the repeats sent of it (R326). -/
structure HSent where
  seq : Nat := 0
  frame : List Nat := []
  t1 : Nat := 0
  reps : Nat := 0
  /-- LABEL of its key. -/
  key : Nat := 0
  deriving DecidableEq, Repr

/-- A body issued for a slot (R317). -/
structure HBody where
  /-- Slot number of R316, unreduced. -/
  slot : Nat := 0
  type : Nat := 1
  /-- LABEL of the key that it is sent under (R324). -/
  key : Nat := 0
  /-- The DELAY_REQ or TWIN frame that it echoes: sequence and t4. -/
  echo : Option (Nat × Nat) := none
  /-- The frame that `haul` has EMITted. -/
  frame : Option (List Nat) := none
  deriving DecidableEq, Repr

/-- A haulage or twin link. -/
structure HLinkSt where
  up : Bool := false
  /-- Accepted round trips d_j, newest first, at most 16; how many since the last (re)start, up to 16; rejections in a
  row; and the last mean (R327). -/
  d : List Int := []
  accepted : Nat := 0
  rejRun : Nat := 0
  dBar : Int := 0
  /-- Own requests: (sequence, t3), newest first; forward copies: (t2, t1), newest first. -/
  reqs : List (Nat × Nat) := []
  fwd : List (Nat × Int) := []
  keys : List HKey := []
  /-- Oldest first. -/
  held : List HDelta := []
  copies : List HCopy := []
  /-- Last sequence accepted, plus one, by kind: 0 KEY and DELTA, 1 TWIN, 2 DELAY_REQ, 3 KEY_REQ (R325). -/
  lastSeq : Sparse Nat := []
  lastAccepted : Nat := 0
  /-- Key sequence of the last delta. -/
  deltaKey : Option Nat := none
  hop : Nat := 0
  /-- Newest-key byte of the peer's last valid frame. -/
  peerKey : Option Nat := none
  /-- DELAY_REQ or peer TWIN frame to echo: sequence and t4. -/
  echo : Option (Nat × Nat) := none
  body : Option HBody := none
  /-- The next frame is a keyframe; origin trace word and leap state of the last body issued (R316). -/
  firstKey : Bool := true
  lastOrigin : Nat := 0xFFC00000
  lastLeap : LeapWord := {}
  sent : List HSent := []
  /-- Largest slot number sent, plus one, by type (R332). -/
  sentMax : Sparse Nat := []
  /-- What `sentMax` of KEY_REPEAT was at the last backward step: repeats of older slots are not sent (R332). -/
  repBar : Nat := 0
  /-- Keyframe that the peer has asked for, with the tick of the KEY_REQ; ticks of the repeats of the last second. -/
  want : Option (Nat × Nat) := none
  repTicks : List Nat := []
  /-- Tick of the last own KEY_REQ. -/
  keyReqTick : Option Nat := none
  txKey : Nat := 0
  /-- The last frame sent, its FCS, and its departure instant in 2^-16 ns. -/
  line : List Nat := []
  /-- FCS of that frame (R317). -/
  lineFcs : Nat := 0
  lineTime : Nat := 0
  deriving DecidableEq, Repr

/-- A copy of a sequence number at a feed: link, offset e, record, and the rest of what applying it takes. -/
structure FeedCopy where
  link : Nat := 0
  e : Int := 0
  copy : HCopy := {}
  deriving DecidableEq, Repr

/-- A feed (R329, R330). -/
structure FeedSt where
  /-- Copies applied, newest first, at most 64. -/
  applied : List FeedCopy := []
  /-- Sequence numbers whose copies wait for w_s: the tick of the first, and the copies, earliest first. -/
  wait : List (Nat × Nat × List FeedCopy) := []
  /-- Largest |delta| by sequence number over the last 64, newest first. -/
  deltas : List (Nat × Nat) := []
  /-- Consecutive sequence numbers above tau_s, and the last of them. -/
  run : Nat := 0
  runSeq : Nat := 0
  /-- Last sequence number above tau_s / 2. -/
  halfSeq : Nat := 0
  split : Bool := false
  /-- The record of the last other copy. -/
  other : Option RxRecord := none
  /-- Sequence and leap state of its newest keyframe or, for the twin, lead's frame (R31). -/
  leap : Option (Nat × LeapWord) := none
  deriving DecidableEq, Repr

/-- Twin states (R333). -/
inductive TwinState where
  | none
  | join
  | claim
  | lead
  | follow
  | hush
  deriving DecidableEq, Repr

/-- The code of HAUL_TWIN.STATE. -/
def TwinState.code : TwinState → Nat
  | .none => 0
  | .join => 1
  | .claim => 2
  | .lead => 3
  | .follow => 4
  | .hush => 5

/-- The twin unit (R333 to R337). -/
structure TwinSt where
  state : TwinState := .none
  joinTick : Nat := 0
  claimSeen : Bool := false
  /-- Consecutive slots of peer frames with CLAIM = 0, and the last. -/
  run : Nat := 0
  runSeq : Nat := 0
  /-- Tick since which the lag in JOIN, or in HUSH every FOLLOW condition, has held. -/
  okSince : Option Nat := none
  peerLead : Bool := false
  peerSen : Nat := 0
  peerSerial : Nat := 0
  /-- Slot of the last valid peer frame, its tick, and its sequence number. -/
  peerSlot : Option Nat := none
  peerTick : Nat := 0
  lastSeq : Option Nat := none
  seqOk : Bool := false
  /-- Own sequence numbers sent with CLAIM = 1, newest first, at most 16. -/
  claims : List Nat := []
  /-- Sequence numbers of the peer's frames with CLAIM = 1, newest first, at most 16. -/
  peerClaims : List Nat := []
  /-- PEER_CANARY runs, and the tick of its last edge (R335). -/
  canary : Bool := false
  canaryTick : Nat := 0
  /-- ID 32 is at position 0 of the time list (R336). -/
  inList : Bool := false
  deriving DecidableEq, Repr

/-- A snapshot: the header of R338 and the sections of R339, held as their values. -/
structure Snap where
  serial : Nat := 0
  role : Role := .headframe
  version : Nat := 1
  stream : Nat := 0
  /-- Capture instant in TAI seconds (header) and Lode time. -/
  secs : Nat := 0
  time : Nat := 0
  /-- The tick of the capture instant, from which the ages of the orbit data count. -/
  tick : Nat := 0
  digest : Nat := 0
  label : Nat := 0
  nonce : List Nat := []
  /-- The key that it is sealed under, and whether its tag verifies under that key (R338). -/
  key : List Nat := []
  tagOk : Bool := true
  leap : LeapWord := {}
  inc : Nat := 0
  integ : Int := 0
  integF : Int := 0
  yFw : Int := 0
  fAvg : Int := 0
  ageRate : Int := 0
  /-- Number of LO samples of the fit (R341). -/
  fitN : Nat := 0
  /-- y (2^-48) and a (2^-64 per s) of flywheel classes 0 to 3. -/
  ya : List (Nat × Nat) := []
  lodeState : Nat := 0
  fwClass : Nat := 0
  epoch : Nat := 0
  cal : Nat := 0
  orbit : Sparse OrbitSt := []
  dir : Sparse DirEntry := []
  recs : Sparse (List Nat) := []
  deriving DecidableEq, Repr

/-- A save in progress (R340). -/
structure SaveSt where
  snap : Snap := {}
  half : Nat := 0
  /-- Host address of that half (R340). -/
  addr : Nat := 0
  /-- SNAPSHOT_SAVE runs it and holds the mailbox. -/
  mailbox : Bool := false
  /-- Issued from SPI: staged only (R372). -/
  spi : Bool := false
  /-- The command that waits for it is from SPI, and needs the staged snapshot alone (R372). -/
  forSpi : Bool := false
  deriving DecidableEq, Repr

/-- Snapshots (R338 to R341). -/
structure SnapSt where
  /-- The staged snapshot, byte by byte (R278, R376). -/
  staged : List Nat := []
  save : Option SaveSt := none
  restoring : Bool := false
  /-- Half of the last good save since reset. -/
  good : Option Nat := none
  restored : Bool := false
  lastSecs : Nat := 0
  /-- What the device has written to host buffers, by the address of the half. -/
  halves : Sparse (Option Snap) := []
  /-- y and a of flywheel classes 0 to 3 that a restore brought (R341). -/
  ya : List (Nat × Nat) := []
  deriving DecidableEq, Repr

/-- Haulage, twins and snapshots. -/
structure HaulSt where
  links : Sparse HLinkSt := []
  feeds : Sparse FeedSt := []
  twin : TwinSt := {}
  snap : SnapSt := {}
  deriving DecidableEq, Repr

end Sys2Proof.Machine
end

