-- ==== Sys2Proof/Blocks/Host.lean ====
section
/-! DEFINITION. State of power, reset, straps, the Survey image, the mailboxes, PCIe, SPI and the fault collector. -/

namespace Sys2Proof.Machine

/-- Whether the device is unpowered, held in reset or released (R413 to R415). -/
inductive PowerPhase where
  | off
  | inReset
  | running
  deriving DecidableEq, Repr

/-- Power, reset and straps. -/
structure PowerSt where
  phase : PowerPhase := .inReset
  /-- Rails below their reset threshold, as fault source numbers 304 to 310. -/
  railsLow : List Nat := []
  /-- RESET_N is low. -/
  resetPinLow : Bool := true
  /-- GLB_RESET.CAUSE. -/
  cause : Nat := 0
  lcResumed : Bool := false
  /-- Sampled BOOT_SRC strap. -/
  bootSrc : Nat := 0
  /-- Sampled QSPI_ADDR4 strap. -/
  addr4 : Bool := false
  /-- The SFDP density of the flash is at least 64 MiB (R357). -/
  flash64 : Bool := false
  releaseTick : Nat := 0
  selftestDone : Bool := false
  selftestFailed : Bool := false
  entropySeeded : Bool := false
  /-- GLB_LIFECYCLE.KEY_PRIV (R374). -/
  keyPriv : Bool := false
  deriving DecidableEq, Repr

/-- OTP and other state that only its own commands change (R415 keeps it through every reset). [DESIGN CHOICE, log 8] -/
structure OtpSt where
  /-- The device serial (GLB_SERIAL). -/
  serial : Nat := 0
  lifecycle : Nat := 0
  /-- Subsystem vendor ID in the low half, subsystem ID in the high half (R363). -/
  subsystem : Nat := 0
  svnFloor : Nat := 0
  /-- A life-cycle erasure has begun and has not completed (R420). -/
  erasePending : Bool := false
  /-- Dial channels whose OTP CRC fails. -/
  dialBad : List Nat := []
  deriving DecidableEq, Repr

/-- An entry of an amendment log (R361). -/
structure LogEntry where
  complete : Bool := true
  /-- Its signatures verify. -/
  sigOk : Bool := true
  image : Image := {}
  deriving DecidableEq, Repr

/-- A flash slot (R357). [DESIGN CHOICE, log 8] -/
structure FlashSlot where
  image : Option Image := none
  log : List LogEntry := []
  deriving DecidableEq, Repr

/-- What a load or amendment being checked is for. -/
inductive CheckPurpose where
  | boot (slot : Nat)
  | load (flash : Bool)
  | amend (persist : Bool)
  deriving DecidableEq, Repr

/-- An image under the checks of R352. -/
structure CheckSt where
  purpose : CheckPurpose
  image : Image
  readError : Bool := false
  /-- Bytes read. -/
  len : Nat := 0
  /-- Verifications reported: (signer index, unit 0 P-384 or 1 ML-DSA-65, valid). -/
  verdicts : List (Nat × Nat × Bool) := []
  /-- The checks have passed and what is left is the log write or the activation. -/
  accepted : Bool := false
  logWritten : Bool := false
  /-- The records of the amendment are in force (R356). -/
  applied : Bool := false
  /-- Flash slot that SURVEY_LOAD writes (R361). -/
  slot : Nat := 0
  deriving DecidableEq, Repr

/-- The Survey registers and what they stand for. -/
structure SurvSt where
  /-- 0 NONE, 1 LOADING, 2 VERIFIED, 3 APPLIED, 4 FAILED. -/
  state : Nat := 0
  src : Nat := 0
  cause : Nat := 0
  svn : Nat := 0
  serial : Nat := 0
  /-- M of the full image in force. -/
  digest : Nat := 0
  /-- Sequence numbers in force by record type. -/
  seqs : Sparse Nat := []
  /-- PROGRAMS sequence number per gallery. -/
  progSeq : Sparse Nat := []
  logReplayed : Nat := 0
  patchVersion : Nat := 0
  /-- The redirections of ROM lines in force, as ROM address and offset into the patch area, and the patch area's code (R358). -/
  patchEntries : List (Nat × Nat) := []
  patchArea : List Nat := []
  structureApplied : Bool := false
  check : Option CheckSt := none
  /-- The image read and verified at boot. -/
  booted : Option Image := none
  /-- Slots already tried in this boot. -/
  tried : List Nat := []
  /-- Galleries whose swaps an amendment still has to do, ascending (R233, R356). -/
  swaps : List Nat := []
  /-- Digests latched in the policy port (R350). -/
  policyLatch : List Nat := []
  /-- SURVEY_LOAD wrote slot A while it held the image in force (R357). -/
  logOwnerChanged : Bool := false
  deriving DecidableEq, Repr

/-- What survives a configuration reset for SURVEY_LOAD with FLASH clear (R361). -/
structure HostLoad where
  addr : Nat
  len : Nat
  digest : Nat
  deriving DecidableEq, Repr

/-- Mailbox sets that reach the command engine (R370). -/
inductive MbxSrc where
  | pf
  | spi
  deriving DecidableEq, Repr

/-- Who makes a register access: the PF in BAR0, or the VF of a seam in its window (R307). -/
inductive Master where
  | pf
  | vf (n : SeamNo)
  deriving DecidableEq, Repr

/-- A mailbox set, less its RW registers, which are in the register file. -/
structure MbxSet where
  done : Bool := false
  result : Nat := 0
  doneCode : Nat := 0
  tag : Nat := 0
  elapsed : Nat := 0
  outs : Sparse Nat := []
  deriving DecidableEq, Repr

/-- The command that runs in the engine (R370). -/
structure Running where
  src : MbxSrc
  code : Nat
  flags : Nat := 0
  args : List Nat := []
  startTick : Nat := 0
  /-- RESULT once it is settled. -/
  result : Option Nat := none
  /-- Whether the command ends at exactly 4 us (R299, R372). -/
  exact4us : Bool := false
  outs : List Nat := []
  /-- The PF was reset while it ran (R365). -/
  discard : Bool := false
  deriving DecidableEq, Repr

/-- A VF set with its command in progress (R375). -/
structure VfSet where
  set : MbxSet := {}
  /-- Code and doorbell tick of its own running command. -/
  running : Option (Nat × Nat) := none
  deriving DecidableEq, Repr

/-- The command engine and its sets. -/
structure MbxSt where
  pf : MbxSet := {}
  spi : MbxSet := {}
  vf : Sparse VfSet := []
  running : Option Running := none
  deriving DecidableEq, Repr

/-- MSI-X state of one vector, and the messages it has sent. -/
structure MsixVec where
  pending : Bool := false
  sent : Nat := 0
  deriving DecidableEq, Repr

/-- PCIe endpoint, power state and wake (R363 to R369, R379, R380). -/
structure PcieSt where
  inReset : Bool := true
  cfgRetry : Bool := true
  retryEndTick : Nat := 0
  busMaster : Bool := false
  d3hot : Bool := false
  linkL1 : Bool := false
  pmeStatus : Bool := false
  pmeSent : Nat := 0
  /-- A wake request has been made and not yet sent. -/
  wakePending : Bool := false
  /-- Vectors 0 to 63 of the PF, then 64 + 4 v + i for vector i of VF v + 1. -/
  vecs : Sparse MsixVec := []
  /-- The data of the host's last register read. -/
  readData : Nat := 0
  deriving DecidableEq, Repr

/-- SPI target port (R376 to R378). -/
structure SpiSt where
  access : Bool := false
  /-- The bytes returned by the last transaction on MISO. -/
  miso : List Nat := []
  deriving DecidableEq, Repr

/-- A fault source (R385). -/
structure FaultSrcSt where
  level : Nat := 0
  active : Bool := false
  ack : Bool := false
  winOpen : Bool := false
  /-- Start of the window, collector us. -/
  winFrom : Nat := 0
  cnt : Nat := 0
  lastCause : Nat := 0
  /-- Held causes asserted. -/
  held : List Nat := []
  /-- Instant (collector us) and level of the last record of the source. -/
  lastRec : Option (Nat × Nat) := none
  deriving DecidableEq, Repr

/-- A fault class (R387). -/
structure FaultClassSt where
  /-- Last event instant, collector us. -/
  last : Nat := 0
  /-- Recoveries, for the detail of recovery records. -/
  recoveries : Nat := 0
  deriving DecidableEq, Repr

/-- A log record, words W0 to W3 (R389). -/
structure LogRec where
  w0 : Nat := 0
  w1 : Nat := 0
  w2 : Nat := 0
  w3 : Nat := 0
  deriving DecidableEq, Repr

/-- The fault collector (R381 to R396). -/
structure FaultSt where
  srcs : Sparse FaultSrcSt := []
  classes : Sparse FaultClassSt := []
  log : Sparse LogRec := []
  seq : Nat := 0
  heartbeatTick : Nat := 0
  /-- Tick at which the present run of the on-die oscillator began, while the LO is absent (R394). -/
  oscFrom : Nat := 0
  /-- The runs of the on-die oscillator that have ended, as first and last tick, oldest first (R394). -/
  oscRuns : List (Nat × Nat) := []
  stall : Bool := false
  canaryLevel : Bool := false
  /-- CANARY was toggling after the last change of its stop conditions. -/
  canaryRun : Bool := false
  /-- The edge or the end of the last stop condition that the next half period counts from. -/
  canaryFrom : Nat := 0
  deriving DecidableEq, Repr

end Sys2Proof.Machine
end

