-- ==== Sys2Proof/Blocks/Ports.lean ====
section
/-! DEFINITION. State of the client ports: link, receive gate, launch reservations, launch buffer and the line (R174 to R197). -/

namespace Sys2Proof.Machine

/-- What the receive timestamp unit and the PCS know of a frame (R177). -/
structure WordTag where
  /-- How long ago the word that holds the timestamp bit was tagged, in Lode time of 2^-16 ns. -/
  age : Nat := 0
  /-- The number of the 64b/66b block that follows the SFD, from an alignment marker, or where the line has none from
  the codeword or block at which the PCS locked; markers are not counted. -/
  block : Nat := 0
  /-- The index in its word of the first bit of that marker, codeword or block. -/
  lock : Nat := 0
  /-- The unit interval measured on the recovered clock, 2^-32 ns. -/
  ui : Nat := 0
  /-- Codewords that the FEC corrected since the last frame. -/
  corrected : Nat := 0
  deriving DecidableEq, Repr

/-- A received frame with its descriptor, at the receive gate (R182, R183). -/
structure RxFrame where
  gal : Nat
  /-- The 32-byte descriptor; bytes 24 to 27 are filled at the packet store. -/
  desc : List Nat
  /-- Frame bytes, FCS excluded. -/
  bytes : List Nat
  /-- The path check verifies at the packet store (R192). -/
  pathOk : Bool := true
  deriving DecidableEq, Repr

/-- Where a timed frame's reservation stands (R189). -/
inductive ResvFate where
  /-- The deadline has not come. -/
  | pending
  /-- Complete at the deadline. -/
  | ready
  /-- Part of the frame was missing at the deadline. -/
  | underrun
  /-- The launch-buffer check failed. -/
  | badPath
  /-- Its frame has started: the reservation runs on to its end (R185). -/
  | sent
  deriving DecidableEq, Repr

/-- A reservation of a port (R185). -/
structure Resv where
  id : Nat
  /-- Launch instant in 2^-16 ns. -/
  launch : Nat
  /-- Stamp epoch that its STAMP returned. -/
  epoch : Nat
  /-- Frame length, FCS excluded. -/
  n : Nat
  fate : ResvFate := .pending
  /-- The frame as the launch buffer will send it, with its insertions, once the deadline has come. -/
  out : List Nat := []
  deriving DecidableEq, Repr

/-- A frame that EMIT has handed over (R251): on the Shaft, in the launch buffer, or waiting to leave. -/
structure TxFrame where
  /-- Position in EMIT order. -/
  seq : Nat
  pick : Nat
  bytes : List Nat
  final : Bool
  /-- Reservation of a timed frame. -/
  resv : Option Nat := none
  /-- Offsets of the IPv4 and UDP checksums, and of originTimestamp and correctionField (R187). -/
  ip4 : Option Nat := none
  udp : Option Nat := none
  oneStep : Option (Nat × Nat) := none
  /-- Bytes that have reached the launch buffer. -/
  arrived : Nat := 0
  /-- The launch-buffer check has found no mismatch. -/
  pathOk : Bool := true
  /-- Its reservation was released vacant: data that arrives is late (R189). -/
  vacant : Bool := false
  /-- Data that arrives is discarded without a further count. -/
  dead : Bool := false
  /-- EMIT has completed: the last beat has crossed the transmit gate. -/
  released : Bool := false
  deriving DecidableEq, Repr

/-- The frame on the line, or the last one. -/
structure LineFrame where
  /-- Bytes without the FCS. -/
  bytes : List Nat := []
  fcs : Nat := 0
  /-- Launch instant of a timed frame. -/
  launch : Option Nat := none
  /-- When its timestamp bit is at the ball: L - C_out (R178). -/
  ball : Nat := 0
  /-- It carries a complemented FCS. -/
  aborted : Bool := false
  /-- Its outcome was counted at the deadline (R189). -/
  counted : Bool := false
  /-- The TBPLL tick that contains L, and whether the epoch or the hold differed when the port sampled them (R188). -/
  tick : Nat := 0
  moved : Bool := false
  /-- Still being sent. -/
  busy : Bool := false
  deriving DecidableEq, Repr

/-- One client port. -/
structure PortSt where
  link : Bool := false
  blockLock : Bool := false
  amLock : Bool := false
  fecLock : Bool := false
  hiBer : Bool := false
  localFault : Bool := false
  remoteFault : Bool := false
  /-- 0 off, 1 running, 2 done, 3 failed. -/
  train : Nat := 0
  tsValid : Bool := false
  /-- The tick at which `tsValid` last changed (R182). -/
  tsTick : Nat := 0
  /-- The launch threshold in ns where it lies above theta_min (R191), and the tick its quiet period counts from. -/
  thetaNs : Nat := 2000
  thetaTick : Nat := 0
  /-- Reservations in ascending launch instant. -/
  resvs : List Resv := []
  /-- Emitted frames in EMIT order. -/
  tx : List TxFrame := []
  gate : List RxFrame := []
  line : LineFrame := {}
  /-- The QL last reported to `esmc` and the ticks of the ESMC PDUs of the last second (R216). -/
  qlSent : Nat := 0xF
  esmcTicks : List Nat := []
  /-- An event PDU replaces the next information PDU. -/
  esmcEvent : Bool := false
  deriving DecidableEq, Repr

/-- The client ports and the counters that name reservations and emitted frames. -/
structure PortsSt where
  ports : Sparse PortSt := []
  nextResv : Nat := 0
  nextTx : Nat := 0
  deriving DecidableEq, Repr

end Sys2Proof.Machine
end

