-- ==== Sys2Proof/Syntax.lean ====
section
/-! DEFINITION. The commands of the block: one constructor for each row of spec/opcode_table.json. -/

namespace Sys2Proof

open Machine

/-- A command, with the row's operands. [DESIGN CHOICE, log 5] -/
inductive Instr where
  /-- POWER_ON (R413). -/
  | powerOn
  /-- BROWN_OUT (R413). -/
  | brownOut (rail : Fin 7)
  /-- POWER_DOWN (R414). -/
  | powerDown
  /-- RESET_N_ASSERT (R415). -/
  | resetNAssert
  /-- RESET_RELEASE (R419). -/
  | resetRelease (pin : Bool) (bootSrc : Fin 4) (addr4 flash64 : Bool)
  /-- BOOT_SELFTEST_DONE (R359). -/
  | bootSelftestDone (pass : Bool) (dialBad : List Nat)
  /-- IMAGE_READ_DONE (R357). -/
  | imageReadDone (host : Option (List Nat)) (ok : Bool)
  /-- IMAGE_CHECKS_DONE (R352). -/
  | imageChecksDone
  /-- PK_VERIFY_DONE (R294). -/
  | pkVerifyDone (unit : Fin 2) (valid : Bool)
  /-- IMAGE_APPLIED (R359). -/
  | imageApplied
  /-- TBPLL_INITIAL_LOCK (R62). -/
  | tbpllInitialLock
  /-- CHANNEL_TRAINING_DONE (R278). -/
  | channelTrainingDone (m : ChanNo) (ok : Bool)
  /-- TBPLL_LOCK_LOSS (R73). -/
  | tbpllLockLoss
  /-- TBPLL_RELOCK (R73). -/
  | tbpllRelock
  /-- REALIGN_DECISION (R74). -/
  | realignDecision (fine : Nat) (theta : Option Int)
  /-- LO_ABSENCE_DETECTED (R75). -/
  | loAbsenceDetected
  /-- LO_RETURN (R75). -/
  | loReturn
  /-- COARSE_RELOAD (R55). -/
  | coarseReload
  /-- REF_MEASUREMENT (R78). -/
  | refMeasurement (ref : RefId) (m : Option (Int × Nat))
  /-- LOCK_SETTLE_EXPIRY (R62). -/
  | lockSettleExpiry
  /-- PULL_END (R66). -/
  | pullEnd
  /-- HOLDOVER_MAX_EXPIRY (R62). -/
  | holdoverMaxExpiry
  /-- LO_CORRECTION_SAMPLE (R72). -/
  | loCorrectionSample
  /-- HOLDOVER_RATE_UPDATE (R72). -/
  | holdoverRateUpdate
  /-- SERVICE_ENABLE (R61). -/
  | serviceEnable
  /-- LODE_TIME_LATCH (R56). -/
  | lodeTimeLatch (v : Nat)
  /-- LEAP_APPLIED (R32). -/
  | leapApplied
  /-- ASSAY_DECISION_TICK (R87). -/
  | assayDecisionTick
  /-- SOAK_EXPIRY (R86). -/
  | soakExpiry (ref : RefId)
  /-- HOLDOFF_EXPIRY (R86). -/
  | holdoffExpiry (ref : RefId)
  /-- WAIT_TO_RESTORE_EXPIRY (R90). -/
  | waitToRestoreExpiry (ref : RefId)
  /-- MEASUREMENT_MISSING (R17). -/
  | measurementMissing (ref : RefId)
  /-- REF_ACTIVITY_TIMEOUT (R79). -/
  | refActivityTimeout (ref : RefId)
  /-- TAU_AVG_BLOCK_END (R97). -/
  | tauAvgBlockEnd
  /-- ESMC_QL_DELIVERED (R95). -/
  | esmcQlDelivered (ref : RefId) (ql : Nat)
  /-- ESMC_QL_TIMEOUT (R95). -/
  | esmcQlTimeout (ref : RefId)
  /-- PTP_ANNOUNCE_TIMEOUT (R96). -/
  | ptpAnnounceTimeout (ref : RefId)
  /-- DIAL_EDGE (R100). -/
  | dialEdge (ch : DialCh) (code : PinEdge)
  /-- DIAL_TEMP_READ (R100). -/
  | dialTempRead (temp : Int)
  /-- DIAL_BACKGROUND_CHECK (R111). -/
  | dialBackgroundCheck
  /-- DIAL_CHECK_COMPLETE (R112). -/
  | dialCheckComplete (ch : DialCh) (line1 : Bool) (mu : List (List (Nat × Nat)))
  /-- DIAL_CHECK_ABANDON (R111). -/
  | dialCheckAbandon (ch : DialCh)
  /-- DIAL_LINE_STALE (R111). -/
  | dialLineStale (ch : DialCh) (line1 : Bool)
  /-- FREQUENCY_GATE_END (R106). -/
  | frequencyGateEnd (ch : DialCh)
  /-- DIAL_INTERVAL_TIMEOUT (R105). -/
  | dialIntervalTimeout (ch : DialCh)
  /-- DIAL_ARM (R105). -/
  | dialArm (ch : DialCh)
  /-- DIAL_DISARM (R105). -/
  | dialDisarm (ch : DialCh)
  /-- DIAL_RESULT_READ (R104). -/
  | dialResultRead (ch : DialCh)
  /-- SAMPLE_TIME_FIT (R118). -/
  | sampleTimeFit (a : Ant) (ok : Bool)
  /-- ACQUISITION_DONE (R122). -/
  | acquisitionDone (n : Fin 384) (a : Ant) (signal : Fin 9) (sv cn0 : Nat)
  /-- CHANNEL_LOST (R121). -/
  | channelLost (n : Fin 384)
  /-- BURST_WINDOW (R123). -/
  | burstWindow (a : Ant)
  /-- BURST_MODE_CHANGE (R123). -/
  | burstModeChange (a : Ant)
  /-- GNSS_SOLUTION (R124). -/
  | gnssSolution (oa ob : Option AntObs) (geom : List (Nat × Nat))
  /-- ALARM_CLEAR (R132). -/
  | alarmClear (a : Ant)
  /-- ANCHOR_MOVE (R131). -/
  | anchorMove (a : Ant)
  /-- EPHEMERIS_DECODED (R134). -/
  | ephemerisDecoded (sys : Fin 9) (sv : Nat) (eph : Option (Nat × Nat)) (cached previous alm : Option Nat) (leap : NavData)
  /-- DAYL_SOLUTION_READ (R124). -/
  | daylSolutionRead (a : Ant)
  /-- SERVICE_GATE_EVAL (R151). -/
  | serviceGateEval
  /-- SEAM_RESUME (R151). -/
  | seamResume (seam : SeamNo)
  /-- EPOCH_HOLD_EXPIRY (R22). -/
  | epochHoldExpiry
  /-- TALLY_LATCH (R136). -/
  | tallyLatch (v : Nat)
  /-- OUTPUT_STOPPED (R157). -/
  | outputStopped (m : OutNo)
  /-- HOLD_LOOP_WINDOW (R163). -/
  | holdLoopWindow (m : OutNo) (phi : Option Int)
  /-- SLEW_STEP (R164). -/
  | slewStep (m : OutNo)
  /-- SNAP_RESTART (R164). -/
  | snapRestart (m : OutNo)
  /-- RAMP_START (R159). -/
  | rampStart (n : SynNo)
  /-- RAMP_STOP (R159). -/
  | rampStop (n : SynNo)
  /-- RAMP_UPDATE (R159). -/
  | rampUpdate (n : SynNo)
  /-- RAMP_SEGMENT_END (R159). -/
  | rampSegmentEnd (n : SynNo)
  /-- RAMP_HALF_REFILL (R159). -/
  | rampHalfRefill (n : SynNo)
  /-- RAMP_UNDERRUN (R160). -/
  | rampUnderrun (n : SynNo)
  /-- RAMP_RESUME (R160). -/
  | rampResume
  /-- TODOUT_SENTENCE (R169). -/
  | todoutSentence (k : Ant)
  /-- TODIN_SENTENCE (R170). -/
  | todinSentence (k : Ant) (bytes : List Nat) (startAgo : Nat)
  /-- KNOCK_CAPTURE (R171). -/
  | knockCapture (p : EvNo) (rise : Bool) (code : PinEdge)
  /-- KNOCK_READ (R171). -/
  | knockRead (p : EvNo)
  /-- BELL_ENQUEUE (R172). -/
  | bellEnqueue (p : EvNo) (v : Nat)
  /-- BELL_FIRE (R172). -/
  | bellFire (p : EvNo)
  /-- BELL_END (R172). -/
  | bellEnd (p : EvNo)
  /-- LINK_TRAINING_DONE (R175). -/
  | linkTrainingDone (p : PortNo) (ok : Bool)
  /-- PORT_LINK_UP (R175). -/
  | portLinkUp (p : PortNo)
  /-- PORT_LINK_DOWN (R196). -/
  | portLinkDown (p : PortNo)
  /-- PORT_PCS_FAULT (R194). -/
  | portPcsFault (p : PortNo) (kind : Nat)
  /-- FRAME_RECEIVED (R182). -/
  | frameReceived (p : PortNo) (f : List Nat) (fcsOk uncorr : Bool) (tag : WordTag)
  /-- RX_STORE_ADMIT (R221). -/
  | rxStoreAdmit (p : PortNo) (pathOk : Bool)
  /-- LAUNCH_BUFFER_ARRIVAL (R192). -/
  | launchBufferArrival (p : PortNo) (pathOk : Bool)
  /-- LAUNCH_DEADLINE (R187). -/
  | launchDeadline (p : PortNo)
  /-- TIMED_LAUNCH (R188). -/
  | timedLaunch (p : PortNo)
  /-- FRAME_TX_END (R192). -/
  | frameTxEnd (p : PortNo) (confirmed : Bool)
  /-- BEST_EFFORT_SEND (R186). -/
  | bestEffortSend (p : PortNo)
  /-- THETA_DECAY (R191). -/
  | thetaDecay (p : PortNo)
  /-- PORT_ADMIN_DOWN (R197). -/
  | portAdminDown (p : PortNo)
  /-- PORT_ADMIN_UP (R197). -/
  | portAdminUp (p : PortNo)
  /-- WORK_ITEM_ASSIGN (R224). -/
  | workItemAssign (pick : PickNo)
  /-- GALLERY_TICK (R226). -/
  | galleryTick (g : GalNo × List (Nat × ReadErr)) (k : Fin 4)
  /-- PTP_MESSAGE (R203). -/
  | ptpMessage (pick : PickNo × List (Nat × ReadErr))
  /-- GRANT_EXPIRY (R205). -/
  | grantExpiry (seam : SeamNo) (i : Nat)
  /-- NTP_REQUEST (R210). -/
  | ntpRequest (pick : PickNo)
  /-- NTS_REQUEST (R214). -/
  | ntsRequest (pick : PickNo × List (Nat × ReadErr))
  /-- ESMC_INFO_PDU (R216). -/
  | esmcInfoPdu (p : PortNo)
  /-- ESMC_EVENT_PDU (R216). -/
  | esmcEventPdu (p : PortNo)
  /-- ESMC_PDU_RECEIVED (R216). -/
  | esmcPduReceived (pick : PickNo)
  /-- NEIGH_REPLY (R199). -/
  | neighReply (pick : PickNo)
  /-- WATCHDOG_EXPIRY (R227). -/
  | watchdogExpiry (pick : PickNo)
  /-- PICK_PARITY_ERROR (R227). -/
  | pickParityError (pick : PickNo)
  /-- STORE_UNCORRECTABLE (R221). -/
  | storeUncorrectable (g : GalNo) (cell : Nat)
  /-- PICK_SELFTEST (R229). -/
  | pickSelftest (pick : PickNo)
  /-- PICK_SELFTEST_DONE (R229). -/
  | pickSelftestDone (pick : PickNo) (pass : Bool)
  /-- GALLERY_FAULT_FENCE (R230). -/
  | galleryFaultFence (g : GalNo) (cause : Nat)
  /-- REBIND_DONE (R231). -/
  | rebindDone (g : GalNo)
  /-- READMIT_BIST_DONE (R232). -/
  | readmitBistDone (g : GalNo) (pass : Bool)
  /-- READMIT_LOAD_DONE (R232). -/
  | readmitLoadDone (g : GalNo)
  /-- READMIT_WARM_DONE (R232). -/
  | readmitWarmDone (g : GalNo)
  /-- PAIR_RETURN (R232). -/
  | pairReturn (p : PortNo) (seam : SeamNo)
  /-- TOKEN_RAMP_STEP (R274). -/
  | tokenRampStep (g : GalNo)
  /-- BANK_LOAD_DONE (R233). -/
  | bankLoadDone (g : GalNo)
  /-- SWAP_DONE (R233). -/
  | swapDone (g : GalNo)
  /-- SWAP_DEADLINE (R233). -/
  | swapDeadline (g : GalNo)
  /-- STEP_RATE_MEASURE (R235). -/
  | stepRateMeasure (g : GalNo) (steps : Nat) (slots : List (Nat × Nat × Nat))
  /-- NOP (R242). -/
  | nop (pick : PickNo)
  /-- RET (R242). -/
  | ret (pick : PickNo)
  /-- WAIT (R242). -/
  | wait (pick : PickNo)
  /-- GETF (R242). -/
  | getf (pick : PickNo) (d : Reg)
  /-- SETF (R242). -/
  | setf (pick : PickNo) (n : Reg)
  /-- FLEN (R242). -/
  | flen (pick : PickNo) (x : Fin 32)
  /-- FLENR (R242). -/
  | flenr (pick : PickNo) (n : Reg)
  /-- KFEED (R400). -/
  | kfeed (pick : PickNo) (k i : Ptr) (w : Fin 3)
  /-- KRES (R400). -/
  | kres (pick : PickNo) (k i : Ptr)
  /-- KINIT (R399). -/
  | kinit (pick : PickNo) (k : Ptr)
  /-- MOV (R242). -/
  | mov (pick : PickNo) (d n : Reg)
  /-- ADD (R242). -/
  | add (pick : PickNo) (d n : Reg)
  /-- ADC (R242). -/
  | adc (pick : PickNo) (d n : Reg)
  /-- SUB (R242). -/
  | sub (pick : PickNo) (d n : Reg)
  /-- SBC (R242). -/
  | sbc (pick : PickNo) (d n : Reg)
  /-- AND (R242). -/
  | and (pick : PickNo) (d n : Reg)
  /-- OR (R242). -/
  | or (pick : PickNo) (d n : Reg)
  /-- XOR (R242). -/
  | xor (pick : PickNo) (d n : Reg)
  /-- CMP (R242). -/
  | cmp (pick : PickNo) (d n : Reg)
  /-- TST (R242). -/
  | tst (pick : PickNo) (d n : Reg)
  /-- MOVI (R242). -/
  | movi (pick : PickNo) (d : Reg) (x : Fin 16)
  /-- ADDI (R242). -/
  | addi (pick : PickNo) (d : Reg) (x : Fin 16)
  /-- ADCI (R242). -/
  | adci (pick : PickNo) (d : Reg) (x : Fin 16)
  /-- SUBI (R242). -/
  | subi (pick : PickNo) (d : Reg) (x : Fin 16)
  /-- SBCI (R242). -/
  | sbci (pick : PickNo) (d : Reg) (x : Fin 16)
  /-- ANDI (R242). -/
  | andi (pick : PickNo) (d : Reg) (x : Fin 16)
  /-- ORI (R242). -/
  | ori (pick : PickNo) (d : Reg) (x : Fin 16)
  /-- XORI (R242). -/
  | xori (pick : PickNo) (d : Reg) (x : Fin 16)
  /-- CMPI (R242). -/
  | cmpi (pick : PickNo) (d : Reg) (x : Fin 16)
  /-- TSTI (R242). -/
  | tsti (pick : PickNo) (d : Reg) (x : Fin 16)
  /-- SHL (R242). -/
  | shl (pick : PickNo) (d : Reg) (x : Fin 4)
  /-- SHR (R242). -/
  | shr (pick : PickNo) (d : Reg) (x : Fin 4)
  /-- ROL (R242). -/
  | rol (pick : PickNo) (d : Reg) (x : Fin 4)
  /-- ROR (R242). -/
  | ror (pick : PickNo) (d : Reg) (x : Fin 4)
  /-- NOT (R242). -/
  | not (pick : PickNo) (d : Reg)
  /-- NEG (R242). -/
  | neg (pick : PickNo) (d : Reg)
  /-- BIT (R242). -/
  | bit (pick : PickNo) (d : Reg) (x : Fin 4)
  /-- SETB (R242). -/
  | setb (pick : PickNo) (d : Reg) (x : Fin 4)
  /-- CLRB (R242). -/
  | clrb (pick : PickNo) (d : Reg) (x : Fin 4)
  /-- LDN (R242). -/
  | ldn (pick : PickNo) (d : Reg) (i : Ptr) (x : Fin 32)
  /-- STN (R242). -/
  | stn (pick : PickNo) (n : Reg) (i : Ptr) (x : Fin 32)
  /-- FMOV (R241). -/
  | fmov (pick : PickNo) (i j : Ptr) (ai aj : Bool)
  /-- FADD (R241). -/
  | fadd (pick : PickNo) (i j : Ptr) (ai aj : Bool)
  /-- FADC (R241). -/
  | fadc (pick : PickNo) (i j : Ptr) (ai aj : Bool)
  /-- FSUB (R241). -/
  | fsub (pick : PickNo) (i j : Ptr) (ai aj : Bool)
  /-- FSBC (R241). -/
  | fsbc (pick : PickNo) (i j : Ptr) (ai aj : Bool)
  /-- FAND (R241). -/
  | fand (pick : PickNo) (i j : Ptr) (ai aj : Bool)
  /-- FOR (R241). -/
  | fieldOr (pick : PickNo) (i j : Ptr) (ai aj : Bool)
  /-- FXOR (R241). -/
  | fxor (pick : PickNo) (i j : Ptr) (ai aj : Bool)
  /-- FCMP (R241). -/
  | fcmp (pick : PickNo) (i j : Ptr) (ai aj : Bool)
  /-- FTST (R241). -/
  | ftst (pick : PickNo) (i j : Ptr) (ai aj : Bool)
  /-- FFILL (R241). -/
  | ffill (pick : PickNo) (i : Ptr) (a : Bool) (n : Reg)
  /-- FADDN (R241). -/
  | faddn (pick : PickNo) (i : Ptr) (a : Bool) (n : Reg)
  /-- FADCN (R241). -/
  | fadcn (pick : PickNo) (i : Ptr) (a : Bool) (n : Reg)
  /-- FSUBN (R241). -/
  | fsubn (pick : PickNo) (i : Ptr) (a : Bool) (n : Reg)
  /-- FCMPN (R241). -/
  | fcmpn (pick : PickNo) (i : Ptr) (a : Bool) (n : Reg)
  /-- FGET (R242). -/
  | fget (pick : PickNo) (i : Ptr) (a : Bool) (n : Reg)
  /-- FPUT (R242). -/
  | fput (pick : PickNo) (i : Ptr) (a : Bool) (n : Reg)
  /-- FSHL (R242). -/
  | fshl (pick : PickNo) (i : Ptr) (a : Bool)
  /-- FSHR (R242). -/
  | fshr (pick : PickNo) (i : Ptr) (a : Bool)
  /-- FADDI (R242). -/
  | faddi (pick : PickNo) (i : Ptr) (x : Fin 512)
  /-- FSET (R242). -/
  | fset (pick : PickNo) (i : Ptr) (sp : Fin 4) (x : Fin 128)
  /-- FCPY (R242). -/
  | fcpy (pick : PickNo) (i j : Ptr)
  /-- FLDP (R242). -/
  | fldp (pick : PickNo) (i j : Ptr)
  /-- FSTP (R242). -/
  | fstp (pick : PickNo) (i j : Ptr)
  /-- FADDB (R242). -/
  | faddb (pick : PickNo) (i j : Ptr)
  /-- FADDR (R242). -/
  | faddr (pick : PickNo) (i : Ptr) (n : Reg)
  /-- FADDW (R242). -/
  | faddw (pick : PickNo) (i : Ptr) (n : Reg)
  /-- FSPACE (R242). -/
  | fspace (pick : PickNo) (i : Ptr) (sp : Fin 4)
  /-- BRA (R242). -/
  | bra (pick : PickNo) (o : Fin 512)
  /-- BEQ (R242). -/
  | beq (pick : PickNo) (o : Fin 512)
  /-- BNE (R242). -/
  | bne (pick : PickNo) (o : Fin 512)
  /-- BCS (R242). -/
  | bcs (pick : PickNo) (o : Fin 512)
  /-- BCC (R242). -/
  | bcc (pick : PickNo) (o : Fin 512)
  /-- BMI (R242). -/
  | bmi (pick : PickNo) (o : Fin 512)
  /-- BPL (R242). -/
  | bpl (pick : PickNo) (o : Fin 512)
  /-- BHI (R242). -/
  | bhi (pick : PickNo) (o : Fin 512)
  /-- CALL (R242). -/
  | call (pick : PickNo) (o : Fin 4096)
  /-- JMP (R242). -/
  | jmp (pick : PickNo) (o : Fin 4096)
  /-- DJNZ (R242). -/
  | djnz (pick : PickNo) (d : Reg) (o : Fin 256)
  /-- PROGRAM_FETCH_OVERRUN (R254). -/
  | programFetchOverrun (pick : PickNo)
  /-- SESSION_GET (R282). -/
  | sessionGet (pick : PickNo × List Nat) (i : Ptr) (nowait : Bool)
  /-- SESSION_GET_RESULT (R246). -/
  | sessionGetResult (pick : PickNo) (slot : Fin 2) (uncorr : ReadErr)
  /-- SESSION_PUT (R283). -/
  | sessionPut (pick : PickNo × List Nat) (i : Ptr)
  /-- SESSION_PUT_DONE (R262). -/
  | sessionPutDone (pick : PickNo)
  /-- CRYPTO (R247). -/
  | crypto (pick : PickNo) (i : Ptr) (nowait : Bool)
  /-- CRYPTO_RESULT (R248). -/
  | cryptoResult (pick : PickNo) (checkOk : Bool)
  /-- STAMP (R185). -/
  | stamp (pick : PickNo) (i : Ptr)
  /-- EMIT (R251). -/
  | emit (pick : PickNo) (i : Ptr)
  /-- EMIT_RELEASE (R225). -/
  | emitRelease (pick : PickNo)
  /-- DROP (R252). -/
  | drop (pick : PickNo)
  /-- COUNT (R252). -/
  | count (pick : PickNo) (k : Fin 64)
  /-- INBOX (R265). -/
  | inbox (pick : PickNo) (i : Ptr)
  /-- INBOX_DATA_LANDED (R265). -/
  | inboxDataLanded (pick : PickNo)
  /-- LOTTERY_DRAW (R269). -/
  | lotteryDraw (t : Fin 21) (progress : List Nat)
  /-- QUOTA_REVOKE (R271). -/
  | quotaRevoke (t : Fin 21) (progress : Nat × List Nat)
  /-- SHAFT_COMMIT (R274). -/
  | shaftCommit (v : Nat)
  /-- PATROL_SCRUB (R279). -/
  | patrolScrub (m : ChanNo) (corr : Nat) (bad : List Nat) (dirCorr : Nat) (dirBad : List Nat)
  /-- DDR_REFRESH (R279). -/
  | ddrRefresh (m : ChanNo)
  /-- DDR_ACCESS_RELEASE (R306). -/
  | ddrAccessRelease (m : ChanNo) (seam : SeamNo)
  /-- LANE_SELFTEST (R292). -/
  | laneSelftest (c : LaneNo)
  /-- LANE_SELFTEST_DONE (R292). -/
  | laneSelftestDone (c : LaneNo) (pass : Bool)
  /-- HAUL_BODY_ISSUE (R317). -/
  | haulBodyIssue (link : LinkNo)
  /-- HAUL_BODY (R317). -/
  | haulBody (pick : PickNo)
  /-- HAUL_BODY_DEADLINE (R317). -/
  | haulBodyDeadline (link : LinkNo)
  /-- HAUL_FRAME_LAUNCH (R315). -/
  | haulFrameLaunch
  /-- HAUL_DELAY_REQ_SEND (R321). -/
  | haulDelayReqSend
  /-- KEY_REQ_SEND (R326). -/
  | keyReqSend (link : LinkNo)
  /-- KEY_REPEAT_SEND (R326). -/
  | keyRepeatSend (link : LinkNo)
  /-- HAUL_KEY_RX (R319). -/
  | haulKeyRx (link : LinkNo) (frame : List Nat) (tag : WordTag)
  /-- HAUL_DELTA_RX (R320). -/
  | haulDeltaRx (link : LinkNo) (frame : List Nat) (tag : WordTag)
  /-- HAUL_KEY_REPEAT_RX (R325). -/
  | haulKeyRepeatRx (link : LinkNo) (frame : List Nat) (tag : WordTag)
  /-- HAUL_DELAY_REQ_RX (R321). -/
  | haulDelayReqRx (link : LinkNo) (frame : List Nat) (tag : WordTag)
  /-- HAUL_KEY_REQ_RX (R326). -/
  | haulKeyReqRx (link : LinkNo) (frame : List Nat) (tag : WordTag)
  /-- TWIN_FRAME_RX (R322). -/
  | twinFrameRx (link : LinkNo) (frame : List Nat) (tag : WordTag)
  /-- HAUL_RELEASE (R317). -/
  | haulRelease (pick : PickNo)
  /-- HAUL_COPY_RELEASE (R329). -/
  | haulCopyRelease (link : LinkNo)
  /-- SPLIT_WAIT_EXPIRY (R330). -/
  | splitWaitExpiry (feed : RefId)
  /-- HAUL_LINK_UP (R316). -/
  | haulLinkUp (link : LinkNo)
  /-- HAUL_LINK_DOWN (R325). -/
  | haulLinkDown (link : LinkNo)
  /-- JOIN_WINDOW_EXPIRY (R333). -/
  | joinWindowExpiry
  /-- FOLLOW_QUALIFY (R333). -/
  | followQualify
  /-- PEER_LOST (R333). -/
  | peerLost
  /-- PEER_CANARY_EDGE (R335). -/
  | peerCanaryEdge
  /-- PEER_CANARY_STOP (R335). -/
  | peerCanaryStop
  /-- SNAPSHOT_PERIODIC (R340). -/
  | snapshotPeriodic
  /-- SNAPSHOT_SAVE_DONE (R340). -/
  | snapshotSaveDone (ok : Bool)
  /-- AMENDMENT_LOG_WRITTEN (R361). -/
  | amendmentLogWritten (ok : Bool)
  /-- AMENDMENT_ACTIVATION (R356). -/
  | amendmentActivation
  /-- NOP_COMMAND (R372). -/
  | nopCommand (src : MbxSrc)
  /-- SURVEY_LOAD (R361). -/
  | surveyLoad (src : MbxSrc) (addr len : Nat) (flash : Bool)
  /-- SURVEY_AMEND (R356). -/
  | surveyAmend (src : MbxSrc) (addr len : Nat) (persist : Bool)
  /-- SVN_COMMIT (R351). -/
  | svnCommit (src : MbxSrc)
  /-- KEY_WRITE (R297). -/
  | keyWrite (src : MbxSrc) (slot attr label : Nat) (value : List Nat)
  /-- KEY_ERASE (R297). -/
  | keyErase (src : MbxSrc) (slot : Nat)
  /-- ATTEST (R294). -/
  | attest (src : MbxSrc) (nonce : List Nat) (slot : Nat)
  /-- PRIV_DROP (R374). -/
  | privDrop (src : MbxSrc)
  /-- LIFECYCLE_ADVANCE (R298). -/
  | lifecycleAdvance (src : MbxSrc) (target : Nat)
  /-- SELFTEST (R232). -/
  | selftest (src : MbxSrc) (g : Nat)
  /-- GALLERY_FENCE (R230). -/
  | galleryFence (src : MbxSrc) (g : Nat)
  /-- GALLERY_READMIT (R232). -/
  | galleryReadmit (src : MbxSrc) (g : Nat)
  /-- PICK_READMIT (R229). -/
  | pickReadmit (src : MbxSrc) (p : Nat)
  /-- DIAL_CHECK (R113). -/
  | dialCheck (src : MbxSrc)
  /-- SNAPSHOT_SAVE (R340). -/
  | snapshotSave (src : MbxSrc)
  /-- SNAPSHOT_RESTORE (R341). -/
  | snapshotRestore (src : MbxSrc) (addr len : Nat) (buf : Option Snap)
  /-- FAULT_ACK (R386). -/
  | faultAck (src : MbxSrc) (id all : Nat)
  /-- DEVICE_RESET (R415). -/
  | deviceReset (src : MbxSrc) (magic : Nat)
  /-- PCIE_RESET (R372). -/
  | pcieReset (src : MbxSrc)
  /-- UNKNOWN_COMMAND (R373). -/
  | unknownCommand (src : MbxSrc) (code : Nat)
  /-- MAILBOX_COMMAND_END (R370). -/
  | mailboxCommandEnd (ok : Bool)
  /-- VF_MAILBOX_COMMAND (R375). -/
  | vfMailboxCommand (v : SeamNo) (code : Nat)
  /-- VF_MAILBOX_ANSWER (R375). -/
  | vfMailboxAnswer (v : SeamNo)
  /-- SPI_READ (R377). -/
  | spiRead (addr n : Nat)
  /-- SPI_WRITE (R377). -/
  | spiWrite (addr : Nat) (words : List Nat) (check : Nat × Nat)
  /-- SNAP_READ (R376). -/
  | snapRead (offset n : Nat)
  /-- SPI_UNKNOWN_OPCODE (R376). -/
  | spiUnknownOpcode (op : Nat)
  /-- PF_FLR (R365). -/
  | pfFlr
  /-- VF_FLR (R365). -/
  | vfFlr (v : SeamNo)
  /-- PERST (R415). -/
  | perst
  /-- POWER_STATE_CHANGE (R379). -/
  | powerStateChange (d3hot : Bool)
  /-- LINK_L1_EXIT (R380). -/
  | linkL1Exit
  /-- MSIX_UNMASK (R368). -/
  | msixUnmask (vec : Nat)
  /-- W1C_WRITE (R368). -/
  | w1cWrite (m : Master) (addr data : Nat)
  /-- READ_CLEAR (R309). -/
  | readClear (m : Master) (addr : Nat)
  /-- REGISTER_WRITE (R6). -/
  | registerWrite (m : Master) (addr data : Nat)
  /-- FAULT_EVENT (R385). -/
  | faultEvent (src : FaultSrc) (cause detail : Nat)
  /-- RAIL_OUT_OF_LIMITS (R410). -/
  | railOutOfLimits (rail : Nat) (outside : Bool)
  /-- THERMAL_THRESHOLD (R383). -/
  | thermalThreshold (sensor : Nat) (low outward : Bool)
  /-- HELD_CAUSE_END (R387). -/
  | heldCauseEnd (src : FaultSrc) (cause : Nat)
  /-- FAULT_WINDOW_CLOSE (R385). -/
  | faultWindowClose (src : FaultSrc)
  /-- CLASS_RECOVERY (R387). -/
  | classRecovery (k : Fin 15)
  /-- FAULT_FORCE (R390). -/
  | faultForce (j mask : Nat)
  /-- FOREMAN_HEARTBEAT (R391). -/
  | foremanHeartbeat
  /-- FOREMAN_STALL (R391). -/
  | foremanStall
  /-- CANARY_EDGE (R392). -/
  | canaryEdge
  /-- OCCUPANCY_SAMPLE (R406). -/
  | occupancySample
  /-- WBR_COMMIT (R407). -/
  | wbrCommit (v : Nat)
  /-- WBR_SNAPSHOT_ARM (R408). -/
  | wbrSnapshotArm (v : Nat)
  /-- WBR_SNAPSHOT_CAPTURE (R408). -/
  | wbrSnapshotCapture (periodic : Bool)
  /-- WBR_COUNTER_READ (R403). -/
  | wbrCounterRead (addr : Nat)
  /-- PCS_FAULT_CLEAR (R194). -/
  | pcsFaultClear (p : PortNo) (kind : Nat)
  /-- LINK_L1_ENTRY (R380). -/
  | linkL1Entry
  /-- CONFIG_RETRY_END (R364). -/
  | configRetryEnd
  /-- SPI_ACCESS_START (R418). -/
  | spiAccessStart
  /-- FIRST_PULSE (R167). -/
  | firstPulse (m : OutNo)
  deriving DecidableEq, Repr

end Sys2Proof
end

