-- ==== Sys2Proof/Decode.lean ====
section
/-! DEFINITION. The decoder. No row of spec/opcode_table.json has bits, so `decodeTableWord` answers none. What the manual encodes are the 16-bit instructions of a pick (R242, R244); `decodePick` and `encodePick` read and write them, and R243's check of a PROGRAMS record decodes every word with the first. -/

namespace Sys2Proof

/-- The command that a word spells by the table's bits: the table gives no row any. [DESIGN CHOICE, log 1] -/
def decodeTableWord (_nbits _w : Nat) : Option Instr := none

namespace Decode

/-- Bits [hi:lo] of a word as a number below `n`. -/
def fld (n : Nat) [NeZero n] (w lo : Nat) : Fin n := Fin.ofNat n (w / 2 ^ lo)

/-- One bit of a word. -/
def bit (w lo : Nat) : Bool := decide (w / 2 ^ lo % 2 = 1)

/-- A bit as a number. -/
def nat (b : Bool) (lo : Nat) : Nat := if b then 2 ^ lo else 0

/-- A word that has zeros where `m` zeros are due from bit `lo` on; otherwise its encoding is reserved. -/
def zero (w lo m : Nat) (i : Instr) : Option Instr := if w / 2 ^ lo % 2 ^ m = 0 then some i else none

/-- Major 0: NOP to KINIT. -/
def major0 (p : PickNo) (w : Nat) : Option Instr :=
  match w / 256 % 16 with
  | 0 => zero w 0 8 (.nop p)
  | 1 => zero w 0 8 (.ret p)
  | 2 => zero w 0 8 (.wait p)
  | 3 => zero w 4 4 (.getf p (fld 16 w 0))
  | 4 => zero w 4 4 (.setf p (fld 16 w 0))
  | 5 => zero w 5 3 (.flen p (fld 32 w 0))
  | 6 => zero w 4 4 (.flenr p (fld 16 w 0))
  | 7 =>
    if h : w % 4 < 3 then some (.kfeed p (fld 8 w 5) (fld 8 w 2) ⟨w % 4, h⟩) else none
  | 8 => zero w 0 2 (.kres p (fld 8 w 5) (fld 8 w 2))
  | 9 => zero w 0 5 (.kinit p (fld 8 w 5))
  | _ => none

/-- Major 1: register forms. -/
def major1 (p : PickNo) (w : Nat) : Option Instr :=
  match w / 256 % 16 with
  | 0 => some (.mov p (fld 16 w 4) (fld 16 w 0))
  | 1 => some (.add p (fld 16 w 4) (fld 16 w 0))
  | 2 => some (.adc p (fld 16 w 4) (fld 16 w 0))
  | 3 => some (.sub p (fld 16 w 4) (fld 16 w 0))
  | 4 => some (.sbc p (fld 16 w 4) (fld 16 w 0))
  | 5 => some (.and p (fld 16 w 4) (fld 16 w 0))
  | 6 => some (.or p (fld 16 w 4) (fld 16 w 0))
  | 7 => some (.xor p (fld 16 w 4) (fld 16 w 0))
  | 8 => some (.cmp p (fld 16 w 4) (fld 16 w 0))
  | 9 => some (.tst p (fld 16 w 4) (fld 16 w 0))
  | _ => none

/-- Major 2: immediate forms. -/
def major2 (p : PickNo) (w : Nat) : Option Instr :=
  match w / 256 % 16 with
  | 0 => some (.movi p (fld 16 w 4) (fld 16 w 0))
  | 1 => some (.addi p (fld 16 w 4) (fld 16 w 0))
  | 2 => some (.adci p (fld 16 w 4) (fld 16 w 0))
  | 3 => some (.subi p (fld 16 w 4) (fld 16 w 0))
  | 4 => some (.sbci p (fld 16 w 4) (fld 16 w 0))
  | 5 => some (.andi p (fld 16 w 4) (fld 16 w 0))
  | 6 => some (.ori p (fld 16 w 4) (fld 16 w 0))
  | 7 => some (.xori p (fld 16 w 4) (fld 16 w 0))
  | 8 => some (.cmpi p (fld 16 w 4) (fld 16 w 0))
  | 9 => some (.tsti p (fld 16 w 4) (fld 16 w 0))
  | _ => none

/-- Major 3: shifts, rotates and bits. -/
def major3 (p : PickNo) (w : Nat) : Option Instr :=
  match w / 256 % 16 with
  | 0 => zero w 2 2 (.shl p (fld 16 w 4) (fld 4 w 0))
  | 1 => zero w 2 2 (.shr p (fld 16 w 4) (fld 4 w 0))
  | 2 => zero w 2 2 (.rol p (fld 16 w 4) (fld 4 w 0))
  | 3 => zero w 2 2 (.ror p (fld 16 w 4) (fld 4 w 0))
  | 4 => zero w 0 4 (.not p (fld 16 w 4))
  | 5 => zero w 0 4 (.neg p (fld 16 w 4))
  | 6 => zero w 2 2 (.bit p (fld 16 w 4) (fld 4 w 0))
  | 7 => zero w 2 2 (.setb p (fld 16 w 4) (fld 4 w 0))
  | 8 => zero w 2 2 (.clrb p (fld 16 w 4) (fld 4 w 0))
  | _ => none

/-- Major 6: field forms; the advance bits are those of Fi, then Fj. [DEDUCED, log 42] -/
def major6 (p : PickNo) (w : Nat) : Option Instr :=
  match w / 256 % 16 with
  | 0 => some (.fmov p (fld 8 w 5) (fld 8 w 2) (bit w 1) (bit w 0))
  | 1 => some (.fadd p (fld 8 w 5) (fld 8 w 2) (bit w 1) (bit w 0))
  | 2 => some (.fadc p (fld 8 w 5) (fld 8 w 2) (bit w 1) (bit w 0))
  | 3 => some (.fsub p (fld 8 w 5) (fld 8 w 2) (bit w 1) (bit w 0))
  | 4 => some (.fsbc p (fld 8 w 5) (fld 8 w 2) (bit w 1) (bit w 0))
  | 5 => some (.fand p (fld 8 w 5) (fld 8 w 2) (bit w 1) (bit w 0))
  | 6 => some (.fieldOr p (fld 8 w 5) (fld 8 w 2) (bit w 1) (bit w 0))
  | 7 => some (.fxor p (fld 8 w 5) (fld 8 w 2) (bit w 1) (bit w 0))
  | 8 => some (.fcmp p (fld 8 w 5) (fld 8 w 2) (bit w 1) (bit w 0))
  | 9 => some (.ftst p (fld 8 w 5) (fld 8 w 2) (bit w 1) (bit w 0))
  | _ => none

/-- Major 7: field and register forms. -/
def major7 (p : PickNo) (w : Nat) : Option Instr :=
  match w / 256 % 16 with
  | 0 => some (.ffill p (fld 8 w 5) (bit w 4) (fld 16 w 0))
  | 1 => some (.faddn p (fld 8 w 5) (bit w 4) (fld 16 w 0))
  | 2 => some (.fadcn p (fld 8 w 5) (bit w 4) (fld 16 w 0))
  | 3 => some (.fsubn p (fld 8 w 5) (bit w 4) (fld 16 w 0))
  | 4 => some (.fcmpn p (fld 8 w 5) (bit w 4) (fld 16 w 0))
  | 5 => some (.fget p (fld 8 w 5) (bit w 4) (fld 16 w 0))
  | 6 => some (.fput p (fld 8 w 5) (bit w 4) (fld 16 w 0))
  | 7 => zero w 0 4 (.fshl p (fld 8 w 5) (bit w 4))
  | 8 => zero w 0 4 (.fshr p (fld 8 w 5) (bit w 4))
  | _ => none

/-- Major 10: pointer forms. -/
def major10 (p : PickNo) (w : Nat) : Option Instr :=
  match w / 256 % 16 with
  | 0 => zero w 0 2 (.fcpy p (fld 8 w 5) (fld 8 w 2))
  | 1 => zero w 0 2 (.fldp p (fld 8 w 5) (fld 8 w 2))
  | 2 => zero w 0 2 (.fstp p (fld 8 w 5) (fld 8 w 2))
  | 3 => zero w 0 2 (.faddb p (fld 8 w 5) (fld 8 w 2))
  | 4 => zero w 0 1 (.faddr p (fld 8 w 5) (fld 16 w 1))
  | 5 => zero w 0 1 (.faddw p (fld 8 w 5) (fld 16 w 1))
  | 6 => zero w 0 3 (.fspace p (fld 8 w 5) (fld 4 w 3))
  | _ => none

/-- Major 11: branches. -/
def major11 (p : PickNo) (w : Nat) : Option Instr :=
  match w / 512 % 8 with
  | 0 => some (.bra p (fld 512 w 0))
  | 1 => some (.beq p (fld 512 w 0))
  | 2 => some (.bne p (fld 512 w 0))
  | 3 => some (.bcs p (fld 512 w 0))
  | 4 => some (.bcc p (fld 512 w 0))
  | 5 => some (.bmi p (fld 512 w 0))
  | 6 => some (.bpl p (fld 512 w 0))
  | _ => some (.bhi p (fld 512 w 0))

/-- Major 14: helper calls (R244). [DEDUCED, log 42] -/
def major14 (p : PickNo) (w : Nat) : Option Instr :=
  match w / 256 % 16 with
  | 0 => zero w 0 4 (.sessionGet (p, []) (fld 8 w 5) (bit w 4))
  | 1 => zero w 0 5 (.sessionPut (p, []) (fld 8 w 5))
  | 2 => zero w 0 4 (.crypto p (fld 8 w 5) (bit w 4))
  | 3 => zero w 0 5 (.stamp p (fld 8 w 5))
  | 4 => zero w 0 5 (.emit p (fld 8 w 5))
  | 5 => zero w 0 8 (.drop p)
  | 6 => zero w 0 2 (.count p (fld 64 w 2))
  | 7 => zero w 0 5 (.inbox p (fld 8 w 5))
  | _ => none

end Decode

open Decode

/-- The instruction that a 16-bit word spells at pick `p` (R242); none for a reserved encoding. [DESIGN CHOICE, log 41] -/
def decodePick (p : PickNo) (w : Nat) : Option Instr :=
  match w / 4096 with
  | 0 => major0 p w
  | 1 => major1 p w
  | 2 => major2 p w
  | 3 => major3 p w
  | 4 => some (.ldn p (fld 16 w 8) (fld 8 w 5) (fld 32 w 0))
  | 5 => some (.stn p (fld 16 w 8) (fld 8 w 5) (fld 32 w 0))
  | 6 => major6 p w
  | 7 => major7 p w
  | 8 => some (.faddi p (fld 8 w 9) (fld 512 w 0))
  | 9 => some (.fset p (fld 8 w 9) (fld 4 w 7) (fld 128 w 0))
  | 10 => major10 p w
  | 11 => major11 p w
  | 12 => some (.call p (fld 4096 w 0))
  | 13 => some (.jmp p (fld 4096 w 0))
  | 14 => major14 p w
  | 15 => some (.djnz p (fld 16 w 8) (fld 256 w 0))
  | _ => none

/-- The word of a pick's instruction (R242, R244); none for every other command. -/
def encodePick (i : Instr) : Option Nat :=
  match i with
  | .nop _ => some 0x0000
  | .ret _ => some 0x0100
  | .wait _ => some 0x0200
  | .getf _ d => some (0x0300 + d)
  | .setf _ n => some (0x0400 + n)
  | .flen _ x => some (0x0500 + x)
  | .flenr _ n => some (0x0600 + n)
  | .kfeed _ k i w => some (0x0700 + 32 * k + 4 * i + w)
  | .kres _ k i => some (0x0800 + 32 * k + 4 * i)
  | .kinit _ k => some (0x0900 + 32 * k)
  | .mov _ d n => some (0x1000 + 16 * d + n)
  | .add _ d n => some (0x1100 + 16 * d + n)
  | .adc _ d n => some (0x1200 + 16 * d + n)
  | .sub _ d n => some (0x1300 + 16 * d + n)
  | .sbc _ d n => some (0x1400 + 16 * d + n)
  | .and _ d n => some (0x1500 + 16 * d + n)
  | .or _ d n => some (0x1600 + 16 * d + n)
  | .xor _ d n => some (0x1700 + 16 * d + n)
  | .cmp _ d n => some (0x1800 + 16 * d + n)
  | .tst _ d n => some (0x1900 + 16 * d + n)
  | .movi _ d x => some (0x2000 + 16 * d + x)
  | .addi _ d x => some (0x2100 + 16 * d + x)
  | .adci _ d x => some (0x2200 + 16 * d + x)
  | .subi _ d x => some (0x2300 + 16 * d + x)
  | .sbci _ d x => some (0x2400 + 16 * d + x)
  | .andi _ d x => some (0x2500 + 16 * d + x)
  | .ori _ d x => some (0x2600 + 16 * d + x)
  | .xori _ d x => some (0x2700 + 16 * d + x)
  | .cmpi _ d x => some (0x2800 + 16 * d + x)
  | .tsti _ d x => some (0x2900 + 16 * d + x)
  | .shl _ d x => some (0x3000 + 16 * d + x)
  | .shr _ d x => some (0x3100 + 16 * d + x)
  | .rol _ d x => some (0x3200 + 16 * d + x)
  | .ror _ d x => some (0x3300 + 16 * d + x)
  | .bit _ d x => some (0x3600 + 16 * d + x)
  | .setb _ d x => some (0x3700 + 16 * d + x)
  | .clrb _ d x => some (0x3800 + 16 * d + x)
  | .not _ d => some (0x3400 + 16 * d)
  | .neg _ d => some (0x3500 + 16 * d)
  | .ldn _ d i x => some (0x4000 + 256 * d + 32 * i + x)
  | .stn _ n i x => some (0x5000 + 256 * n + 32 * i + x)
  | .fmov _ i j ai aj => some (0x6000 + 32 * i + 4 * j + nat ai 1 + nat aj 0)
  | .fadd _ i j ai aj => some (0x6100 + 32 * i + 4 * j + nat ai 1 + nat aj 0)
  | .fadc _ i j ai aj => some (0x6200 + 32 * i + 4 * j + nat ai 1 + nat aj 0)
  | .fsub _ i j ai aj => some (0x6300 + 32 * i + 4 * j + nat ai 1 + nat aj 0)
  | .fsbc _ i j ai aj => some (0x6400 + 32 * i + 4 * j + nat ai 1 + nat aj 0)
  | .fand _ i j ai aj => some (0x6500 + 32 * i + 4 * j + nat ai 1 + nat aj 0)
  | .fieldOr _ i j ai aj => some (0x6600 + 32 * i + 4 * j + nat ai 1 + nat aj 0)
  | .fxor _ i j ai aj => some (0x6700 + 32 * i + 4 * j + nat ai 1 + nat aj 0)
  | .fcmp _ i j ai aj => some (0x6800 + 32 * i + 4 * j + nat ai 1 + nat aj 0)
  | .ftst _ i j ai aj => some (0x6900 + 32 * i + 4 * j + nat ai 1 + nat aj 0)
  | .ffill _ i a n => some (0x7000 + 32 * i + nat a 4 + n)
  | .faddn _ i a n => some (0x7100 + 32 * i + nat a 4 + n)
  | .fadcn _ i a n => some (0x7200 + 32 * i + nat a 4 + n)
  | .fsubn _ i a n => some (0x7300 + 32 * i + nat a 4 + n)
  | .fcmpn _ i a n => some (0x7400 + 32 * i + nat a 4 + n)
  | .fget _ i a n => some (0x7500 + 32 * i + nat a 4 + n)
  | .fput _ i a n => some (0x7600 + 32 * i + nat a 4 + n)
  | .fshl _ i a => some (0x7700 + 32 * i + nat a 4)
  | .fshr _ i a => some (0x7800 + 32 * i + nat a 4)
  | .faddi _ i x => some (0x8000 + 512 * i + x)
  | .fset _ i sp x => some (0x9000 + 512 * i + 128 * sp + x)
  | .fcpy _ i j => some (0xA000 + 32 * i + 4 * j)
  | .fldp _ i j => some (0xA100 + 32 * i + 4 * j)
  | .fstp _ i j => some (0xA200 + 32 * i + 4 * j)
  | .faddb _ i j => some (0xA300 + 32 * i + 4 * j)
  | .faddr _ i n => some (0xA400 + 32 * i + 2 * n)
  | .faddw _ i n => some (0xA500 + 32 * i + 2 * n)
  | .fspace _ i sp => some (0xA600 + 32 * i + 8 * sp)
  | .bra _ o => some (0xB000 + o)
  | .beq _ o => some (0xB200 + o)
  | .bne _ o => some (0xB400 + o)
  | .bcs _ o => some (0xB600 + o)
  | .bcc _ o => some (0xB800 + o)
  | .bmi _ o => some (0xBA00 + o)
  | .bpl _ o => some (0xBC00 + o)
  | .bhi _ o => some (0xBE00 + o)
  | .call _ o => some (0xC000 + o)
  | .jmp _ o => some (0xD000 + o)
  | .sessionGet p i nw => if p.2.isEmpty then some (0xE000 + 32 * i + nat nw 4) else none
  | .sessionPut p i => if p.2.isEmpty then some (0xE100 + 32 * i) else none
  | .crypto _ i nw => some (0xE200 + 32 * i + nat nw 4)
  | .stamp _ i => some (0xE300 + 32 * i)
  | .emit _ i => some (0xE400 + 32 * i)
  | .drop _ => some 0xE500
  | .count _ k => some (0xE600 + 4 * k)
  | .inbox _ i => some (0xE700 + 32 * i)
  | .djnz _ d o => some (0xF000 + 256 * d + o)
  | _ => none

/-- The pick that an instruction of a pick is for; 0 for another command. -/
def pickOf (i : Instr) : PickNo :=
  match i with
  | .nop p => p
  | .ret p => p
  | .wait p => p
  | .getf p _ => p
  | .setf p _ => p
  | .flen p _ => p
  | .flenr p _ => p
  | .kfeed p _ _ _ => p
  | .kres p _ _ => p
  | .kinit p _ => p
  | .mov p _ _ => p
  | .add p _ _ => p
  | .adc p _ _ => p
  | .sub p _ _ => p
  | .sbc p _ _ => p
  | .and p _ _ => p
  | .or p _ _ => p
  | .xor p _ _ => p
  | .cmp p _ _ => p
  | .tst p _ _ => p
  | .movi p _ _ => p
  | .addi p _ _ => p
  | .adci p _ _ => p
  | .subi p _ _ => p
  | .sbci p _ _ => p
  | .andi p _ _ => p
  | .ori p _ _ => p
  | .xori p _ _ => p
  | .cmpi p _ _ => p
  | .tsti p _ _ => p
  | .shl p _ _ => p
  | .shr p _ _ => p
  | .rol p _ _ => p
  | .ror p _ _ => p
  | .not p _ => p
  | .neg p _ => p
  | .bit p _ _ => p
  | .setb p _ _ => p
  | .clrb p _ _ => p
  | .ldn p _ _ _ => p
  | .stn p _ _ _ => p
  | .fmov p _ _ _ _ => p
  | .fadd p _ _ _ _ => p
  | .fadc p _ _ _ _ => p
  | .fsub p _ _ _ _ => p
  | .fsbc p _ _ _ _ => p
  | .fand p _ _ _ _ => p
  | .fieldOr p _ _ _ _ => p
  | .fxor p _ _ _ _ => p
  | .fcmp p _ _ _ _ => p
  | .ftst p _ _ _ _ => p
  | .ffill p _ _ _ => p
  | .faddn p _ _ _ => p
  | .fadcn p _ _ _ => p
  | .fsubn p _ _ _ => p
  | .fcmpn p _ _ _ => p
  | .fget p _ _ _ => p
  | .fput p _ _ _ => p
  | .fshl p _ _ => p
  | .fshr p _ _ => p
  | .faddi p _ _ => p
  | .fset p _ _ _ => p
  | .fcpy p _ _ => p
  | .fldp p _ _ => p
  | .fstp p _ _ => p
  | .faddb p _ _ => p
  | .faddr p _ _ => p
  | .faddw p _ _ => p
  | .fspace p _ _ => p
  | .bra p _ => p
  | .beq p _ => p
  | .bne p _ => p
  | .bcs p _ => p
  | .bcc p _ => p
  | .bmi p _ => p
  | .bpl p _ => p
  | .bhi p _ => p
  | .call p _ => p
  | .jmp p _ => p
  | .djnz p _ _ => p
  | .sessionGet p _ _ => p.1
  | .sessionPut p _ => p.1
  | .crypto p _ _ => p
  | .stamp p _ => p
  | .emit p _ => p
  | .drop p => p
  | .count p _ => p
  | .inbox p _ => p
  | _ => 0

end Sys2Proof
end

