-- ==== Sys2Proof/Config.lean ====
section
/-! DEFINITION. What one part fixes and what the manual leaves open: constants without a body, so that no proof sees a value of them. -/

namespace Sys2Proof

/-- A Dial line's code-density table in OTP (R100): channel, line, code; units of 2^-16 tick. -/
opaque Config.dialCd : Nat → Nat → Nat → Nat
/-- A Dial line's temperature table in OTP (R100): channel, line, point 0 to 7; units of 2^-15. -/
opaque Config.dialTemp : Nat → Nat → Nat → Nat
/-- A Dial channel's input delay in OTP (R100): units of 2^-56 ns. -/
opaque Config.dialInOfs : Nat → Nat
/-- The line that a check edge occupies at an instant, if any, while a channel is checked (R110): drawing. No rule gives
when the check edges of a channel come. [DESIGN CHOICE, log 31] -/
opaque Config.checkEdge : Nat → Option Bool
/-- Driver delay of an output's standard and mode in OTP (R162): output, standard, pulse mode; units of 2^-16 ns. -/
opaque Config.driverDelay : Nat → Nat → Bool → Nat
/-- SMP capture delay of an antenna in OTP (R118), ps. -/
opaque Config.smpDelay : Nat → Nat
/-- Range, with the satellite's clock, that broadcast orbit data give for a satellite and a position (ECEF, mm) at a Lode
time (R124), 2^-16 ns. The broadcast formats are their systems' own. [DESIGN CHOICE, log 32] -/
opaque Config.satRange : Nat → Nat → Int × Int × Int → Nat → Int
/-- Elevation that orbit data give for a satellite at a position and Lode time, 0.1 degree (R120, R124). [DESIGN CHOICE, log 32] -/
opaque Config.satElev : Nat → Nat → Int × Int × Int → Nat → Int
/-- Correction of the broadcast ionosphere model: its data, band, satellite, position, Lode time; 2^-16 ns (R125). [DESIGN CHOICE, log 32] -/
opaque Config.ionoDelay : Option Nat → Nat → Nat → Int × Int × Int → Nat → Int
/-- sigma_i from C/N0 (0.25 dB-Hz) and elevation (0.1 degree), 2^-16 ns (R127). [DESIGN CHOICE, log 32] -/
opaque Config.obsSigma : Nat → Int → Nat
/-- Position (ECEF, mm) that a navigation solution gives (R129): of each satellite its orbit data, number, observation and
sigma, the stated position, the time. The manual gives no method. [DESIGN CHOICE, log 32] -/
opaque Config.navPosition : List (Nat × Nat × Int × Nat) → Int × Int × Int → Nat → Int × Int × Int
/-- How many LO periods after a start request at a tick the outputs' first edges come (R157, R173): at most 50 us. -/
opaque Config.startWait : Nat → Nat
/-- Where in that LO period an output's first edge lies: tick, output; units of 2^-16 ps. -/
opaque Config.startPhase : Nat → Nat → Nat
/-- Device path from the ball to the word tag of a port's or link's receiver, in OTP (R178), 2^-16 ns; links from 64. -/
opaque Config.ballTag : Nat → Nat
/-- Where a port's or link's markers, codewords or blocks lie on Lode time (R184), in units of 2^-16 / 25 ns; links from 64. [DEDUCED, log 36] -/
opaque Config.slotPhase : Nat → Nat
/-- Bits of a word that a deserialiser delivers (R177). [DESIGN CHOICE, log 37] -/
opaque Config.wordBits : Nat
/-- The error of the collector's on-die oscillator over one interval (R394), reduced to 10 %: which interval, its start. -/
opaque Config.oscillator : Nat → Nat → Nat
/-- The entropy source: a 32-byte value for each drawing (R269, R289, R294). [DESIGN CHOICE, log 3] -/
opaque Config.entropy : Nat → Nat
/-- The seeds of the lottery's LFSRs (R269): group, and which reset. -/
opaque Config.lfsrSeed : Nat → Nat → Nat
/-- A byte of a lane's DRBG output (R289): drawing and position. -/
opaque Config.randomByte : Nat → Nat → Nat
/-- A mean of R71 or R72 over a window without a sample: drawing. [DESIGN CHOICE, log 61] -/
opaque Config.openMean : Nat → Int
/-- A field of a frame that the manual leaves to its standard or to no one: which field, and which frame. [DESIGN CHOICE, log 3] -/
opaque Config.wireField : Nat → Nat → Nat
/-- The steps that a standard program has taken for an item when it ends it, below the limits of R217: drawing. [DESIGN CHOICE, log 47] -/
opaque Config.programSteps : Nat → Nat
/-- The MAC address of the next hop to a client: port, IP version, address. -/
opaque Config.nextHopMac : Nat → Nat → Nat → Nat
/-- The compatibility digest of a snapshot (R338): SHA-256 over the SEAMS record and the gallery-ownership part of
STRUCTURE, as the image holds them. -/
opaque Config.compatDigest : SeamsSec → Sparse GalCfg → List PairCfg → Nat
/-- The parameters that a section's payload spells, if any, by record type (R353): the manual gives no layout of these payloads. [DESIGN CHOICE, log 10] -/
opaque Config.sectionOf : Nat → List Nat → Option Payload
/-- The classifier rules in a SEAMS payload, entry by entry (R304). [DESIGN CHOICE, log 10] -/
opaque Config.ruleBytes : List Nat → List (List Nat)
/-- Whether both firmware-key signatures of a patch verify (R358): what they sign, and their bytes. [DESIGN CHOICE, log 10] -/
opaque Config.patchVerifies : List Nat → List Nat → Bool
/-- The Sildivo test-key digests in ROM (R348): role, and 0 for P-384 or 1 for ML-DSA-65. -/
opaque Config.testKey : Nat → Nat → Nat
/-- ECDSA P-256 signing with SHA-256 (R294): scalar, entropy drawing, message; r then s. -/
opaque Config.ecdsaSign : List Nat → Nat → List Nat → List Nat
/-- What the management port returns for a READ or SNAP_READ whose address or count R376 does not admit: drawing. -/
opaque Config.spiOpen : Nat → List Nat

end Sys2Proof
end

