-- ==== Sys2Proof/Machine/Params.lean ====
section
/-! DEFINITION. The parameters of a REFERENCES entry with the defaults of its kind (R59, R76, R83, R138). -/

namespace Sys2Proof

/-- Whether a reference is a time reference (R76): a REFIN as its entry sets, SyncE never, every other always. -/
def RefRec.isTime (r : RefRec) : Bool := if r.id < 6 then r.refinTime else decide (r.id < 8 ∨ 12 ≤ r.id)

/-- The nominal measurement interval in ns (R76): a prescaled edge, at most 1,000 per second; the frequency gate of
SyncE; 1 s of Daylight and of a PTP reference; 1 ms of haulage and the twin. -/
def RefRec.intervalNs (r : RefRec) : Nat :=
  r.interval?.getD
    (if r.id < 6 then max (1000000000 / max r.nomHz 1) 1000000 else if r.id < 8 then 1000000000
      else if r.id < 12 then r.gateMs * 1000000 else if r.id < 16 then 1000000000 else 1000000)

/-- f_n in uHz (R59). -/
def RefRec.fn (r : RefRec) : Nat := r.fn?.getD (if r.id < 16 then 10000 else 100000)

/-- F_acc in units of 10^-15 (R83). -/
def RefRec.fAcc (r : RefRec) : Nat :=
  r.fAcc?.getD (if r.isTime then 1000000 else if r.id < 6 then 10000 else 10000000)

/-- F_rej in units of 10^-15 (R83). -/
def RefRec.fRej (r : RefRec) : Nat :=
  r.fRej?.getD (if r.isTime then 10000000 else if r.id < 6 then 100000 else 100000000)

/-- P_acc in ps (R83). -/
def RefRec.pAcc (r : RefRec) : Nat :=
  r.pAcc?.getD (if !r.isTime then 1000 else if r.id < 6 then 2000 else if r.id < 8 then 5000
    else if r.id < 16 then 50000 else 3000)

/-- P_rej in ps (R83). -/
def RefRec.pRej (r : RefRec) : Nat :=
  r.pRej?.getD (if !r.isTime then 5000 else if r.id < 6 then 10000 else if r.id < 8 then 20000
    else if r.id < 16 then 200000 else 10000)

/-- The validity age in us (R17, R83): twice the nominal measurement interval and 1 ms. -/
def RefRec.validUs (r : RefRec) : Nat := r.validUs?.getD (2 * r.intervalNs / 1000 + 1000)

/-- The minimum QL of a SyncE reference for an SSM option (R83). -/
def RefRec.minQl (r : RefRec) (option : Nat) : Nat := r.minQl?.getD (if option = 2 then 1 else 2)

/-- The dual-band uncertainty of a Daylight entry in ps (R128). -/
def RefRec.uDual (r : RefRec) : Nat := r.uPs.getD 3000

/-- The single-band uncertainty of a Daylight entry in ps (R128). -/
def RefRec.uSingle (r : RefRec) : Nat := r.uSinglePs.getD 15000

/-- Whether `r` states a higher uncertainty than `q`, its entry before (R145): a Daylight entry by its two values. -/
def RefRec.raisesU (r q : RefRec) : Bool :=
  if r.id = 6 ∨ r.id = 7 then decide (q.uDual < r.uDual) || decide (q.uSingle < r.uSingle)
  else decide (q.uPs.getD 0 < r.uPs.getD 0)

end Sys2Proof
end

