-- ==== Sys2Proof/Blocks/Gallery.lean ====
section
/-! DEFINITION. State of the galleries and of the picks (R220 to R241, R255, R399). -/

namespace Sys2Proof.Machine

/-- A work item (R222): its class, its 32-byte header and its frame, in the frame-area cells that it occupies. -/
structure Item where
  cls : Nat
  hdr : List Nat
  frame : List Nat := []
  cell : Nat := 0
  cells : Nat := 0
  /-- Tick stream of a TICK item; one moved from a fenced gallery h is 4 (h + 1) above its own number (R231). -/
  stream : Nat := 0
  deriving DecidableEq, Repr

/-- A pick's reservation (R237): the port's reservation, and what its EMIT must name (R251). -/
structure PickResv where
  id : Nat
  port : Nat
  n : Nat
  launch : Nat
  epoch : Nat
  deriving DecidableEq, Repr

/-- A field pointer (R237, R238): nibble address and space tag. -/
structure FieldPtr where
  addr : Nat := 0
  tag : Nat := 0
  deriving DecidableEq, Repr

/-- GAL_PICK_STAT.STATE. -/
inductive PickPhase where
  | idle
  | running
  | wait
  | fenced
  deriving DecidableEq, Repr

/-- One pick (R237, R399, R404). -/
structure PickSt where
  phase : PickPhase := .idle
  /-- N0 to N15. -/
  regs : Sparse Nat := []
  ptrs : Sparse FieldPtr := []
  /-- FL. -/
  fl : Nat := 1
  z : Bool := false
  c : Bool := false
  n : Bool := false
  /-- Return stack, newest first. -/
  stack : List Nat := []
  /-- Local store, response area and RESULT, by nibble. -/
  loc : Sparse Nat := []
  resp : Sparse Nat := []
  result : Sparse Nat := []
  item : Option Item := none
  pc : Nat := 0
  /-- Bank of the item held. -/
  bank : Nat := 0
  /-- Steps retired for the item held: OPEN. -/
  steps : Nat := 0
  resv : Sparse (Option PickResv) := []
  /-- Contexts of the check units, as the difference from the initial value, and the tainted ones (R399, R402). -/
  crc : Sparse Nat := []
  tainted : List Nat := []
  /-- The pick awaits the end of its blocking helper call. -/
  blocked : Bool := false
  /-- Its final EMIT has not yet crossed the transmit gate (R245). -/
  releasing : Bool := false
  /-- The item that its final EMIT ended, whose cells are not yet free (R225). -/
  leaving : Option Item := none
  fenceCause : Nat := 0
  /-- Awaiting PICK_READMIT (R229). -/
  held : Bool := false
  /-- Ticks of its fences within the last hour. -/
  fences : List Nat := []
  /-- The self-test of R229 runs; a PICK_READMIT asked for it (R257). -/
  testing : Bool := false
  /-- PICK_READMIT asked for it: its image is loaded when the self-test passes (R229, R257). -/
  reload : Bool := false
  /-- Weighbridge slots (R404). -/
  retired : Nat := 0
  wasted : Nat := 0
  back : Nat := 0
  front : Nat := 0
  fencedSlots : Nat := 0
  /-- The tick at which it was fenced last, and the ticks that it has been fenced before since the last measured millisecond (R404). -/
  fencedFrom : Nat := 0
  fencedTicks : Nat := 0
  deriving DecidableEq, Repr

/-- A bank with its dispatch table: the PROGRAMS record loaded (R220, R233). -/
structure Bank where
  prog : ProgramsSec := {}
  seq : Nat := 0
  deriving DecidableEq, Repr

/-- GAL_STATUS.STATE. -/
inductive GalPhase where
  | off
  | active
  | fenced
  | bist
  | loading
  | warming
  | ramping
  deriving DecidableEq, Repr

/-- The code of GAL_STATUS.STATE. -/
def GalPhase.code : GalPhase → Nat
  | .off => 0
  | .active => 1
  | .fenced => 2
  | .bist => 3
  | .loading => 4
  | .warming => 5
  | .ramping => 6

/-- One gallery. -/
structure GalSt where
  phase : GalPhase := .off
  fenceCause : Nat := 0
  /-- Ticks of its fences within the last 24 h. -/
  fences : List Nat := []
  /-- The gallery that receives this gallery's pairs, where it is not itself; and no gallery has them. -/
  boundTo : Option Nat := none
  unbound : Bool := false
  /-- Between the fence and the rebinding, and the tick of the fence. -/
  moving : Bool := false
  fenceTick : Nat := 0
  active : Nat := 0
  banks : Sparse Bank := []
  /-- PROGRAMS record in the verified image, for the next load (R232, R234). -/
  verified : Option Bank := none
  /-- A PROGRAMS amendment that loads into the inactive bank (R233). -/
  loading : Option Bank := none
  loadTick : Nat := 0
  /-- Tick of the swap point, while picks still hold old-bank items. -/
  swapTick : Option Nat := none
  qTick : List (Nat × Item) := []
  qCtrl : List Item := []
  qInbox : List Item := []
  qRx : List Item := []
  /-- The frame-area cell after the last one placed. -/
  nextCell : Nat := 0
  /-- Program counters. -/
  pcnt : Sparse Nat := []
  stepRate : Nat := 0
  /-- Start of a readmission, its ramp step, and the ports whose pairs have returned (R232). -/
  readmitTick : Nat := 0
  rampStep : Nat := 0
  returned : List Nat := []
  /-- Recent-session log (R232), newest first: home gallery of the pair served, and record index. -/
  sessLog : List (Nat × Nat) := []
  /-- Ticks of the uncorrectable store errors of the last second (R230). -/
  storeErrs : List Nat := []
  /-- Frames handed to the control plane and not yet taken, oldest first (R251, R14). -/
  ctrlIn : List (List Nat) := []
  /-- Uncorrected part of NO_PROGRAM below its unit of 2^16. -/
  noProgram : Nat := 0
  deriving DecidableEq, Repr

end Sys2Proof.Machine
end

