-- ==== Sys2Proof/Blocks/Outs.lean ====
section
/-! DEFINITION. State of the synthesisers, outputs, time-of-day lines and event pins (R154 to R172). -/

namespace Sys2Proof.Machine

/-- OUT_STATE.STATE. -/
inductive OutState where
  | off
  | starting
  | slew
  | aligned
  | profile
  | held
  | stopped
  | free
  deriving DecidableEq, Repr

/-- The code of OUT_STATE.STATE. -/
def OutState.code : OutState → Nat
  | .off => 0
  | .starting => 1
  | .slew => 2
  | .aligned => 3
  | .profile => 4
  | .held => 5
  | .stopped => 6
  | .free => 7

/-- A synthesiser's ramp generator and held feedback ratio (R155, R159, R160). -/
structure SynSt where
  /-- y_r in units of 2^-64. -/
  yr : Int := 0
  run : Bool := false
  hold : Bool := false
  half : Bool := false
  nextReady : Bool := false
  refused : Bool := false
  seg : Nat := 0
  /-- Microseconds left of the playing segment. -/
  left : Nat := 0
  /-- N kept while COARSE is 1. -/
  nHeld : Option Nat := none
  deriving DecidableEq, Repr

/-- An output. Phases are in units of 2^-16 ps. -/
structure OutSt where
  state : OutState := .off
  /-- Mean phase error of the last window (R163). -/
  phi : Int := 0
  /-- Sum and number of the window's phase samples. -/
  accSum : Int := 0
  accN : Nat := 0
  /-- Lode time in 2^-16 ps of a rising edge: the edges lie whole periods after it (R157, R158). -/
  edgeAt : Int := 0
  /-- Captured snap grid in 2^-16 ps, the snap edge in 2^-16 ns, and whether the restart on it has come (R164). -/
  grid : Option Int := none
  snapAt : Nat := 0
  snapDone : Bool := false
  /-- The stop in progress leads to this state at the tick; `byAmend` when an amendment asked for it (R156, R157). -/
  stopReq : Option OutState := none
  stopTick : Nat := 0
  byAmend : Bool := false
  /-- It has stopped for an amendment and waits for its group to start (R156, R165). -/
  waiting : Bool := false
  /-- The pulse output has emitted its first pulse since it started (R166). -/
  emitting : Bool := false
  /-- Last emitted pulse edge of an output that stops. -/
  lastEdge : Option Nat := none
  /-- Tick from which the next phase step is due (R164), and tick of the start. -/
  stepTick : Nat := 0
  startTick : Nat := 0
  deriving DecidableEq, Repr

/-- A TODOUT: sequence and last sentence (R168, R169). -/
structure TodoutSt where
  seq : Nat := 0
  /-- The edge that the last sentence named. -/
  named : Option Nat := none
  sentence : List Nat := []
  deriving DecidableEq, Repr

/-- A TODIN (R170). -/
structure TodinSt where
  seq : Nat := 0
  isMatch : Bool := false
  deriving DecidableEq, Repr

/-- A knock capture (R171). -/
structure Knock where
  time : Nat := 0
  invalid : Bool := false
  coarse : Bool := false
  rise : Bool := false
  deriving DecidableEq, Repr

/-- An event pin (R171, R172). -/
structure EvSt where
  /-- Captures, oldest first. -/
  knocks : List Knock := []
  popped : Option Knock := none
  /-- Bell instants in 2^-16 ns, first to fire first. -/
  bells : List Nat := []
  /-- The bell registers being assembled. -/
  asmFrac : Nat := 0
  asmNs : Nat := 0
  asmSecLo : Nat := 0
  /-- The bell is active until this Lode time. -/
  activeUntil : Option Nat := none
  /-- Tick of the last coarse capture (R171). -/
  coarseTick : Option Nat := none
  deriving DecidableEq, Repr

/-- The OUTS block. -/
structure OutsSt where
  /-- Every lock loss so far has ended in a successful re-alignment or an LO return (R167). -/
  realigned : Bool := true
  syn : Sparse SynSt := []
  out : Sparse OutSt := []
  todout : Sparse TodoutSt := []
  todin : Sparse TodinSt := []
  ev : Sparse EvSt := []
  /-- The ratio that the port transmit reference holds while COARSE is 1, units of 2^-56 (R193). -/
  txHeld : Option Nat := none
  deriving DecidableEq, Repr

end Sys2Proof.Machine
end

