-- ==== Sys2Proof/Blocks/Time.lean ====
section
/-! DEFINITION. State of the clocks, the Lode, and the leap state. -/

namespace Sys2Proof.Machine

/-- Lode states (R60). -/
inductive LodeState where
  | free
  | acquire
  | locked
  | pull
  | holdover
  | invalid
  deriving DecidableEq, Repr

/-- The code of LODE_STATE.STATE (R60). -/
def LodeState.code : LodeState → Nat
  | .free => 0
  | .acquire => 1
  | .locked => 2
  | .pull => 3
  | .holdover => 4
  | .invalid => 5

/-- The counters that carry time (R25, R28, R54, R55). -/
structure ClockSt where
  /-- The time counter, linear, in units of 2^-56 ns. -/
  tc : Nat := 0
  /-- The coarse backup counter at the last LO edge in units of 2^-60 ns, and the sixteenths of a tick since that edge. -/
  coarse : Nat := 0
  coarseRem : Nat := 0
  /-- Elapsed device time in 640 ps ticks: the base of timers and of the collector's counter. -/
  ticks : Nat := 0
  /-- The timebase increment (R28). -/
  inc : Nat := 0x00A3D70A3D70A3D7
  /-- Sum of the increments over the ticks since the last LO correction sample (R72), and their number. -/
  incSum : Nat := 0
  incN : Nat := 0
  /-- The model's counter of free values: it advances with each value taken. -/
  freeCtr : Nat := 0
  deriving DecidableEq, Repr

/-- Which source the leap state is from (R31). -/
inductive LeapSource where
  | upstream
  | daylight
  | survey
  deriving DecidableEq, Repr

/-- A leap state as R30 lays it out: what a source delivers, or a leap that has been applied. -/
structure LeapState where
  offset : Int := 0
  pending : Int := 0
  instant : Nat := 0
  deriving DecidableEq, Repr

/-- The leap state in use (R30, R31), what each source has delivered, and the last leap applied (R34, R35). -/
structure LeapSt where
  offset : Int := 0
  pending : Int := 0
  instant : Nat := 0
  source : LeapSource := .survey
  /-- What each source of R31 delivers, and what a restored snapshot brought until one does (R341). -/
  up : Option LeapState := none
  /-- The reference whose keyframes or lead's frames delivered `up`; 63 none. -/
  upRef : Nat := 63
  dayl : Option LeapState := none
  snap : Option LeapState := none
  surv : Option LeapState := none
  /-- The last leap applied, with its old offset (R34, R35). -/
  last : Option LeapState := none
  deriving DecidableEq, Repr

/-- The Lode (R51 to R75, R332). -/
structure LodeSt where
  state : LodeState := .free
  /-- The last transitions: Lode time in 2^-16 ns and the state left, newest first (R168). -/
  was : List (Nat × LodeState) := []
  coarse : Bool := false
  /-- The tick at which `coarse` last changed (R182). -/
  coarseTick : Nat := 0
  /-- The tick at which the last interval with `coarse` began (R17, R56). -/
  coarseStart : Nat := 0
  tbpllLock : Bool := false
  loOk : Bool := false
  svc : Bool := false
  ageValid : Bool := false
  /-- Lode time has been seeded (R332). -/
  seeded : Bool := false
  /-- Selected time reference; 63 none. -/
  selRef : Nat := 63
  /-- Flywheel in use; 63 the LO. -/
  fwRef : Nat := 63
  fwClass : Nat := 0
  incFw : Int := 0x00A3D70A3D70A3D7
  integ : Int := 0
  corrT : Int := 0
  integF : Int := 0
  /-- The flywheel loop has taken an update. -/
  fwRunning : Bool := false
  /-- The increment in force is clamped; so is the flywheel loop's output (R57, R58). -/
  clamped : Bool := false
  fwClamped : Bool := false
  /-- Phase-pull limiter: offset it counts from, and the tick it counts from (R65 to R68). -/
  pullFrom : Int := 0
  pullTick : Nat := 0
  pullOn : Bool := false
  pullSlope : Nat := 1000
  /-- Remaining offset frozen by PULL to HOLDOVER. -/
  rFrozen : Int := 0
  /-- Tick since which every update in ACQUIRE has been inside the lock window. -/
  settleTick : Option Nat := none
  /-- Lode time (2^-16 ns) and tick of the last good measurement of the selected time reference. -/
  goodTime : Nat := 0
  goodTick : Option Nat := none
  /-- Learned flywheel offset in units of 2^-64. -/
  yFw : Int := 0
  /-- Mean LO correction for holdover, units of 2^-64. -/
  fAvg : Int := 0
  /-- LIMITS as the servo took it at its last update (R59). -/
  lim : LimitsSec := {}
  /-- The course of corr_t: each value with the tick from which it held, newest first, 0 before the oldest (R71). -/
  corrHist : List (Nat × Int) := []
  /-- Flywheel against time reference: (tick, fractional frequency in 2^-64), newest first. -/
  fwHist : List (Nat × Int) := []
  /-- The reference that `fwHist` and `yFw` are of; 63 none. -/
  fwLast : Nat := 63
  /-- LO correction samples: (tick, 2^-64), newest first. -/
  loSamples : List (Nat × Int) := []
  /-- Those taken before the last lock loss or LO absence: they count for the averages only (R71, R72, R97). -/
  loOld : List (Nat × Int) := []
  /-- Learned drift D in units of 2^-64 per second. -/
  ageRate : Int := 0
  /-- The fit of R72: the slope as a ratio in 2^-64 per tick. -/
  ageSlope : Int × Nat := (0, 1)
  /-- Its value at `fitTick`, units of 2^-64 (R72). -/
  fitC : Int := 0
  /-- The tick of that value (R72). -/
  fitTick : Nat := 0
  /-- The number of samples of the fit (R72). -/
  fitN : Nat := 0
  /-- Last flywheel phase: tick and value. -/
  fwPhase : Option (Nat × Int) := none
  /-- Flywheel phase accumulated over edges in 2^-16 ns, and y_fw accumulated over ticks in 2^-64, since the flywheel was
  chosen: e_f is the one less the other (R58). -/
  fwErr : Int := 0
  fwGone : Int := 0
  /-- State before the first lock loss of an outage, and its tick. -/
  lossState : Option LodeState := none
  lossTick : Nat := 0
  /-- Coarse error e_c in force in 2^-16 ns, until the next good measurement (R74). -/
  ec : Nat := 0
  /-- LODE_REALIGN_ERR. -/
  realignErr : Nat := 0
  phaseErr : Int := 0
  servoFn : Nat := 0
  servoDamp : Nat := 0
  /-- Latched registers (R56). -/
  latchTime : Nat := 0
  latchInc : Nat := 0x00A3D70A3D70A3D7
  latchCoarse : Bool := false
  deriving DecidableEq, Repr

end Sys2Proof.Machine
end

