-- ==== Sys2Proof/Blocks/Wbr.lean ====
section
/-! DEFINITION. State of the Weighbridge (R403 to R408). -/

namespace Sys2Proof.Machine

/-- An event counter E0 to E15 (R405, R406). -/
structure EvtSt where
  /-- Selection in force, as WBR_EVT_SEL shows it. -/
  sel : Nat := 0
  count : Nat := 0
  /-- The previous sample was at or above T. -/
  above : Bool := false
  deriving DecidableEq, Repr

/-- The copies that a snapshot makes (R408). -/
structure WbrSnap where
  samples : Nat := 0
  evts : List Nat := []
  /-- RETIRED, WASTED, OPEN, BACK, FRONT and FENCED of each gallery. -/
  td : List (List Nat) := []
  gal : Nat := 0
  level : Nat := 0
  time : Nat := 0
  coarse : Bool := false
  deriving DecidableEq, Repr

/-- The Weighbridge. -/
structure WbrSt where
  evts : Sparse EvtSt := []
  samples : Nat := 0
  /-- A commit waits for the next sample boundary (R407). -/
  commit : Bool := false
  /-- One-shot instant in 2^-16 ns, and the instant being assembled. -/
  oneShot : Option Nat := none
  asmNs : Nat := 0
  asmSecLo : Nat := 0
  snap : WbrSnap := {}
  seq : Nat := 0
  /-- High words latched by reads of LO words (R409 registers), by register address. -/
  hiLatch : Sparse Nat := []
  deriving DecidableEq, Repr

end Sys2Proof.Machine
end

