-- ==== Sys2Proof/Machine/State.lean ====
section
/-! DEFINITION. The state of the device as plain data, its reset value, and the reasons a step can stop. -/

namespace Sys2Proof.Machine

/-- The reasons a step stops with a fault. The manual gives every command of the table an effect, so no step stops. -/
inductive Fault where
  /-- No command raises it: it only makes the type inhabited. Safe. -/
  | unreachable
  deriving DecidableEq, Repr

/-- The reasons a step is refused. -/
inductive Refusal where
  /-- The command has no meaning yet. Raised by a refused arm of `exec` only. Safe. -/
  | notModelled (mnemonic : String)
  deriving DecidableEq, Repr

/-- The state of the ZT9612 block. -/
structure State where
  clk : ClockSt := {}
  leap : LeapSt := {}
  lode : LodeSt := {}
  assay : AssaySt := {}
  tally : TallySt := {}
  dial : DialSt := {}
  dayl : DaylSt := {}
  outs : OutsSt := {}
  /-- Client ports. -/
  prt : PortsSt := {}
  gals : Sparse GalSt := []
  picks : Sparse PickSt := []
  shaft : ShaftSt := {}
  sess : SessSt := {}
  cry : CryptoSt := {}
  seam : Sparse SeamSt := []
  /-- The `ptp-ref` exchanges by reference ID. -/
  ptpRef : Sparse PtpRefSt := []
  haul : HaulSt := {}
  wbr : WbrSt := {}
  fault : FaultSt := {}
  power : PowerSt := {}
  otp : OtpSt := {}
  surv : SurvSt := {}
  /-- Survey parameters in force. -/
  cfg : Sections := {}
  mbx : MbxSt := {}
  pcie : PcieSt := {}
  spi : SpiSt := {}
  /-- Flash slots A and B. -/
  flash : Sparse FlashSlot := []
  hostLoad : Option HostLoad := none
  /-- Every register whose value is stored: RW, RWS shadow, W1C and RC fields, by PF BAR0 address. -/
  rf : Sparse Nat := []
  /-- The commands that wait, first in, first out. -/
  pending : List Instr := []
  deriving DecidableEq, Repr

/-- What a command answers. -/
abbrev Res := Host.Outcome State Fault Refusal

/-- The device right after reset. [DESIGN CHOICE, log 7] -/
def State.reset : State := {}

end Sys2Proof.Machine
end

