-- ==== Sys2Proof/Machine/Ops.lean ====
section
/-! DEFINITION. The named operations over time, the register file, interrupts, wake and SPI alert. -/

namespace Sys2Proof.Machine

/-! ### Time -/

/-- One second of Lode time in units of 2^-16 ns (R35). -/
def oneSec : Nat := 65536000000000

/-- Units of 2^-16 ns in `n` ns. -/
def fuOfNs (n : Nat) : Nat := n * 65536

/-- Units of 2^-16 ns in `p` ps, rounded up (R136). -/
def fuOfPs (p : Nat) : Nat := ceilDiv (p * 65536) 1000

/-- Ticks of 640 ps in a millisecond. -/
def ticksPerMs : Nat := 1562500

/-- Ticks in a second. -/
def ticksPerSec : Nat := 1562500000

/-- Ticks in 10 us. -/
def ticksPer10us : Nat := 15625

/-- The first tick at or after `n` ns. -/
def ticksOfNs (n : Nat) : Nat := ceilDiv (n * 25) 16

/-- Elapsed ns in `n` ticks, rounded down. -/
def nsOfTicks (n : Nat) : Nat := n * 16 / 25

/-- The LO period in sixteenths of a tick (R51, R55): 1562.5 / f_LO ticks. -/
def loPeriod16 (mhz : Nat) : Nat := if mhz = 0 then 2500 else 25000 / mhz

/-- The coarse backup counter now, in units of 2^-60 ns: its value at the last LO edge, and the sixteenths of an LO
period that the 16-phase sampler has counted since (R53, R55). -/
def coarseNow (s : State) : Nat :=
  let per := loPeriod16 s.cfg.str.loMHz
  s.clk.coarse + 16 * s.clk.coarseRem / per * (s.clk.inc * per) / 16

/-- The value at the last LO edge of a coarse backup counter that agrees with the time counter `tc` (R55). -/
def coarseFrom (tc : Nat) (s : State) : Nat := tc * 16 - s.clk.inc * s.clk.coarseRem

/-- Lode time in units of 2^-56 ns: from the coarse backup counter while COARSE is 1 (R56). -/
def lodeNow (s : State) : Nat := if s.lode.coarse then coarseNow s / 16 else s.clk.tc

/-- Lode time in units of 2^-16 ns, truncated toward the earlier value (R28). -/
def nowFu (s : State) : Nat := lodeNow s / 2 ^ 40

/-- Seconds field of a Lode time (R25). -/
def secOf (t : Nat) : Nat := (t / oneSec) % 2 ^ 48

/-- Nanoseconds field of a Lode time (R25, R26). -/
def nsOf (t : Nat) : Nat := (t / 65536) % 1000000000

/-- Fraction field of a Lode time (R25). -/
def fracOf (t : Nat) : Nat := t % 65536

/-- Lode time as the 96-bit value of R25. -/
def lodeBits (t : Nat) : Nat := secOf t * 2 ^ 48 + nsOf t * 65536 + fracOf t

/-- The linear time that a 96-bit Lode time names. -/
def ofLodeBits (b : Nat) : Nat := (b / 2 ^ 48) * oneSec + (b / 65536 % 2 ^ 32) * 65536 + b % 65536

/-- Lets `n` ticks pass. The time counter adds the increment on every tick while the TBPLL is locked (R28,
R54); the coarse backup counter adds its increment on every LO edge (R55); both stop without the LO (R75). [DESIGN CHOICE, log 4] -/
def elapse (n : Nat) (s : State) : State :=
  let c := s.clk
  if s.lode.loOk then
    let per := loPeriod16 s.cfg.str.loMHz
    let edges := (c.coarseRem + n * 16) / per
    let rem := (c.coarseRem + n * 16) % per
    let c1 := { c with ticks := c.ticks + n, coarse := c.coarse + edges * c.inc * per, coarseRem := rem }
    { s with
      clk := if s.lode.tbpllLock then
          { c1 with tc := c.tc + n * c.inc, incSum := c.incSum + n * c.inc, incN := c.incN + n }
        else c1
      assay := { s.assay with phi := s.assay.phi + n * s.lode.corrT } }
  else { s with clk := { c with ticks := c.ticks + n } }

/-- Lets time pass until tick `t`, if it has not come yet. [DESIGN CHOICE, log 4] -/
def elapseTo (t : Nat) (s : State) : State := elapse (t - s.clk.ticks) s

/-- The collector's microsecond counter at a tick (R396). -/
def usOfTick (t : Nat) : Nat := t * 2 / 3125

/-- The collector's microsecond counter now. -/
def nowUs (s : State) : Nat := usOfTick s.clk.ticks

/-- The first tick of collector microsecond `u`. -/
def tickOfUs (u : Nat) : Nat := ceilDiv (u * 3125) 2

/-- The next whole multiple of `per` ticks after the present tick. -/
def nextMultiple (per : Nat) (s : State) : Nat := if per = 0 then s.clk.ticks else (s.clk.ticks / per + 1) * per

/-- A number of the free-value stream, and the state with the stream advanced. [DESIGN CHOICE, log 3] -/
def takeFree (s : State) : Nat × State :=
  (s.clk.freeCtr, { s with clk := { s.clk with freeCtr := s.clk.freeCtr + 1 } })

/-! ### The register file -/

/-- Reset values of the stored registers that are not zero. [PRESUMED, log 27] -/
def rfReset (a : Nat) : Nat :=
  if a = 0x00000704 then 7
  else if a = 0x0010000C then 1
  else if 0x00401000 ≤ a ∧ a < 0x00401600 then
    (if a % 0x40 = 4 then 1 else if a % 0x40 = 8 then 0x3E8 else 0)
  else if 0x00504000 ≤ a ∧ a < 0x00504200 ∧ a % 0x40 = 4 then 100
  else if 0x01C01000 ≤ a ∧ a < 0x01C02000 then
    (if a % 0x100 = 0 ∨ a % 0x100 = 4 then 0x55555555 else if a % 0x100 = 8 then 0x00101010 else 0)
  else if 0x03F00000 ≤ a ∧ a < 0x03F00400 then (if a % 16 = 12 then 1 else 0)
  else if 0x100000000 ≤ a ∧ a < 0x101000000 ∧ 0xF0000 ≤ a % 0x100000 ∧ a % 0x100000 < 0xF0040 then
    (if a % 16 = 12 then 1 else 0)
  else 0

/-- Reads a stored register. The file holds each register's difference from its reset value. -/
def rfGet (s : State) (a : Nat) : Nat := sget 0 s.rf a ^^^ rfReset a

/-- Writes a stored register. -/
def rfSet (a v : Nat) (s : State) : State := { s with rf := sput 0 s.rf a ((v % 2 ^ 32) ^^^ rfReset a) }

/-- Reads bits [hi:lo] of a stored register. -/
def rfField (s : State) (a hi lo : Nat) : Nat := bitsOf hi lo (rfGet s a)

/-- Sets bits of a stored register. -/
def rfOr (a m : Nat) (s : State) : State := rfSet a (rfGet s a ||| m) s

/-- Clears the bits of `m` (W1C, R6). -/
def rfClear (a m : Nat) (s : State) : State := rfSet a (rfGet s a &&& (0xFFFFFFFF - m % 2 ^ 32)) s

/-- Adds `n` to the counter in bits [hi:lo] of a register, saturating. -/
def rfBump (a hi lo n : Nat) (s : State) : State :=
  rfSet a (setBits hi lo (satAdd (hi + 1 - lo) (rfField s a hi lo) n) (rfGet s a)) s

/-- Adds `n` to the counter in bits [hi:lo] of a register, wrapping. -/
def rfBumpWrap (a hi lo n : Nat) (s : State) : State :=
  rfSet a (setBits hi lo (rfField s a hi lo + n) (rfGet s a)) s

/-! ### Interrupts (R367 to R369) -/

/-- Address of the interrupt status register of an interrupt source: 0 GLB, 1 FLT, 2 LODE, 3 ASSAY, 4 DIAL,
5 OUTS, 6 TALLY, 7 DAYLIGHT, 8 HAUL, 9 SHAFT, 10 session, 11 CRYPTO, 12 PK, 13 MAG, 14 CHK, 15 WBR,
16 + p port p, 80 + g gallery g, 96 + s seam s. The enable register is 4 bytes above it. The Weighbridge has no
interrupt registers: its place names an unlisted address, which holds 0, so its vector is never sent. -/
def irqAddr (i : Nat) : Nat :=
  if i = 0 then 0x00000100 else if i = 1 then 0x00100100 else if i = 2 then 0x00200100
  else if i = 3 then 0x00300100 else if i = 4 then 0x00400100 else if i = 5 then 0x00500100
  else if i = 6 then 0x00600100 else if i = 7 then 0x00800100 else if i = 8 then 0x01400100
  else if i = 9 then 0x01C00100 else if i = 10 then 0x01C11000 else if i = 11 then 0x01D00100
  else if i = 12 then 0x01D10100 else if i = 13 then 0x01D20100 else if i = 14 then 0x01E00100
  else if i = 15 then 0x01FFFF00 else if i < 80 then 0x01000100 + 0x10000 * (i - 16)
  else if i < 96 then 0x01800100 + 0x40000 * (i - 80) else 0x02000100 + 0x100000 * (i - 96)

/-- The PF vector of an interrupt source (R367). -/
def vectorOf (i : Nat) : Nat :=
  if i < 8 then i else if i = 8 then 16 else if i < 16 then 24 + i
  else if i < 80 then 8 + (i - 16) / 8 else if i < 96 then 17 + (i - 80) else 40 + (i - 96)

/-- Whether a source has an enabled cause set. -/
def irqActive (s : State) (i : Nat) : Bool := (rfGet s (irqAddr i) &&& rfGet s (irqAddr i + 4)) != 0

/-- The sources of a PF vector. [DESIGN CHOICE, log 23] -/
def vectorSources (v : Nat) : List Nat :=
  if v < 8 then [v] else if v < 16 then (List.range 8).map fun k => 16 + 8 * (v - 8) + k
  else if v = 16 then [8] else if v < 33 then [80 + (v - 17)]
  else if v < 40 then [v - 24] else if v < 56 then [96 + (v - 40)] else []

/-- The summary of a vector (R368): PF vectors 0 to 63; 64 + 4 f is the mailbox vector and
64 + 4 f + 1 the seam vector of VF f + 1 (R369). -/
def vectorSummary (s : State) (v : Nat) : Bool :=
  if v < 64 then (vectorSources v).any (irqActive s)
  else if v % 4 = 1 then irqActive s (96 + (v - 64) / 4)
  else if v % 4 = 0 then (sget {} s.mbx.vf ((v - 64) / 4)).set.done
  else false

/-- Address of the vector-control word of a vector in the register file: the PF table at 0x03F0_0000 (R366);
a VF table at VF BAR0 offset 0xF_0000 (R364), kept above the PF map. -/
def vectorCtl (v : Nat) : Nat :=
  if v < 64 then 0x03F0000C + 16 * v else 0x100000000 + 0x100000 * ((v - 64) / 4) + 0xF000C + 16 * ((v - 64) % 4)

/-- Whether a vector is masked. [PRESUMED, log 27] -/
def vectorMasked (s : State) (v : Nat) : Bool := bitAt (rfGet s (vectorCtl v)) 0

/-- Whether the endpoint can send messages: bus mastering on, in D0, out of reset (R365, R379). -/
def canSend (s : State) : Bool := s.pcie.busMaster && !s.pcie.d3hot && !s.pcie.inReset

/-- Sends the message of a vector, or sets its pending bit while it is masked (R368) or cannot be sent (R379).
A message sent while the link is in L1 brings it to L0 (R380). [PRESUMED, log 27] -/
def msixSend (v : Nat) (s : State) : State :=
  if vectorMasked s v || !canSend s then
    { s with pcie := { s.pcie with vecs := smod {} s.pcie.vecs v fun m => { m with pending := true } } }
  else
    { s with pcie := { s.pcie with
        vecs := smod {} s.pcie.vecs v fun m => { pending := false, sent := m.sent + 1 }
        linkL1 := false, wakePending := false } }

/-- The vectors that an interrupt source drives: its PF vector, and for a seam the VF's vector 1 (R369). -/
def vectorsOf (i : Nat) : List Nat :=
  if 96 ≤ i then [vectorOf i, 64 + 4 * (i - 96) + 1] else [vectorOf i]

/-- After a change of status or enable: a summary that rose sends its message, one that fell to zero clears a
pending bit that is still set (R368). -/
def vectorEdge (before : State) (v : Nat) (s : State) : State :=
  if vectorSummary s v then (if vectorSummary before v then s else msixSend v s)
  else if (sget {} s.pcie.vecs v).pending then
    { s with pcie := { s.pcie with vecs := smod {} s.pcie.vecs v fun m => { m with pending := false } } }
  else s

/-- Applies `vectorEdge` to every vector of a source. -/
def irqEdges (before : State) (i : Nat) (s : State) : State :=
  (vectorsOf i).foldl (fun t v => vectorEdge before v t) s

/-- Sets status bit `b` of interrupt source `i`. -/
def irqRaise (i b : Nat) (s : State) : State := irqEdges s i (rfOr (irqAddr i) (2 ^ b) s)

/-- A W1C write to the status register of source `i`: a summary left non-zero sends its message again (R368). -/
def irqWriteClear (i m : Nat) (s : State) : State :=
  let t := rfClear (irqAddr i) m s
  (vectorsOf i).foldl (fun u v => if vectorSummary u v then msixSend v u else vectorEdge s v u) t

/-- A write of the enable register of source `i`. -/
def irqWriteEnable (i v : Nat) (s : State) : State := irqEdges s i (rfSet (irqAddr i + 4) v s)

/-! ### Wake and SPI alert (R378, R380) -/

/-- Whether an enabled wake cause is set. -/
def wakeActive (s : State) : Bool := (rfGet s 0x600 &&& rfGet s 0x604) != 0

/-- The request for service of R380, made when GLB_WAKE AND GLB_WAKE_EN has become non-zero: in D3hot a PME message, which is
pending until the idle device sends it; in D0 with the link in L1 the message of vector 0, whatever its summary was, which
brings the link to L0. [PRESUMED, log 27] -/
def wakeRequest (s : State) : State :=
  if s.pcie.d3hot then
    { s with pcie := { s.pcie with pmeStatus := true, wakePending := true } }
  else if s.pcie.linkL1 then msixSend 0 { s with pcie := { s.pcie with wakePending := true } }
  else s

/-- Sets bit `b` of GLB_WAKE and GLB_IRQ_STATUS.WAKE, and requests service on the rise of R380: a message that the rise of the
summary has sent already is that request. -/
def wakeSet (b : Nat) (s : State) : State :=
  let t := irqRaise 0 2 (rfOr 0x600 (2 ^ b) s)
  if wakeActive t && !wakeActive s then wakeRequest t else t

/-- Sets bit `b` of GLB_SPI_ALERT. -/
def alertSet (b : Nat) (s : State) : State := rfOr 0x700 (2 ^ b) s

/-- Whether ALERT_N is driven low (R378). -/
def alertLow (s : State) : Bool :=
  decide (s.power.phase = .running) && (rfGet s 0x700 &&& rfGet s 0x704) != 0

end Sys2Proof.Machine
end

