-- ==== Sys2Proof/Machine/Fault.lean ====
section
/-! DEFINITION. The fault collector (R381 to R396): classification, the log, held causes, recovery, forced events, the Foreman's heartbeat and CANARY. -/

namespace Sys2Proof.Machine

/-- The class of a fault source (R383). -/
def classOf (i : Nat) : Nat :=
  if i < 16 then 0 else if i < 32 then 1 else if i < 65 then 2 else if i < 80 then 3
  else if i < 104 then 4 else if i < 112 then 5 else if i < 176 then 6 else if i < 194 then 7
  else if i < 210 then 8 else if i < 228 then 9 else if i < 240 then 10 else if i < 256 then 11
  else if i < 272 then 12 else if i < 288 then 13 else 14

/-- First and last source of a class (R383). -/
def classRange (k : Nat) : Nat × Nat :=
  ([(0, 15), (16, 31), (32, 64), (65, 79), (80, 103), (104, 111), (112, 175), (176, 193), (194, 209), (210, 227),
    (228, 239), (240, 255), (256, 271), (272, 287), (288, 319)][k]?).getD (288, 319)

/-- The base level of a cause (R383). `s` gives the role of a Dial channel. -/
def baseLevel (s : State) (i c : Nat) : Nat :=
  if i = 0 then 3 else if i = 1 then (if c = 3 then 0 else 3) else if i = 2 then 3 else if i = 3 then 2
  else if i = 4 then 1
  else if i = 16 then 3 else if i = 17 then 3 else if i = 18 then 3 else if i = 19 then 2 else if i = 20 then 3
  else if i = 21 then 1 else if i = 22 then 0
  else if i < 65 then 0
  else if i = 65 ∨ i = 66 then 2 else if i = 67 ∨ i = 68 then 1
  else if 80 ≤ i ∧ i < 104 then
    (if c = 1 then (if (sget {} s.cfg.str.dial (i - 80)).role = 3 then 1 else 3) else 0)
  else if 104 ≤ i ∧ i < 112 then (if c = 1 then 1 else 0)
  else if 112 ≤ i ∧ i < 176 then (if c = 4 then 0 else 1)
  else if 176 ≤ i ∧ i < 194 then
    (if c = 1 then 0 else if c = 2 then 2 else if c = 3 then 1 else if c = 4 then 1 else 2)
  else if 194 ≤ i ∧ i < 210 then (if c = 2 ∨ c = 4 then 2 else 1)
  else if 210 ≤ i ∧ i < 228 then (if c = 1 then 2 else 1)
  else if 228 ≤ i ∧ i < 240 then (if c = 1 then 1 else 2)
  else if i = 240 then 2 else if i = 241 then 1 else if i = 242 then 0 else if i = 243 then 0
  else if 256 ≤ i ∧ i < 288 then 1
  else if 288 ≤ i then 2 else 0

/-- Whether source `i` has cause `c` (R383): a source that is not listed, and a cause that its class does not give it, report
nothing. -/
def hasCause (i c : Nat) : Bool :=
  if c = 0 then false
  else if i = 1 then decide (c ≤ 3)
  else if i < 5 then c == 1
  else if 16 ≤ i ∧ i < 23 then c == 1 || (i == 21 && c == 2)
  else if 32 ≤ i ∧ i < 65 then decide (c ≤ 2)
  else if 65 ≤ i ∧ i < 69 then c == 1
  else if 80 ≤ i ∧ i < 104 then decide (c ≤ 3)
  else if 104 ≤ i ∧ i < 112 then decide (c ≤ 2)
  else if 112 ≤ i ∧ i < 176 then decide (c ≤ 4)
  else if 176 ≤ i ∧ i < 194 then decide (c ≤ 4) || (i == 192 && c == 5)
  else if 194 ≤ i ∧ i < 210 then decide (c ≤ 5)
  else if 210 ≤ i ∧ i < 228 then decide (c ≤ 2)
  else if 228 ≤ i ∧ i < 232 then decide (c ≤ 2)
  else if 232 ≤ i ∧ i < 238 then c == 1 || (i == 237 && c == 3)
  else if 240 ≤ i ∧ i < 244 then c == 1
  else if 256 ≤ i ∧ i < 281 then c == 1
  else if 288 ≤ i ∧ i < 304 then decide (c ≤ 2)
  else decide (304 ≤ i ∧ i < 311) && c == 1

/-- Whether a cause is held (R383). -/
def isHeld (i c : Nat) : Bool :=
  match i with
  | 0 => c == 1
  | 1 => c == 1 || c == 2
  | 2 => c == 1
  | 3 => c == 1
  | 16 => c == 1
  | 17 => c == 1
  | 18 => c == 1
  | 19 => c == 1
  | 20 => c == 1
  | 65 => c == 1
  | 66 => c == 1
  | _ =>
    (decide (80 ≤ i ∧ i < 104) && c == 1) || (decide (176 ≤ i ∧ i < 194) && (c == 4 || c == 5))
      || (decide (228 ≤ i ∧ i < 232) && c == 2) || (decide (288 ≤ i ∧ i < 304) && (c == 1 || c == 2))
      || (decide (304 ≤ i ∧ i < 311) && c == 1)

/-- The parameters of a class in force (R384). -/
def classCfg (s : State) (k : Nat) : FaultClassCfg := (s.cfg.str.faultClasses[k]?).getD {}

/-- The length, by the on-die oscillator, of what is nominally `n` (R394): within 10 % of it, for each interval and each run
of the oscillator on its own. `i` names the interval and `t` where the oscillator takes it over. -/
def oscSpan (i t n : Nat) : Nat := n - n / 10 + Config.oscillator i t % (2 * (n / 10) + 1)

/-- The end of an interval of the collector that has `n` of its nominal length left at `t` (R394): exact by the LO, and by the
on-die oscillator in its runs, which are given as first and, where it has ended, last instant, oldest first. [DESIGN CHOICE, log 57] -/
def intervalEnd (i : Nat) : List (Nat × Option Nat) → Nat → Nat → Nat
  | [], t, n => t + n
  | (a, b) :: r, t, n =>
    let from' := max a t
    if b.any (· ≤ t) then intervalEnd i r t n
    else if t + n ≤ from' then t + n
    else
      let left := n - (from' - t)
      let span := oscSpan i from' left
      match b with
      | none => from' + span
      | some e =>
        if from' + span ≤ e then from' + span
        else intervalEnd i r e (left - left * (e - from') / span)

/-- The runs of the on-die oscillator up to now, in the unit that `f` makes of ticks. [DESIGN CHOICE, log 57] -/
def oscRunsBy (f : Nat → Nat) (s : State) : List (Nat × Option Nat) :=
  s.fault.oscRuns.map (fun e => (f e.1, some (f e.2))) ++ (if s.lode.loOk then [] else [(f s.fault.oscFrom, none)])

/-- The collector microsecond at which interval `i`, nominally `n` us from `t`, ends. -/
def collectorEnd (s : State) (i t n : Nat) : Nat := intervalEnd i (oscRunsBy usOfTick s) t n

/-- The end of the window of source `i`, in collector us (R385). -/
def winEnd (s : State) (i : Nat) : Nat :=
  collectorEnd s i (sget {} s.fault.srcs i).winFrom (1000 * (classCfg s (classOf i)).w)

/-- The collector microsecond at which the quiet period of class `k` ends (R387). -/
def quietEnd (s : State) (k : Nat) : Nat :=
  collectorEnd s (320 + k) (sget {} s.fault.classes k).last (100000 * (classCfg s k).q)

/-- The tick at which the Foreman counts as stalled (R391). -/
def stallTick (s : State) : Nat := intervalEnd 335 (oscRunsBy id s) s.fault.heartbeatTick (4 * ticksPerMs)

/-- The end of the millisecond after a source's last record, within which it writes no other (R388). -/
def recordGap (s : State) (i t : Nat) : Nat := collectorEnd s (336 + i) t 1000

/-- The on-die oscillator takes the collector over: the LO is lost (R394). -/
def oscStart (s : State) : State :=
  if s.lode.loOk then { s with fault := { s.fault with oscFrom := s.clk.ticks } } else s

/-- The LO takes the collector back (R394). -/
def oscStop (s : State) : State :=
  if s.lode.loOk then s
  else { s with fault := { s.fault with oscRuns := s.fault.oscRuns ++ [(s.fault.oscFrom, s.clk.ticks)] } }

/-- A source's state. -/
def srcSt (s : State) (i : Nat) : FaultSrcSt := sget {} s.fault.srcs i

/-- Changes a source's state. -/
def srcMod (i : Nat) (f : FaultSrcSt → FaultSrcSt) (s : State) : State :=
  { s with fault := { s.fault with srcs := smod {} s.fault.srcs i f } }

/-- The listed sources of a class with their states; a source that is not listed is inactive. -/
def classSrcs (s : State) (k : Nat) : List (Nat × FaultSrcSt) := s.fault.srcs.filter fun e => classOf e.1 == k

/-- The level of a class: the largest level of its active sources (R385). -/
def classLevel (s : State) (k : Nat) : Nat :=
  maxNat (((classSrcs s k).filter fun e => e.2.active).map fun e => e.2.level)

/-- The level of the device (R385). -/
def deviceLevel (s : State) : Nat := maxNat ((s.fault.srcs.filter fun e => e.2.active).map fun e => e.2.level)

/-- Whether a class has an unacknowledged active source. -/
def classUnack (s : State) (k : Nat) : Bool := (classSrcs s k).any fun e => e.2.active && !e.2.ack

/-- Whether a class has a held cause asserted. -/
def classHeld (s : State) (k : Nat) : Bool := (classSrcs s k).any fun e => !e.2.held.isEmpty

/-! ### CANARY (R392 to R394) -/

/-- No stop condition of R393 holds. -/
def canaryMayRun (s : State) : Bool :=
  decide (deviceLevel s < 3) && !s.fault.stall && decide (s.power.phase = .running)
    && decide (s.surv.state = 3) && s.lode.loOk

/-- Brings the record of the stop conditions up to date: when the last of them has ended, the next half period
counts from this instant (R394). -/
def canaryUpdate (s : State) : State :=
  let run := canaryMayRun s
  { s with fault := { s.fault with
      canaryRun := run
      canaryFrom := if run && !s.fault.canaryRun then s.clk.ticks else s.fault.canaryFrom } }

/-- LO periods in a half period of CANARY (R392): f_LO / (2 f_c) rounded to nearest. -/
def canaryHalfLo (s : State) : Nat :=
  let hz := s.cfg.str.canaryHz
  if hz = 0 then 5000 else (s.cfg.str.loMHz * 1000000 + hz) / (2 * hz)

/-- A half period in ticks. -/
def canaryHalfTicks (s : State) : Nat := ceilDiv (canaryHalfLo s * loPeriod16 s.cfg.str.loMHz) 16

/-! ### The log (R388, R389) -/

/-- The W3 word of a record. -/
def logW3 (src lvl base cause : Nat) (counted escalated forced coarse recovery : Bool) (detail : Nat) : Nat :=
  src % 512 + lvl * 2 ^ 9 + base * 2 ^ 11 + cause * 2 ^ 13 + counted.toNat * 2 ^ 17 + escalated.toNat * 2 ^ 18
    + forced.toNat * 2 ^ 19 + coarse.toNat * 2 ^ 20 + recovery.toNat * 2 ^ 21 + (min detail 1023) * 2 ^ 22

/-- Whether a record made now carries COARSE (R389, R394). -/
def logCoarse (s : State) : Bool := s.lode.coarse || !s.lode.loOk

/-- Appends a record with word `w3` to the ring. -/
def logAppend (w3 : Nat) (s : State) : State :=
  let t := nowFu s
  let q := s.fault.seq
  let r : LogRec :=
    { w0 := secOf t % 2 ^ 32, w1 := secOf t / 2 ^ 32 + (q % 2 ^ 16) * 2 ^ 16, w2 := nsOf t, w3 := w3 }
  let u := { s with fault := { s.fault with log := sput {} s.fault.log (q % 1024) r, seq := (q + 1) % 2 ^ 32 } }
  if q < 1024 then u else irqRaise 1 5 u

/-! ### Events (R385, R388, R390) -/

/-- The effects of a classified level: R381's table. -/
def levelEffects (lvl : Nat) (s : State) : State :=
  let t := irqRaise 1 lvl s
  if lvl = 2 then alertSet 1 (wakeSet 1 t) else if lvl = 3 then alertSet 2 (wakeSet 1 t) else t

/-- The level of an event by R385, whether the count raised it, and whether escalation did. -/
def classify (s : State) (i base cnt : Nat) : Nat × Bool × Bool :=
  let cfg := classCfg s (classOf i)
  let l1 := if cfg.n ≤ cnt then max base 2 else base
  let l2 := if classUnack s (classOf i) then max l1 (min (l1 + 1) cfg.ceiling) else l1
  (l2, decide (base < l1), decide (l1 < l2))

/-- An event at a source: classified, counted, logged and acted on (R385, R388). -/
def faultEventWith (i c detail base : Nat) (forced : Bool) (s : State) : State :=
  let t := nowUs s
  let e := srcSt s i
  let opened := !e.winOpen || decide (winEnd s i ≤ t)
  let cnt := min ((if opened then 0 else e.cnt) + 1) 255
  let cl := classify s i base cnt
  let lvl := cl.1
  let coalesced :=
    !forced && match e.lastRec with
      | some (lt, ll) => decide (t < recordGap s i lt) && decide (lvl ≤ ll)
      | none => false
  let e' : FaultSrcSt :=
    { e with
      level := max e.level lvl, active := true, ack := false, winOpen := true
      winFrom := if opened then t else e.winFrom
      cnt := cnt, lastCause := c
      held := if !forced && isHeld i c && !e.held.contains c then c :: e.held else e.held
      lastRec := if coalesced then e.lastRec else some (t, lvl) }
  let s1 := srcMod i (fun _ => e') s
  let s2 := { s1 with fault := { s1.fault with
      classes := smod {} s1.fault.classes (classOf i) fun k => { k with last := t } } }
  let s3 := rfBump (0x00102000 + 4 * i) 31 0 1 s2
  let s4 := if coalesced then s3
    else logAppend (logW3 i lvl base c cl.2.1 cl.2.2 forced (logCoarse s) false detail) s3
  canaryUpdate (levelEffects lvl s4)

/-- A block's event at source `i` with cause `c` (R385). -/
def faultEvent (i c detail : Nat) (s : State) : State := faultEventWith i c detail (baseLevel s i c) false s

/-- A forced event (R390): cause 0xF, detail 0, base level of FLT_FORCE_LEVEL. It asserts no held cause. -/
def faultForce (i : Nat) (s : State) : State := faultEventWith i 0xF 0 (rfField s 0x0010000C 1 0) true s

/-- The end of a held cause: an event instant of its class, without record or count (R387). -/
def heldEnd (i c : Nat) (s : State) : State :=
  let e := srcSt s i
  if e.held.contains c then
    let s1 := srcMod i (fun x => { x with held := x.held.filter (· != c) }) s
    let s2 := { s1 with fault := { s1.fault with
      classes := smod {} s1.fault.classes (classOf i) fun k => { k with last := nowUs s } } }
    canaryUpdate s2
  else s

/-- Ends the window of a source whose instant has come (R385): it is not open any more. [DESIGN CHOICE, log 57] -/
def windowClose (i : Nat) (s : State) : State :=
  srcMod i (fun e => { e with winOpen := false, cnt := 0 }) s

/-- Whether class `k` meets the conditions of R387 at this instant. -/
def recoverable (s : State) (k : Nat) : Bool :=
  (classSrcs s k).any (fun e => e.2.active) && !classHeld s k
    && decide (quietEnd s k ≤ nowUs s)

/-- A source after its class has recovered (R387). -/
def srcRecovered (e : FaultSrcSt) : FaultSrcSt :=
  { e with level := 0, active := false, ack := false, winOpen := false, cnt := 0 }

/-- Recovery of class `k` (R387): sources inactive, the counter and the record. -/
def classRecover (k : Nat) (s : State) : State :=
  let srcs := (classSrcs s k).foldl (fun m e => sput {} m e.1 (srcRecovered e.2)) s.fault.srcs
  let n := (sget {} s.fault.classes k).recoveries + 1
  let s1 := { s with fault := { s.fault with
      srcs := srcs, classes := smod {} s.fault.classes k fun c => { c with recoveries := n } } }
  let s2 := rfBump (0x0010020C + 0x10 * k) 15 0 1 s1
  let s3 := logAppend (logW3 (classRange k).1 0 0 0 false false false (logCoarse s) true n) s2
  canaryUpdate (irqRaise 1 4 s3)

/-- Acknowledges a source when it is active (R386). -/
def ackSource (i : Nat) (s : State) : State :=
  if (srcSt s i).active then srcMod i (fun e => { e with ack := true }) s else s

/-- Acknowledges every active source (R386). -/
def ackAll (s : State) : State :=
  s.fault.srcs.foldl (fun t e => ackSource e.1 t) s

/-! ### The commands -/

/-- RAIL_OUT_OF_LIMITS (R410): rail `rail` (0 to 6) leaves or re-enters its limits; sources 304 to 310. -/
def execRailOutOfLimits (rail : Nat) (outside : Bool) (s : State) : Res :=
  .next (if outside then faultEvent (304 + rail) 1 0 s else heldEnd (304 + rail) 1 s)

/-- THERMAL_THRESHOLD (R383): sensor `n` crosses its high (cause 1) or low (cause 2) threshold, outward or back. -/
def execThermalThreshold (sensor : Nat) (low outward : Bool) (s : State) : Res :=
  let c := if low then 2 else 1
  .next (if outward then faultEvent (288 + sensor) c 0 s else heldEnd (288 + sensor) c s)

/-- The held causes whose end the outside reports (R383): an entropy test that passes, a temperature and a rail back inside.
Every other held cause ends with what the device itself does, or with a reset. [DESIGN CHOICE, log 57] -/
def endsOutside (i c : Nat) : Bool := isHeld i c && (i == 3 || decide (288 ≤ i))

/-- HELD_CAUSE_END (R387). [DESIGN CHOICE, log 57] -/
def execHeldCauseEnd (src : FaultSrc) (cause : Nat) (s : State) : Res :=
  .next (if endsOutside src cause then heldEnd src cause s else s)

/-- FAULT_WINDOW_CLOSE (R385): the open window of a source ends. -/
def execFaultWindowClose (src : FaultSrc) (s : State) : Res :=
  let e := srcSt s src
  .next (if e.winOpen then windowClose src (elapseTo (tickOfUs (winEnd s src)) s) else s)

/-- FAULT_FORCE (R390): a write of `mask` to FLT_FORCE register `j`, taken in ascending source ID (R396). -/
def execFaultForce (j mask : Nat) (s : State) : Res :=
  .next ((List.range 32).foldl (fun t b => if bitAt mask b then faultForce (32 * j + b) t else t) s)

/-- FOREMAN_HEARTBEAT (R391): it ends a stall. -/
def execForemanHeartbeat (s : State) : Res :=
  let t := { s with fault := { s.fault with heartbeatTick := s.clk.ticks, stall := false } }
  .next (canaryUpdate (heldEnd 0 1 t))

/-- FOREMAN_STALL (R391): 4 ms after the last heartbeat. -/
def execForemanStall (s : State) : Res :=
  if s.fault.stall then .next s else
  let t := elapseTo (stallTick s) s
  .next (faultEvent 0 1 0 { t with fault := { t.fault with stall := true } })

/-- CANARY_EDGE (R392 to R394): the half period ends and the level toggles while no stop condition holds. -/
def execCanaryEdge (s : State) : Res :=
  let u := canaryUpdate s
  if u.fault.canaryRun then
    let t := elapseTo (u.fault.canaryFrom + canaryHalfTicks u) u
    .next { t with fault := { t.fault with canaryLevel := !t.fault.canaryLevel, canaryFrom := t.clk.ticks } }
  else .next u

end Sys2Proof.Machine
end

