-- ==== Sys2Proof/Machine/Formats.lean ====
section
/-! DEFINITION. Time formats: leap state and UTC presentation (R30 to R36), bound codes (R37, R38), and the conversions of R49 and R50. -/

namespace Sys2Proof.Machine

/-- The unbounded code (R37). -/
def unboundedCode : Nat := 0xFFFFFFFF

/-- Saturation of a bound code (R38). -/
def satCode (n : Nat) : Nat := if 0xFFFFFFFE < n then unboundedCode else n

/-- Sum of two bound codes (R38). -/
def addCode (a b : Nat) : Nat :=
  if a = unboundedCode ∨ b = unboundedCode then unboundedCode else satCode (a + b)

/-- A sum in 2^-16 ns as a bound code, rounded up (R49). -/
def codeOfFu (x : Nat) : Nat := satCode (ceilDiv x 4096)

/-- Picoseconds as a bound code, rounded up (R49). -/
def codeOfPs (p : Nat) : Nat := satCode ((2 * p + 124) / 125)

/-- The leap state that governs Lode time `t`: the last leap applied for an instant before it, otherwise the state in
use (R34, R35). -/
def leapAt (s : State) (t : Nat) : LeapState :=
  let cur : LeapState := { offset := s.leap.offset, pending := s.leap.pending, instant := s.leap.instant }
  match s.leap.last with
  | some l => if t < l.instant * oneSec then l else cur
  | none => cur

/-- Whether Lode time `t` lies inside the leap window (R32). -/
def inLeapWindow (s : State) (t : Nat) : Bool :=
  let l := leapAt s t
  l.pending != 0 && decide (l.instant * oneSec ≤ t + 86400 * oneSec) && decide (t < l.instant * oneSec)

/-- Whether `t` lies in the inserted second of a positive leap (R34). -/
def inInsertedSecond (s : State) (t : Nat) : Bool :=
  let l := leapAt s t
  l.pending == 1 && decide (l.instant * oneSec ≤ t + oneSec) && decide (t < l.instant * oneSec)

/-- A scale offset by whole seconds. -/
def minusSecs (t : Nat) (off : Int) : Nat := ((t : Int) - off * oneSec).toNat

/-- The UTC offset at Lode time `t` (R30). -/
def utcOffsetAt (s : State) (t : Nat) : Int :=
  let l := leapAt s t
  if l.pending ≠ 0 ∧ l.instant * oneSec ≤ t then l.offset + l.pending else l.offset

/-- True UTC of Lode time `t` in 2^-16 ns (R34). -/
def trueUtc (s : State) (t : Nat) : Nat := minusSecs t (utcOffsetAt s t)

/-- Smeared UTC of Lode time `t` (R35). -/
def smearedUtc (s : State) (t : Nat) : Nat :=
  let l := leapAt s t
  if inLeapWindow s t then
    let adj := (t - (l.instant - 86400) * oneSec) / 86400
    if l.pending = 1 then minusSecs t l.offset - adj else minusSecs t l.offset + adj
  else trueUtc s t

/-- A presented UTC time as an NTP 32.32 timestamp (R50). -/
def ntpOfUtc (u : Nat) : Nat :=
  let frac := ((u % oneSec) * 2 ^ 32 + oneSec / 2) / oneSec
  let secs := u / oneSec + 2208988800
  if frac = 2 ^ 32 then ((secs + 1) % 2 ^ 32) * 2 ^ 32 else (secs % 2 ^ 32) * 2 ^ 32 + frac

/-- The UTC that a seam presents for Lode time `t` (R34). -/
def seamUtc (s : State) (seam t : Nat) : Nat :=
  if (sget {} s.cfg.seams.seams seam).smear then smearedUtc s t else trueUtc s t

/-- The carrier's quantisation allowance in codes (R47, R48): 2 for NTP carriers. -/
def carrierAllowance (ntp : Bool) : Nat := if ntp then 2 else 0

/-- The bound record's 16 bytes (R39). -/
def recordBytes (code growth flags hop trace lastGood : Nat) : List Nat :=
  beBytes 4 code ++ beBytes 2 growth ++ [flags, hop] ++ beBytes 4 trace ++ beBytes 4 lastGood

end Sys2Proof.Machine
end

