-- ==== Sys2Proof/Machine/Leap.lean ====
section
/-! DEFINITION. The leap state and its sources (R30 to R32). -/

namespace Sys2Proof.Machine

/-- Day of the month of a day counted from 1970-01-01. -/
def dayOfMonth (days : Nat) : Nat :=
  let z := days + 719468
  let doe := z % 146097
  let yoe := (doe - doe / 1460 + doe / 36524 - doe / 146096) / 365
  let doy := doe - (365 * yoe + yoe / 4 - yoe / 100)
  let mp := (5 * doy + 2) / 153
  doy - (153 * mp + 2) / 5 + 1

/-- A leap instant falls at 00:00:00 UTC on the first day of a month (R32). -/
def leapInstantOk (offset pending : Int) (instant : Nat) : Bool :=
  let u := (instant : Int) - (offset + pending)
  decide (0 ≤ u) && decide (u.toNat % 86400 = 0) && decide (dayOfMonth (u.toNat / 86400) = 1)

/-- Order of the sources of R31. -/
def LeapSource.order : LeapSource → Nat
  | .upstream => 1
  | .daylight => 2
  | .survey => 3

/-- What the sources of lower order than `src` deliver: a restored snapshot is no source of R31. -/
def lowerOffers (src : LeapSource) (l : LeapSt) : List LeapState :=
  match src with
  | .upstream => l.dayl.toList ++ l.surv.toList
  | .daylight => l.surv.toList
  | .survey => []

/-- The leap state in use is that of the first available source (R31); a restored one goes before the Survey image's
(R341). [DESIGN CHOICE, log 34] -/
def leapSelect (l : LeapSt) : LeapSt :=
  let use := fun (k : LeapSource) (o : LeapState) =>
    { l with offset := o.offset, pending := o.pending, instant := o.instant, source := k }
  match l.up, l.dayl, l.snap.or l.surv with
  | some o, _, _ => use .upstream o
  | none, some o, _ => use .daylight o
  | none, none, some o => use .survey o
  | none, none, none => l

/-- The leap state in use as a source would deliver it. -/
def leapInUse (l : LeapSt) : LeapState := { offset := l.offset, pending := l.pending, instant := l.instant }

/-- A Minor fault where a source of lower order disagrees with the state that has come into use (R31). -/
def leapDisagree (before : LeapSt) (s : State) : State :=
  let l := s.leap
  if leapInUse before ≠ leapInUse l ∧ (lowerOffers l.source l).any (· != leapInUse l) then faultEvent 21 1 0 s else s

/-- A source delivers a leap state (R31, R32): one whose pending leap falls at no start of a month is ignored and
raises a Minor fault; a source of lower order that disagrees with the one in use raises one too. [DESIGN CHOICE, log 34] -/
def leapOffer (src : LeapSource) (offset pending : Int) (instant : Nat) (s : State) : State :=
  if pending ≠ 0 ∧ leapInstantOk offset pending instant = false then faultEvent 21 2 0 s
  else
    let o : LeapState := { offset := offset, pending := pending, instant := if pending = 0 then 0 else instant }
    let l := match src with
      | .upstream => { s.leap with up := some o }
      | .daylight => { s.leap with dayl := some o, snap := none }
      | .survey => { s.leap with surv := some o, snap := none }
    let u := { s with leap := leapSelect l }
    if u.leap.source.order < src.order then
      (if o ≠ leapInUse u.leap then faultEvent 21 1 0 u else u)
    else leapDisagree s.leap u

/-- The upstream source is lost (R31): its feed is no longer selected, or the twin no longer follows. The state of the
next source comes into use. [DESIGN CHOICE, log 34] -/
def leapUpstreamLost (s : State) : State :=
  if s.leap.up.isNone then s
  else leapDisagree s.leap { s with leap := leapSelect { s.leap with up := none, upRef := 63 } }

/-- The upstream reference `n` delivers a leap state: a selected feed's keyframe, or the lead's frame (R31). -/
def upstreamOffer (n : Nat) (w : LeapWord) (s : State) : State :=
  let u := leapOffer .upstream w.offset w.pending w.instant s
  { u with leap := { u.leap with upRef := if u.leap.up.isSome then n else 63 } }

/-- Upstream reference `n` may deliver the leap state: on a Face, or from the lead (R31). -/
def mayUpstream (s : State) (n : Nat) : Bool := decide (n = 32) || decide (s.cfg.str.role = .face)

/-- Reference `n` is selected: the leap state of another feed is lost, and that of its own newest keyframe comes into use,
one that came while it was not selected too (R31). -/
def upstreamSwitch (n : Nat) (s : State) : State :=
  let u := if s.leap.upRef = n then s else leapUpstreamLost s
  match (sget ({} : FeedSt) s.haul.feeds n).leap with
  | some (_, w) => if mayUpstream s n then upstreamOffer n w u else u
  | none => u

/-- A delivered leap state once the leap at `instant` has been applied (R32). -/
def LeapState.after (o : LeapState) (instant : Nat) : LeapState :=
  if o.pending ≠ 0 ∧ o.instant = instant then { offset := o.offset + o.pending, pending := 0, instant := 0 } else o

/-- The pending leap takes effect (R32); what it changed stays known for instants before it (R34, R35). -/
def leapApply (l : LeapSt) : LeapSt :=
  { l with
    offset := l.offset + l.pending, pending := 0, instant := 0
    up := l.up.map (·.after l.instant), dayl := l.dayl.map (·.after l.instant)
    snap := l.snap.map (·.after l.instant), surv := l.surv.map (·.after l.instant)
    last := some (leapInUse l) }

end Sys2Proof.Machine
end

