-- ==== Sys2Proof/Machine/Tally.lean ====
section
/-! DEFINITION. The Tally: the terms of the bound, trace words, flags, the stamp epoch and the service gates (R20 to R22, R39 to R46, R136 to R151). -/

namespace Sys2Proof.Machine

/-! ### Stamp epoch (R21, R22) -/

/-- Makes an epoch increment at the present instant. -/
def epochIncrement (s : State) : State :=
  let t := { s with tally := { s.tally with
      epoch := (s.tally.epoch + 1) % 256, hold := false, lastInc := some s.clk.ticks
      moves := (s.clk.ticks :: s.tally.moves).take 8 } }
  irqRaise 6 0 (rfBump 0x00600080 31 0 1 t)

/-- An event of R21: it increments the epoch at once, or sets the epoch hold within 10 us of the last (R22). -/
def bumpEpoch (s : State) : State :=
  match s.tally.lastInc with
  | none => epochIncrement s
  | some t =>
    if t + ticksPer10us ≤ s.clk.ticks then epochIncrement s
    else { s with tally := { s.tally with hold := true, moves := (s.clk.ticks :: s.tally.moves).take 8 } }

/-! ### References and flywheel as the Tally sees them -/

/-- A reference's monitor state. -/
def refSt (s : State) (n : Nat) : RefSt := sget {} s.assay.refs n

/-- Changes a reference's monitor state. -/
def refMod (n : Nat) (f : RefSt → RefSt) (s : State) : State :=
  { s with assay := { s.assay with refs := smod {} s.assay.refs n f } }

/-- A reference's entry in force, if it has one. -/
def refRec? (s : State) (n : Nat) : Option RefRec := s.cfg.refs.refs.find? fun r => r.id == n

/-- A reference's entry in force. -/
def refRec (s : State) (n : Nat) : RefRec := (refRec? s n).getD { id := n }

/-- The reference that traces the time: the selected one, or in HOLDOVER the last selected (R148). -/
def traceRef (s : State) : Nat :=
  if s.assay.selRef ≠ 63 then s.assay.selRef
  else if s.lode.state = .holdover then s.tally.lastSel else 63

/-- What the last good measurement of the traced reference came with (R136). -/
def traceSrc (s : State) : SrcSt :=
  if s.tally.src.ref = traceRef s then s.tally.src else (refSt s (traceRef s)).good

/-- The traced reference's entry: the one in force, or in HOLDOVER the one it had (R147). [DESIGN CHOICE, log 68] -/
def traceRec (s : State) : RefRec :=
  match refRec? s (traceRef s) with
  | some r => r
  | none => if s.tally.src.ref = traceRef s then s.tally.src.entry else { id := traceRef s }

/-- Trace-word class of the traced reference (R45, R76). -/
def traceClass (s : State) : Nat :=
  let n := traceRef s
  if n < 6 then 2 else if n < 8 then (if (traceSrc s).dual then 0 else 1)
  else if n < 12 then 15 else if n < 16 then 3 else if n < 32 then 4 else if n = 32 then 5 else 15

/-- The own trace word (R45, R46). -/
def ownTrace (s : State) : Nat :=
  let n := traceRef s
  traceClass s * 2 ^ 28 + (if n = 63 then 63 else n) * 2 ^ 22 + s.lode.fwClass * 2 ^ 16
    + s.cfg.str.calEpoch % 2 ^ 16

/-- Whether a reference is a haulage feed or the twin. -/
def isUpstream (n : Nat) : Bool := decide (16 ≤ n ∧ n ≤ 32)

/-- The selected copy's record (R42, R43, R46): the last copy that the traced feed applied, or in HOLDOVER after the
removal of its entry the one of its last good measurement. [DEDUCED, log 55] -/
def rxCopy (s : State) : Option RxRecord :=
  if isUpstream (traceRef s) then (refSt s (traceRef s)).rx.or (traceSrc s).rx else none

/-- The origin trace word (R46). -/
def originTrace (s : State) : Nat :=
  match rxCopy s with
  | some r => r.origin
  | none => ownTrace s

/-- The stated bounds of the flywheel class in use (R142). -/
def flyStated (s : State) : FlyBound := (s.cfg.refs.fly[s.lode.fwClass]?).getD {}

/-- y in force in units of 2^-48, rounded up (R97, R140). -/
def yInForce (s : State) : Nat :=
  min (max (ceilDiv ((flyStated s).y * 2 ^ 48) (10 ^ 18)) (ceilDiv s.assay.yMeas (2 ^ 16))) 0xFFFFFFFF

/-- a in force in units of 2^-64 per second, rounded up. -/
def aInForce (s : State) : Nat :=
  min (max (ceilDiv ((flyStated s).a * 2 ^ 64) (10 ^ 24)) s.assay.aMeas) 0xFFFFFFFF

/-- y and a of the class in use that a restored snapshot brought (R341). -/
def restoredYa (s : State) : Nat × Nat := (s.haul.snap.ya[s.lode.fwClass]?).getD (0, 0)

/-- y that the Tally uses: the larger of the value of R97 and a restored one (R341). -/
def yTally (s : State) : Nat := max (yInForce s) (restoredYa s).1

/-- a that the Tally uses. -/
def aTally (s : State) : Nat := max (aInForce s) (restoredYa s).2

/-- y in force exceeds the stated value. -/
def yRaised (s : State) : Bool := decide (ceilDiv ((flyStated s).y * 2 ^ 48) (10 ^ 18) < yTally s)

/-- a in force exceeds the stated value. -/
def aRaised (s : State) : Bool := decide (ceilDiv ((flyStated s).a * 2 ^ 64) (10 ^ 24) < aTally s)

/-! ### The terms (R136 to R143), in 2^-16 ns; none means unbounded -/

/-- The received uncertainty of a record carried forward to Lode time `t` (R138). -/
def uRx (r : RxRecord) (t : Nat) : Option Nat :=
  let dt := t - r.instant
  if r.code = unboundedCode ∨ r.growth = 0xFFFF ∨ 64 * oneSec < dt then none
  else some (r.code * 4096 + ceilDiv (r.growth * dt) (10 ^ 12))

/-- Reference uncertainty U (R138, R128). [DESIGN CHOICE, log 68] -/
def termU (s : State) : Option Nat :=
  let n := traceRef s
  let e := traceRec s
  if isUpstream n then
    match (traceSrc s).rx with
    | some r => uRx r s.lode.goodTime
    | none => none
  else if n = 6 ∨ n = 7 then
    some (fuOfPs (if (traceSrc s).dual then e.uDual else e.uSingle))
  else some (fuOfPs (e.uPs.getD 0))

/-- Reference-path device term D_ref (R139). -/
def termDref (s : State) : Nat :=
  let n := traceRef s
  if n < 6 then fuOfPs 60
  else if n < 8 then fuOfPs (if (traceSrc s).dual then 922 else 266)
  else if 12 ≤ n ∧ n < 16 then
    fuOfPs (sget 500 s.cfg.str.uPort ((traceRec s).port.getD 0) + 50)
  else 0

/-- A haulage or twin link's parameters in force (R314). -/
def linkCfg (s : State) (k : Nat) : HaulLinkCfg := if 16 ≤ k then sget {} s.cfg.twin.links k else sget {} s.cfg.haul.links k

/-- The reference that a receive link feeds (R314). -/
def feedOf (s : State) (k : Nat) : Nat := if 16 ≤ k then 32 else (linkCfg s k).feed.getD (16 + k)

/-- Hop term H (R139): A_link is that of the link whose copy gave the last good measurement (R329). -/
def termHop (s : State) : Nat :=
  if isUpstream (traceRef s) then fuOfPs (1200 + (linkCfg s (traceSrc s).link).aLinkPs) else 0

/-- pi as a ratio, to 30 decimals. [DESIGN CHOICE, log 59] -/
def piNum : Nat := 3141592653589793238462643383280
/-- Denominator of `piNum`. -/
def piDen : Nat := 1000000000000000000000000000000

/-- The time-loop natural frequency in use for a reference, uHz (R59): another one while an atomic flywheel is
QUALIFIED. -/
def fnInUse (s : State) (n : Nat) : Nat :=
  let e := refRec s n
  if s.lode.fwRef ≠ 63 ∧ (refSt s s.lode.fwRef).q = .qualified then e.fnAtomic else e.fn

/-- The f_n of the noise term: the one in use since the servo update of the last good measurement (R59, R137), which
HOLDOVER freezes (R147). -/
def termFn (s : State) : Nat := (traceSrc s).fn

/-- n^2 times the variance of a list. -/
def varNum (l : List Int) : Nat :=
  ((l.length : Int) * sumInt (l.map fun x => x * x) - sumInt l * sumInt l).toNat

/-- Noise term N (R137): k_n sigma_e max(sqrt(2 B_L T), 1/8), rounded up. Its square is formed exactly, with
B_L = pi f_n (zeta + 1 / (4 zeta)) of the loop parameters in use (R59), and the root is rounded up. [DESIGN CHOICE, log 59] [DESIGN CHOICE, log 68] -/
def termNoise (s : State) : Nat :=
  let r := traceSrc s
  let e := r.entry
  let m := r.er.length
  let z := max e.zeta 1
  -- 2 B_L T as a ratio
  let num := 2 * piNum * termFn s * (z * z + 64) * e.intervalNs
  let den := piDen * 1000000 * (16 * z) * 1000000000
  let f : Nat × Nat := if m < 8 then (1, 1) else if num * 64 < den then (1, 64) else (num, den)
  let k := s.cfg.lim.kN
  let own := if m = 0 then 0 else ceilDiv (k * k * varNum r.er * f.1) (m * m * f.2)
  let rep := ceilDiv (k * k * r.sigmaSol * r.sigmaSol * f.1) f.2
  isqrtUp (max own rep)

/-- Lag term (R137): mean of the last 8 good (e - r), absolute, rounded up; the largest of them while fewer than 8
exist. -/
def termLag (s : State) : Nat :=
  let l := (traceSrc s).er
  if l.length < 8 then maxNat (l.map Int.natAbs) else ceilDiv (sumInt (l.take 8)).natAbs 8

/-- Anchored residual c_D (R136): Daylight references only. -/
def termCd (s : State) : Nat :=
  let n := traceRef s
  if n = 6 ∨ n = 7 then (traceSrc s).cD else 0

/-- Growth term G at Lode time `l` (R140). -/
def termGrowth (s : State) (l : Nat) : Nat :=
  let tNs := ceilDiv (l - s.lode.goodTime) 65536
  ceilDiv (yTally s * tNs * 65536) (2 ^ 48) + ceilDiv (aTally s * tNs * tNs) (2 ^ 49 * 10 ^ 9)

/-- The remaining pull offset after `tNs` ns (R65): it falls linearly at the pull slope, truncating. -/
def pullRem (d : Int) (slope tNs : Nat) : Int :=
  let dec := slope * 65536 * tNs / 1000000000000
  let m : Int := (d.natAbs - dec : Nat)
  if d < 0 then -m else m

/-- r at tick `t` of the pull in progress (R65, R68). -/
def rAt (s : State) (t : Nat) : Int :=
  if s.lode.pullOn then pullRem s.lode.pullFrom s.lode.pullSlope (nsOfTicks (t - s.lode.pullTick))
  else s.lode.rFrozen

/-- r now. -/
def rNow (s : State) : Int := rAt s s.clk.ticks

/-- |r| at Lode time `l` (R66). -/
def termPull (s : State) (l : Nat) : Nat :=
  if s.lode.pullOn then
    (pullRem s.lode.pullFrom s.lode.pullSlope
      (nsOfTicks (s.clk.ticks - s.lode.pullTick) + (l - nowFu s) / 65536 - ceilDiv (nowFu s - l) 65536)).natAbs
  else s.lode.rFrozen.natAbs

/-- The reference that a Dial source code is (R76, R98); 63 none. -/
def dialRef (src : Nat) : Nat := if 1 ≤ src ∧ src ≤ 12 then src - 1 else 63

/-- Dial excess X of the channels that time the reference (R112, R136). [DESIGN CHOICE, log 29] -/
def termExcess (s : State) : Nat :=
  let n := traceRef s
  sumNat ((s.cfg.str.dial.filter fun e => e.2.role == 1 && dialRef e.2.source == n).map fun e =>
    sget 0 s.tally.excess e.1)

/-- Split term S while SPLIT is set (R143). -/
def termSplit (s : State) : Nat := if s.tally.split then s.tally.splitTerm else 0

/-- Stamp-point term D_pt of a client port (R141). -/
def termDpt (s : State) (port : Nat) : Nat := fuOfPs (sget 500 s.cfg.str.uPort port + 50)

/-- A condition of R146 holds, saturation apart. -/
def unboundedNow (s : State) : Bool :=
  match s.lode.state with
  | .free => true
  | .acquire => true
  | .invalid => true
  | _ => s.lode.coarse || s.lode.clamped || (termU s).isNone

/-- The source part with G, |r|, e_c, X and S at Lode time `l`, in 2^-16 ns (R136, R149). [DESIGN CHOICE, log 59] -/
def sourceFu (s : State) (l : Nat) : Nat :=
  (termU s).getD 0 + termDref s + termHop s + termNoise s + termLag s + termCd s + termGrowth s l
    + termPull s l + s.lode.ec + termExcess s + termSplit s

/-- The bound code at launch instant `l` with stamp-point term `dpt` and a carrier allowance (R136, R146, R48). -/
def boundCode (s : State) (l dpt allowance : Nat) : Nat :=
  if unboundedNow s then unboundedCode else addCode (codeOfFu (sourceFu s l + dpt)) allowance

/-- Holdover time in ns, rounded up; 0 outside HOLDOVER (R40, R70). -/
def holdNs (s : State) : Nat :=
  if s.lode.state = .holdover then
    match s.lode.goodTick with
    | some t => ceilDiv ((s.clk.ticks - t) * 16) 25
    | none => 0
  else 0

/-- Growth rate in ps/s (R40). -/
def growthRate (s : State) (code : Nat) : Nat :=
  if code = unboundedCode then 0xFFFF
  else
    let num := (yTally s * 2 ^ 16 * 10 ^ 9 + aTally s * (holdNs s + 64 * 10 ^ 9)) * 10 ^ 12
    min (ceilDiv num (2 ^ 64 * 10 ^ 9)) 0xFFFF

/-- DEGRADED holds by its own causes (R41, R148). -/
def degradedOwn (s : State) : Bool := decide (termExcess s ≠ 0) || yRaised s || aRaised s

/-- The flag byte of a record for Lode time `l` (R41, R42). -/
def flagsAt (s : State) (l : Nat) (smear : Bool) : Nat :=
  let up := match rxCopy s with
    | some r => r.flags
    | none => 0
  let hold := decide (s.lode.state = .holdover) || bitAt up 0
  let pull := decide (s.lode.state = .pull) || bitAt up 1
  let split := s.tally.split || bitAt up 2
  let degr := degradedOwn s || bitAt up 5
  let broken := decide (traceClass s = 15) || bitAt up 6
  hold.toNat + pull.toNat * 2 + split.toNat * 4 + (inLeapWindow s l).toNat * 8
    + (smear && inLeapWindow s l).toNat * 16 + degr.toNat * 32 + broken.toNat * 64

/-- Hop count of a served record (R43). -/
def hopServed (s : State) : Nat :=
  if s.cfg.str.role = .headframe then 0
  else match rxCopy s with
    | some r => r.hop
    | none => 0

/-- Hop count of a haulage transmission (R23). -/
def hopSent (s : State) : Nat := if s.cfg.str.role = .headframe then 1 else hopServed s + 1

/-- The last-good field of a record (R39). -/
def lastGoodSec (s : State) : Nat := secOf s.lode.goodTime % 2 ^ 32

/-- The bound record for Lode time `l` with bound code `code` (R39). -/
def boundRecord (s : State) (l code : Nat) (smear : Bool) (hop : Nat) : List Nat :=
  recordBytes code (growthRate s code) (flagsAt s l smear) hop (ownTrace s) (lastGoodSec s)

/-- Brings the Tally's interrupt causes up to date with the conditions they report. -/
def tallyRefresh (s : State) : State :=
  let ub := unboundedNow s
  let dg := degradedOwn s || (match rxCopy s with
    | some r => bitAt r.flags 5
    | none => false)
  let s1 := if ub && !s.tally.unbounded then irqRaise 6 1 s else if !ub && s.tally.unbounded then irqRaise 6 2 s else s
  let s2 := if dg && !s.tally.degraded then irqRaise 6 3 s1 else s1
  let s3 := if ownTrace s != s.tally.traceSeen || originTrace s != s.tally.originSeen then irqRaise 6 6 s2 else s2
  { s3 with tally := { s3.tally with
      unbounded := ub, degraded := dg, traceSeen := ownTrace s, originSeen := originTrace s } }

/-! ### Service gating (R151) -/

/-- A seam's record in force. -/
def seamRec (s : State) (n : Nat) : SeamRec := sget {} s.cfg.seams.seams n

/-- A seam's gate. -/
def seamGate (s : State) (n : Nat) : SeamGate := sget {} s.tally.gates n

/-- Changes a seam's gate. -/
def gateMod (n : Nat) (f : SeamGate → SeamGate) (s : State) : State :=
  { s with tally := { s.tally with gates := smod {} s.tally.gates n f } }

/-- The largest D_pt of the ports paired with a seam (R151). -/
def seamDpt (s : State) (n : Nat) : Nat :=
  maxNat ((s.cfg.str.pairs.filter fun p => p.seam == n).map fun p => termDpt s p.port)

/-- The programs that a gallery's active bank holds. -/
def galModules (s : State) (g : Nat) : List ProgModule :=
  let x : GalSt := sget {} s.gals g
  (sget ({} : Bank) x.banks x.active).prog.modules

/-- A seam has an NTP or NTS program (R151, R199): one of its galleries runs `ntp-srv` or `nts-srv`, or an operator's
program that SEAMS states as such. -/
def seamNtp (s : State) (n : Nat) : Bool :=
  (seamRec s n).ntp || s.cfg.str.gals.any fun e =>
    e.2.used && e.2.seam == n && (galModules s e.1).any fun m => m.id == 3 || m.id == 4

/-- The bound by which a seam's gate is evaluated (R151). -/
def seamBound (s : State) (n : Nat) : Nat := boundCode s (nowFu s) (seamDpt s n) (carrierAllowance (seamNtp s n))

/-- Stops a seam that serves (R151): counters, interrupts and wake. -/
def seamStop (n : Nat) (s : State) : State :=
  if (seamGate s n).stopped then s else
  let s1 := gateMod n (fun _ => { stopped := true, belowTick := none }) s
  let s2 := rfBump (0x00601008 + 0x10 * n) 31 24 1 s1
  let s3 := irqRaise 6 4 s2
  wakeSet 2 (irqRaise (96 + n) 3 s3)

/-- Counts a refused STAMP of a seam. -/
def seamRefused (n : Nat) (s : State) : State := rfBump (0x00601008 + 0x10 * n) 23 0 1 s

/-- The tick at which a stopped seam's resume delay ends, if it runs. -/
def resumeDue (s : State) (n : Nat) : Option Nat :=
  if (seamGate s n).stopped then
    match (seamGate s n).belowTick with
    | some t => some (t + (seamRec s n).resumeMs * ticksPerMs)
    | none => none
  else none

/-- Makes a stopped seam serving again (R151). -/
def seamResume (n : Nat) (s : State) : State :=
  let s1 := gateMod n (fun _ => { stopped := false, belowTick := none }) s
  irqRaise (96 + n) 4 (irqRaise 6 5 s1)

/-- The millisecond evaluation of one seam: a stopped seam's resume delay runs while its bound stays at or below
L_s (R151). -/
def gateEval (n : Nat) (s : State) : State :=
  if (seamRec s n).configured && (seamGate s n).stopped then
    if seamBound s n ≤ (seamRec s n).limit then
      (if (seamGate s n).belowTick.isNone then gateMod n (fun g => { g with belowTick := some s.clk.ticks }) s else s)
    else gateMod n (fun g => { g with belowTick := none }) s
  else s

/-! ### The commands -/

/-- SERVICE_GATE_EVAL (R151): the evaluation of the next whole millisecond. -/
def execServiceGateEval (s : State) : Res :=
  .next ((List.range 16).foldl (fun t n => gateEval n t) (elapseTo (nextMultiple ticksPerMs s) s))

/-- SEAM_RESUME (R151): a stopped seam's resume delay ends with its bound at or below L_s. -/
def execSeamResume (seam : SeamNo) (s : State) : Res :=
  match resumeDue s seam with
  | some t =>
    let u := elapseTo t s
    .next (if seamBound u seam ≤ (seamRec u seam).limit then seamResume seam u
      else gateMod seam (fun g => { g with belowTick := none }) u)
  | none => .next s

/-- EPOCH_HOLD_EXPIRY (R22): a held increment is made 10 us after the previous one. -/
def execEpochHoldExpiry (s : State) : Res :=
  if s.tally.hold then
    .next (epochIncrement (elapseTo (s.tally.lastInc.getD s.clk.ticks + ticksPer10us) s))
  else .next s

/-- A term register value: units of 2^-8 ns, rounded up, saturating; none reads as unbounded. -/
def termReg (t : Option Nat) : Nat :=
  match t with
  | some x => min (ceilDiv x 256) 0xFFFFFFFF
  | none => 0xFFFFFFFF

/-- The largest stamp-point term among enabled client ports (TALLY_BOUND). -/
def maxDpt (s : State) : Nat :=
  max (fuOfPs 550) (maxNat (s.cfg.str.uPort.map fun e => termDpt s e.1))

/-- The registers that TALLY_LATCH latches, evaluated at this tick. -/
def tallySample (s : State) : TallyLatch :=
  let l := nowFu s
  let code := boundCode s l (maxDpt s) 0
  let tr := decide (traceRef s = 63)
  let v := fun (x : Nat) => termReg (if tr then none else some x)
  { bound := code
    boundHaul := boundCode s l 0 0
    growth := growthRate s code
    hop := hopServed s
    trace := ownTrace s
    origin := originTrace s
    lastGood := lastGoodSec s
    terms := List.filter (fun e => e.2 != 0xFFFFFFFF) [(0x40, termReg (if tr then none else termU s)), (0x44, v (termDref s)), (0x48, v (termHop s)),
      (0x4C, v (termNoise s)), (0x50, v (termLag s)), (0x54, v (termCd s)), (0x58, v (termGrowth s l)),
      (0x5C, v (termPull s l)), (0x60, v s.lode.ec), (0x64, v (termExcess s)), (0x68, v (termSplit s)),
      (0x6C, v (maxDpt s))] }

/-- TALLY_LATCH (R136): a write of `v`; bit 0 latches. -/
def execTallyLatch (v : Nat) (s : State) : Res :=
  .next (if bitAt v 0 then { s with tally := { s.tally with latch := tallySample s } } else s)

end Sys2Proof.Machine
end

