-- ==== Sys2Proof/Machine/Lode.lean ====
section
/-! DEFINITION. The Lode: counters, servo loops, phase-pull limiter, holdover, lock loss and re-alignment (R51 to R75, R444, R445). -/

namespace Sys2Proof.Machine

/-- The nominal increment (R28). -/
def nominalInc : Nat := 0x00A3D70A3D70A3D7

/-- INC_MIN (R53). -/
def incMin : Int := ceilDiv (nominalInc * 9999) 10000

/-- INC_MAX (R53). -/
def incMax : Int := (nominalInc * 10001 / 10000 : Nat)

/-- The calibrated increment (R444). -/
def incCal (s : State) : Int := roundDiv (nominalInc * (10 ^ 18 + s.cfg.str.loOfs)) (10 ^ 18)

/-- A positive ratio as a mantissa of 32 significant bits and a right shift (R57). -/
def mantissa (num den : Nat) : Nat × Nat :=
  if num = 0 ∨ den = 0 then (0, 0) else
  let lg := (num * 2 ^ 256 / den).log2
  let sh := if 31 + 256 ≤ lg then 0 else min (31 + 256 - lg) 127
  let m := (2 * num * 2 ^ sh + den) / (2 * den)
  if m = 2 ^ 32 ∧ 0 < sh then (2 ^ 31, sh - 1) else (m, sh)

/-- kp and sp for natural frequency `fn` (uHz) and damping `z` (1/16): K_p 0.64 2^40 / T_ns (R57). -/
def gainP (fn z : Nat) : Nat × Nat :=
  mantissa (4 * z * piNum * fn * 64 * 2 ^ 40) (16 * piDen * 10 ^ 6 * 100 * 10 ^ 9)

/-- ki and si for `fn` (uHz) and update interval `tNs`: K_i 0.64 2^40 / T_ns (R57). -/
def gainI (fn tNs : Nat) : Nat × Nat :=
  mantissa (4 * piNum * piNum * fn * fn * tNs * 64 * 2 ^ 40) (piDen * piDen * 10 ^ 30 * 100)

/-- One update of a loop of R57 or R58: new integrator, output before and after the clamp. -/
def loopStep (integ base e : Int) (p i : Nat × Nat) : Int × Int × Int :=
  let integ1 := integ + Int.shiftRight (i.1 * e) i.2
  let corr := integ1 + Int.shiftRight (p.1 * e) p.2
  let out := clampInt incMin incMax (base + corr)
  (integ1 - (base + corr - out), corr, out)

/-- The course of the time up to now, kept for as long as a measurement stays valid (R17, R81). Nothing bends twice at one
tick: its first mark stands. -/
def phiMark (s : State) : List TimeMark :=
  if (s.assay.phiMarks.head?.map (·.tick)) = some s.clk.ticks then s.assay.phiMarks
  else
    { tick := s.clk.ticks, phi := s.assay.phi, corr := if s.lode.loOk then s.lode.corrT else 0
      time := lodeNow s, rate := if s.lode.loOk then s.clk.inc else 0 }
      :: s.assay.phiMarks.filter fun e => decide (s.clk.ticks ≤ e.tick + 202 * ticksPerSec)

/-- The time bends at the present tick: its course up to now is kept. -/
def markTime (s : State) : State := { s with assay := { s.assay with phiMarks := phiMark s } }

/-- The course of phi_t and Lode time that held at tick `t`, not after the present one: the first mark after `t`, or the
present. -/
def courseAt (s : State) (t : Nat) : TimeMark :=
  ((s.assay.phiMarks.filter fun e => decide (t < e.tick)).getLast?).getD
    { tick := s.clk.ticks, phi := s.assay.phi, corr := if s.lode.loOk then s.lode.corrT else 0
      time := lodeNow s, rate := if s.lode.loOk then s.clk.inc else 0 }

/-- phi_t at tick `t`, on the course that it had then (R17, R81). -/
def phiAt (s : State) (t : Nat) : Int := let m := courseAt s t; m.phi - m.corr * (m.tick - t : Nat)

/-- Lode time at tick `t` in 2^-16 ns, on the course that it had then (R17). -/
def timeAt (s : State) (t : Nat) : Nat := let m := courseAt s t; (m.time - m.rate * (m.tick - t)) / 2 ^ 40

/-- Adds to the course of a value: what is older than `span` s goes, but for what held at the beginning of the span. -/
def coursePush (t : Nat) (v : Int) (span : Nat) (h : List (Nat × Int)) : List (Nat × Int) :=
  let new := fun (e : Nat × Int) => decide (t < e.1 + span * ticksPerSec)
  (t, v) :: h.takeWhile new ++ (h.dropWhile new).take 1

/-- Integral over ticks, from `lo` to `hi`, of the value whose course is given, 0 before its oldest entry. -/
def courseSum (lo : Nat) : Nat → List (Nat × Int) → Int
  | _, [] => 0
  | hi, (t, v) :: r =>
    if hi ≤ t then courseSum lo hi r
    else v * (hi - max lo t : Nat) + (if t ≤ lo then 0 else courseSum lo t r)

/-- Its value at tick `t`. -/
def courseValue (t : Nat) (h : List (Nat × Int)) : Int := ((h.find? fun e => decide (e.1 ≤ t)).map (·.2)).getD 0

/-- Its rounded mean from `lo` to `hi`. -/
def courseMean (lo hi : Nat) (h : List (Nat × Int)) : Int :=
  if hi ≤ lo then courseValue hi h else roundDiv (courseSum lo hi h) (hi - lo)

/-- How long the Lode keeps a history, in s: the averaging time and the guard, with a margin. -/
def keepSpan (s : State) : Nat := s.lode.lim.tauAvg + s.lode.lim.guardS + 60

/-- The time loop's correction becomes `v`; phi_t keeps its course up to now. -/
def setCorr (v : Int) (s : State) : State :=
  { s with
    lode := { s.lode with corrT := v, corrHist := coursePush s.clk.ticks v (keepSpan s) s.lode.corrHist }
    assay := { s.assay with phiMarks := phiMark s } }

/-- Records whether the sum of the loops is clamped, or the flywheel loop's output (R57, R58): INC_LIMIT, source 19
(R383). -/
def setClamped (sum : Bool) (s : State) : State :=
  let c := sum || s.lode.fwClamped
  let t := { s with lode := { s.lode with clamped := c } }
  if c && !s.lode.clamped then faultEvent 19 1 0 (irqRaise 2 11 t)
  else if !c && s.lode.clamped then heldEnd 19 1 t
  else t

/-- Puts an increment in force. -/
def setInc (v : Int) (s : State) : State := { markTime s with clk := { s.clk with inc := v.toNat } }

/-- The entries of a history whose tick is from `lo` to `hi`. -/
def histWindow (lo hi : Nat) (h : List (Nat × Int)) : List (Nat × Int) := h.filter fun e => decide (lo ≤ e.1 ∧ e.1 ≤ hi)

/-- Rounded mean of a history, or `d` of an empty one. -/
def histMean (d : Int) (h : List (Nat × Int)) : Int :=
  if h.isEmpty then d else roundDiv (sumInt (h.map (·.2))) h.length

/-- The averaging interval that ends g before tick `t` (R71, R72). -/
def avgSpan (s : State) (t : Nat) : Nat × Nat :=
  (t - (s.lode.lim.guardS + s.lode.lim.tauAvg) * ticksPerSec, t - s.lode.lim.guardS * ticksPerSec)

/-- What a history holds of it. -/
def avgWindow (s : State) (t : Nat) (h : List (Nat × Int)) : List (Nat × Int) :=
  histWindow (avgSpan s t).1 (avgSpan s t).2 h

/-- The mean of corr_t over it, with each value for as long as it held (R71). [DESIGN CHOICE, log 28] -/
def meanCorr (s : State) (t : Nat) : Int := courseMean (avgSpan s t).1 (avgSpan s t).2 s.lode.corrHist

/-- The LO correction samples, those before a lock loss among them: the averages use all of them (R72, R97). -/
def loHistory (s : State) : List (Nat × Int) := s.lode.loSamples ++ s.lode.loOld

/-- The samples that a lock loss or LO absence puts aside. -/
def loPutAside (s : State) : List (Nat × Int) :=
  (loHistory s).filter fun e => decide (s.clk.ticks < e.1 + keepSpan s * ticksPerSec)

/-- Adds to a history and keeps the last `span` s. -/
def histPush (t : Nat) (v : Int) (span : Nat) (h : List (Nat × Int)) : List (Nat × Int) :=
  (t, v) :: h.filter fun e => decide (t < e.1 + span * ticksPerSec)

/-- Least-squares sums of a history relative to tick `t0`: n, Sx, Sy, Sxx, Sxy. -/
def lsSums (t0 : Nat) (h : List (Nat × Int)) : Int × Int × Int × Int × Int :=
  h.foldl (fun a e =>
    let x : Int := (e.1 : Int) - t0
    (a.1 + 1, a.2.1 + x, a.2.2.1 + e.2, a.2.2.2.1 + x * x, a.2.2.2.2 + x * e.2)) (0, 0, 0, 0, 0)

/-- Slope of the least-squares line as a ratio (numerator, positive denominator) per tick; 0/1 without one. -/
def lsSlope (h : List (Nat × Int)) : Int × Nat :=
  let u := lsSums (maxNat (h.map (·.1))) h
  let den := u.1 * u.2.2.2.1 - u.2.1 * u.2.1
  if den ≤ 0 then (0, 1) else (u.1 * u.2.2.2.2 - u.2.1 * u.2.2.1, den.toNat)

/-- The value at tick `t` of the least-squares line of a history, rounded to nearest; their mean where none is defined. -/
def lsAt (h : List (Nat × Int)) (t : Nat) : Int :=
  let u := lsSums t h
  let den := u.1 * u.2.2.2.1 - u.2.1 * u.2.1
  if den ≤ 0 then histMean 0 h else roundDiv (u.2.2.1 * u.2.2.2.1 - u.2.1 * u.2.2.2.2) den.toNat

/-- |y - line(t)| rounded up, for the least-squares line of a history. -/
def lsResidual (h : List (Nat × Int)) (t : Nat) (y : Int) : Nat :=
  let u := lsSums t h
  let n := u.1
  let den := n * u.2.2.2.1 - u.2.1 * u.2.1
  if n ≤ 0 then 0
  else if den ≤ 0 then ceilDiv (n * y - u.2.2.1).natAbs n.toNat
  else
    -- line at x = 0 is (Sy Sxx - Sx Sxy) / den
    ceilDiv (den * y - (u.2.2.1 * u.2.2.2.1 - u.2.1 * u.2.2.2.2)).natAbs den.toNat

/-- Slope per second of a history in its own units, truncated toward zero. -/
def slopePerSec (h : List (Nat × Int)) : Int :=
  let m := lsSlope h
  truncDiv (m.1 * ticksPerSec) m.2

/-! ### Transitions (R60 to R64) -/

/-- The transitions once the state is left at the present time. -/
def lodeLog (s : State) : List (Nat × LodeState) := ((nowFu s, s.lode.state) :: s.lode.was).take 16

/-- The Lode's state becomes `dst`. -/
def lodeMark (dst : LodeState) (s : State) : State :=
  { s with
    lode := { s.lode with state := dst, was := lodeLog s }
    assay := { s.assay with blockOk := s.assay.blockOk && decide (dst = .locked) } }

/-- Enters a Lode state with the interrupts and records of a transition of R62. -/
def lodeGo (dst : LodeState) (s : State) : State :=
  let was := s.lode.state
  let s2 := irqRaise 2 0 (lodeMark dst s)
  let s3 := if was = .holdover ∧ dst ≠ .holdover then irqRaise 2 5 s2 else s2
  match dst with
  | .locked => heldEnd 20 1 (heldEnd 18 1 (irqRaise 2 1 s3))
  | .holdover => wakeSet 4 (faultEvent 22 1 0 (irqRaise 2 4 s3))
  | .invalid => wakeSet 4 s3
  | _ => s3

/-- The Lode state at Lode time `t` (R168). -/
def lodeStateAt (s : State) (t : Nat) : LodeState :=
  match (s.lode.was.filter fun e => decide (t < e.1)).getLast? with
  | some e => e.2
  | none => s.lode.state

/-- Enters INVALID: SVC is cleared, the stamp epoch increments (R61, R62). [DESIGN CHOICE, log 28] -/
def enterInvalid (s : State) : State :=
  let t := { s with lode := { s.lode with svc := false, pullOn := false, rFrozen := 0 } }
  tallyRefresh (bumpEpoch (lodeGo .invalid t))

/-- Enters ACQUIRE; the integrator is kept (R62). -/
def enterAcquire (s : State) : State :=
  tallyRefresh (lodeGo .acquire { s with lode := { s.lode with settleTick := none, pullOn := false, rFrozen := 0 } })

/-- Starts or restarts the limiter with offset `d` and enters PULL (R62, R65). -/
def startPull (d : Int) (s : State) : State :=
  let t := { s with lode := { s.lode with
      pullFrom := satSigned 64 d, pullTick := s.clk.ticks, pullOn := true, rFrozen := 0 } }
  tallyRefresh (bumpEpoch (irqRaise 2 2 (lodeGo .pull t)))

/-- The tick at which r reaches 0 (R66). -/
def pullDue (s : State) : Nat :=
  s.lode.pullTick
    + ticksOfNs (ceilDiv (s.lode.pullFrom.natAbs * 1000000000000) (max s.lode.pullSlope 1 * 65536))

/-- Takes a new pull slope from the current r on (R68). -/
def repull (slope : Nat) (s : State) : State :=
  if s.lode.pullOn then
    { s with lode := { s.lode with pullFrom := rNow s, pullTick := s.clk.ticks, pullSlope := slope } }
  else { s with lode := { s.lode with pullSlope := slope } }

/-- The servo takes its parameters at an update (R59, R68): the pull slope from the current r on, and LIMITS. [DESIGN CHOICE, log 60] -/
def takeParams (s : State) : State :=
  let t := if s.lode.pullSlope = s.cfg.lim.pullSlope then s else repull s.cfg.lim.pullSlope s
  { t with lode := { t.lode with lim := s.cfg.lim } }

/-- The mean of a window, or `seed`, or where neither exists a free value: no rule gives the mean of no sample. [DESIGN CHOICE, log 61] -/
def openMean (seed : Option Int) (h : List (Nat × Int)) (s : State) : Int × State :=
  if h.isEmpty then
    match seed with
    | some v => (v, s)
    | none => let f := takeFree s; (Config.openMean f.1, f.2)
  else (histMean 0 h, s)

/-- Enters HOLDOVER (R62, R70 to R72): the time loop is fixed at its mean, r freezes when it was in PULL. -/
def enterHoldover (s : State) : State :=
  let t := s.lode.goodTick.getD s.clk.ticks
  let fromPull := decide (s.lode.state = .pull)
  let corr := meanCorr s t
  let yfw := histMean s.lode.yFw (avgWindow s t s.lode.fwHist)
  let favg := openMean (if s.haul.snap.restored then some s.lode.fAvg else none) (avgWindow s t (loHistory s)) s
  let w := favg.2
  let inc := clampInt incMin incMax (w.lode.incFw + corr)
  let u := setCorr corr { w with lode := { w.lode with
      rFrozen := if fromPull then rNow w else 0, pullOn := false
      yFw := yfw, fAvg := favg.1 } }
  let v := lodeGo .holdover (setClamped (decide (inc ≠ w.lode.incFw + corr)) (setInc inc u))
  tallyRefresh (if fromPull then bumpEpoch v else v)

/-- With the LO as flywheel inc_fw is the calibrated increment (R444), and FREE runs on it (R60). -/
def calibrate (s : State) : State :=
  setInc (incCal s) { s with lode := { s.lode with incFw := incCal s } }

/-! ### Decision ticks (R84) -/

/-- A millisecond of Lode time in units of 2^-16 ns. -/
def lodeMs : Nat := 65536 * 1000000

/-- The number of decision ticks so far: whole milliseconds of Lode time, its steps apart. -/
def decisionNo (s : State) : Nat := (((nowFu s / lodeMs : Nat) : Int) - s.assay.stepMs).toNat

/-- Lode time has reached a whole millisecond with the last tick. -/
def atDecision (s : State) : Bool := decide (lodeNow s % (lodeMs * 2 ^ 40) < s.clk.inc)

/-- The decision tick from which a timer that starts now counts. -/
def timerStart (s : State) : Nat := if atDecision s then decisionNo s else decisionNo s + 1

/-- The decision ticks stay counted when Lode time goes from `before` to the time of `s` at once. -/
def keepDecisions (before : Nat) (s : State) : State :=
  { s with assay := { s.assay with
      stepMs := s.assay.stepMs + ((nowFu s / lodeMs : Nat) : Int) - ((before / lodeMs : Nat) : Int) } }

/-- The first tick at which Lode time is at least `t` (2^-16 ns). [DESIGN CHOICE, log 4] -/
def tickOfLode (t : Nat) (s : State) : Nat :=
  if s.clk.inc = 0 then s.clk.ticks
  else if s.lode.coarse then
    -- the coarse backup counter moves by sixteenths of an LO period
    let per := loPeriod16 s.cfg.str.loMHz
    let steps := ceilDiv (16 * (t * 2 ^ 44 - s.clk.coarse)) (s.clk.inc * per)
    s.clk.ticks + ceilDiv (steps * per - 16 * s.clk.coarseRem) 256
  else s.clk.ticks + ceilDiv (t * 2 ^ 40 - lodeNow s) s.clk.inc

/-- The tick of decision tick number `k`; the present one where it has come. -/
def tickOfDecision (k : Nat) (s : State) : Nat := tickOfLode (((k : Int) + s.assay.stepMs).toNat * lodeMs) s

/-- The next decision tick: the present instant at a whole millisecond that has had none. Without the LO Lode time
stands still, and the next whole millisecond of device time takes its place. [DESIGN CHOICE, log 62] -/
def nextDecision (s : State) : Nat :=
  if !s.lode.loOk then nextMultiple ticksPerMs s
  else if atDecision s && decide (nowFu s / lodeMs ≠ s.assay.tickMs) then s.clk.ticks
  else tickOfLode ((nowFu s / lodeMs + 1) * lodeMs) s

/-! ### Steps (R54, R62, R445) -/

/-- Sets the time counter at one tick by `d` (2^-16 ns, full width). The flywheel offset takes the size of the
step (R81); the coarse backup counter follows (R55), and what is held by its Lode time though it does not move takes a
later or earlier one: the outputs' edges, the time of day of a start (R122) and the instants of UTC parameters (R124).
Lode time is seeded (R332). [DEDUCED, log 12] -/
def stepBy (d : Int) (s : State) : State :=
  let tc := ((s.clk.tc : Int) + d * 2 ^ 40).toNat
  keepDecisions (nowFu s) { s with
    clk := { s.clk with
      tc := tc
      coarse := if s.lode.coarse then ((s.clk.coarse : Int) + d * 2 ^ 44).toNat else coarseFrom tc s }
    lode := { s.lode with seeded := true, settleTick := none }
    assay := { s.assay with phi := s.assay.phi + d * 2 ^ 40, phiMarks := phiMark s }
    outs := { s.outs with out := smap {} (fun o => { o with edgeAt := o.edgeAt + d * 1000 }) s.outs.out }
    dayl := { s.dayl with
      tod := s.dayl.tod.map (· - d)
      utc := smap none (fun u => u.map fun x => (x.1, x.2.1, ((x.2.2 : Int) + d).toNat)) s.dayl.utc }
    haul := if d < 0 then
        { s.haul with links := smap {} (fun l => { l with repBar := sget 0 l.sentMax 3 }) s.haul.links }
      else s.haul }

/-! ### Loops (R57, R58, R65) -/

/-- Time-loop update with offset `e` of reference `n`, measured at tick `t` (R17, R57, R65): r is that of the stamp
point. The servo's parameters are taken from here on (R59, R68). -/
def timeLoopUpdate (n t : Nat) (e : Int) (before : State) : State :=
  let s := takeParams before
  let rec' := refRec s n
  let r := if s.lode.state = .pull then rAt before t else 0
  let x := satSigned 64 (satSigned 64 e - r)
  let fn := fnInUse s n
  let st := loopStep s.lode.integ s.lode.incFw x (gainP fn rec'.zeta) (gainI fn rec'.intervalNs)
  let u := setCorr st.2.1 { s with lode := { s.lode with
      integ := st.1, phaseErr := x, servoFn := fn, servoDamp := rec'.zeta } }
  setClamped (decide (st.2.2 ≠ s.lode.incFw + st.2.1)) (setInc st.2.2 u)

/-- Nominal frequency in Hz of a clock or pulse reference, as a ratio: the entry's, or the recovered clock of a SyncE
port's rate (R106, R194). -/
def refNom (s : State) (n : Nat) : Nat × Nat :=
  if 8 ≤ n ∧ n < 12 then
    (([644531250, 1611328125, 1660156250, 3320312500][(sget {} s.cfg.str.ports ((refRec s n).port.getD 64)).speed]?).getD 0, 4)
  else ((refRec s n).nomHz, 1)

/-- The smallest prescaler that leaves at most 10 MHz of a frequency (R102). -/
def presc10M (f : Nat × Nat) : Nat := max (ceilDiv f.1 (10000000 * f.2)) 1

/-- `x` within half a period of the prescaled edges of a frequency: the edge that a phase belongs to is not named. [DEDUCED, log 30] -/
def wrapPhase (f : Nat × Nat) (x : Int) : Int :=
  let num := max f.1 1
  let den := oneSec * presc10M f * f.2
  x - truncDiv (roundDiv (x * num) den * den) num

/-- What a fractional frequency, summed over ticks (2^-64), adds to a phase, in 2^-16 ns. -/
def phaseOfFreq (x : Int) : Int := roundDiv (x * 4194304) (100 * 2 ^ 64)

/-- Flywheel-loop update with edge phase `ph` of the flywheel reference `n` (R58), in the states in which the servo or
the flywheel runs (R60, R62): y_fw is removed, exactly, from the phase counted edge by edge since the flywheel was
chosen. [DESIGN CHOICE, log 28] -/
def flywheelUpdate (n : Nat) (ph : Int) (before : State) : State :=
  if before.lode.state = .free ∨ before.lode.state = .invalid then before
  else
    let s := takeParams before
    let now := s.clk.ticks
    let acc : Int × Int := match s.lode.fwPhase with
      | some (t, p) =>
        (s.lode.fwErr + wrapPhase (refNom s n) (ph - p), s.lode.fwGone + s.lode.yFw * (now - t : Nat))
      | none => (0, 0)
    let err := acc.1 - phaseOfFreq acc.2
    let rec' := refRec s n
    let fn := s.cfg.refs.flywheelFn
    let st := loopStep s.lode.integF (incCal s) err (gainP fn rec'.zeta) (gainI fn rec'.intervalNs)
    let inc := clampInt incMin incMax (st.2.2 + s.lode.corrT)
    let u := { s with lode := { s.lode with
        integF := st.1, incFw := st.2.2, fwErr := acc.1, fwGone := acc.2, fwPhase := some (now, ph), fwRunning := true
        fwClamped := decide (st.2.2 ≠ incCal s + st.2.1) } }
    setClamped (decide (inc ≠ st.2.2 + s.lode.corrT)) (setInc inc u)

/-- The learned flywheel offset (R71): while LOCKED with an atomic flywheel QUALIFIED, the mean over the tau_avg that ends g
before the latest measurement. -/
def learnOffset (s : State) : State :=
  if s.lode.state = .locked ∧ s.lode.fwRef ≠ 63 ∧ (refSt s s.lode.fwRef).q = .qualified then
    { s with lode := { s.lode with yFw := histMean s.lode.yFw (avgWindow s s.clk.ticks s.lode.fwHist) } }
  else s

/-- The flywheel of R69, chosen from the designated reference's qualification: reference and class. -/
def flywheelChoice (s : State) : Nat :=
  match s.cfg.refs.flywheel with
  | some n => if (refSt s n).q = .qualified ∨ (refSt s n).q = .holdoff then n else 63
  | none => 63

/-- The class of a flywheel: the one that REFERENCES gives the designated reference, 0 for the LO (R69, R142). -/
def classOfFlywheel (s : State) (f : Nat) : Nat := if f = 63 then 0 else s.cfg.refs.flywheelClass

/-- What the Lode has learned of the flywheel in use is kept only for the reference that it is of (R71, R142). -/
def fwLearned (f : Nat) (l : LodeSt) : LodeSt :=
  if f = 63 ∨ f = l.fwLast then l else { l with fwLast := f, fwHist := [], yFw := 0 }

/-- The flywheel in use changes to another one (R69). With the LO inc_fw is the calibrated increment (R444), and in
HOLDOVER the correction takes up the difference, so that the increment stays until R72 sets it; from the LO to an atomic
one in HOLDOVER the time loop's output is the mean of R71. What was measured of the flywheel before it does not count
for the new one (R97, R142). -/
def switchFlywheel (f : Nat) (s : State) : State :=
  let cal := incCal s
  let l := fwLearned f { s.lode with
    fwPhase := none, fwErr := 0, fwGone := 0, fwClamped := false, fwRef := f, fwClass := classOfFlywheel s f }
  let u := { s with
    lode := if f = 63 then { l with fwRunning := false, incFw := cal } else l
    assay := { s.assay with blocks := [], yMeas := 0, aMeas := 0, blockOk := false } }
  if s.lode.state ≠ .holdover then u
  else if f = 63 then setCorr ((s.clk.inc : Int) - cal) u
  else
    let m := meanCorr u (u.lode.goodTick.getD u.clk.ticks)
    let inc := clampInt incMin incMax (u.lode.incFw + m)
    setClamped (decide (inc ≠ u.lode.incFw + m)) (setInc inc (setCorr m u))

/-- The flywheel in use is the choice of R69, in the class that REFERENCES gives it now (R92). -/
def chooseFlywheel (s : State) : State :=
  let f := flywheelChoice s
  if f = s.lode.fwRef then { s with lode := { s.lode with fwClass := classOfFlywheel s f } } else switchFlywheel f s

/-! ### Lock loss, re-alignment, LO absence (R73 to R75) -/

/-- Marks every frequency gate in progress: it contains an instant with COARSE at 1 (R103). -/
def gatesInvalid (s : State) : State :=
  { s with dial := { s.dial with ch := s.dial.ch.map fun e =>
      (e.1, { e.2 with gate := e.2.gate.map fun g => { g with invalid := true } }) } }

/-- The Lode's part of a TBPLL lock loss (R73). [DESIGN CHOICE, log 28] -/
def lodeLockLoss (s : State) : State :=
  let first := s.lode.lossState.isNone
  let u := { gatesInvalid s with lode := { s.lode with
      coarse := true, coarseTick := if s.lode.coarse then s.lode.coarseTick else s.clk.ticks
      coarseStart := if s.lode.coarse then s.lode.coarseStart else s.clk.ticks, loOld := loPutAside s
      tbpllLock := false, ageValid := false, loSamples := [], ageRate := 0, ageSlope := (0, 1), fitC := 0, fitN := 0
      settleTick := none
      lossState := if first then some s.lode.state else s.lode.lossState
      lossTick := if first then s.clk.ticks else s.lode.lossTick } }
  tallyRefresh (faultEvent 16 1 0 (bumpEpoch (irqRaise 2 6 (rfBump 0x00200060 15 0 1 u))))

/-- 50 ps in 2^-16 ns, rounded up. -/
def fu50ps : Nat := fuOfPs 50

/-- The stated frequency bound of flywheel class 0 (R74). -/
def yLo (s : State) : Nat :=
  match s.cfg.refs.fly with
  | b :: _ => b.y
  | [] => 0

/-- LO period / 16 + y_LO t_out + 50 ps after `out` ticks, in 2^-16 ns: one sum, rounded up once (R74). -/
def coarseSum (s : State) (out : Nat) : Nat :=
  let mhz := max s.cfg.str.loMHz 1
  ceilDiv (62500 * 65536 * 10 ^ 20 + yLo s * out * 4194304 * (1000 * mhz) + 50 * 65536 * mhz * 10 ^ 20)
    (1000 * mhz * 10 ^ 20)

/-- The coarse error e_c in 2^-16 ns and the flywheel's difference theta_meas - theta_pred, when it gives one
(R74). `theta` is the measured flywheel edge phase. -/
def coarseError (s : State) (theta : Option Int) : Nat × Option Int :=
  let out := s.clk.ticks - s.lode.lossTick
  let atomic := s.lode.fwRef ≠ 63 ∧ (refSt s s.lode.fwRef).q = .qualified ∧ out < 10 * ticksPerMs
  let other := (coarseSum s out, none)
  match theta, s.lode.fwPhase with
  | some th, some (t, p) =>
    if atomic then
      let d := wrapPhase (refNom s s.lode.fwRef) (th - (p + phaseOfFreq (s.lode.yFw * (s.clk.ticks - t : Nat))))
      (d.natAbs + fu50ps, some d)
    else other
  | _, _ => other

/-- 5 ns (R74). -/
def realignLimit : Nat := 327680

/-- Loads the time counter from the coarse backup counter at its LO edge plus the fine phase measured against that edge
(2^-56 ns); the coarse backup counter follows (R55, R73). [DESIGN CHOICE, log 29] -/
def loadFromCoarse (fine : Nat) (s : State) : State :=
  let tc := s.clk.coarse / 16 + fine
  { markTime s with
    clk := { s.clk with tc := tc, coarse := coarseFrom tc s }
    lode := { s.lode with coarse := false, coarseTick := s.clk.ticks, lossState := none } }

/-- The Lode's part of the re-alignment decision (R74), for the state in force: a Lode that lost its last reference in
the outage is in HOLDOVER and stays there. [DEDUCED, log 65] -/
def lodeRealign (fine : Nat) (theta : Option Int) (s : State) : State :=
  let ce := coarseError s theta
  let was := s.lode.state
  let u := loadFromCoarse fine s
  let v := heldEnd 16 1 { u with lode := { u.lode with realignErr := codeOfFu ce.1 } }
  if ce.1 ≤ realignLimit then
    let w := irqRaise 2 7 { v with lode := { v.lode with ec := ce.1 } }
    if was = .locked ∨ was = .pull then
      match ce.2 with
      | some d => startPull d w
      | none => tallyRefresh w
    else tallyRefresh w
  else
    let w := faultEvent 18 1 0 (irqRaise 2 8 (rfBump 0x00200060 31 16 1 v))
    if was = .locked ∨ was = .pull ∨ was = .holdover then enterAcquire (enterInvalid w)
    else tallyRefresh w

/-- The Lode's part of an LO absence (R75). -/
def lodeLoAbsent (s : State) : State :=
  let u := { gatesInvalid (markTime s) with lode := { s.lode with
      loOk := false, tbpllLock := false, coarse := true
      coarseStart := if s.lode.coarse then s.lode.coarseStart else s.clk.ticks, loOld := loPutAside s
      coarseTick := if s.lode.coarse then s.lode.coarseTick else s.clk.ticks, seeded := false, ageValid := false, loSamples := [], ageRate := 0
      ageSlope := (0, 1), fitC := 0, fitN := 0, settleTick := none, realignErr := 0xFFFFFFFF } }
  let v := irqRaise 2 9 (rfBump 0x00200060 31 16 1 (rfBump 0x00200060 15 0 1 u))
  let w := canaryUpdate (faultEvent 17 1 0 { v with dayl := { v.dayl with tod := none } })
  match s.lode.state with
  | .locked => enterInvalid w
  | .pull => enterInvalid w
  | .holdover => enterInvalid w
  | _ => tallyRefresh (bumpEpoch w)

/-- The Lode's part of the LO's return (R75): no re-alignment; the coarse backup counter is reloaded from the time
counter, which stopped with it. [DESIGN CHOICE, log 29] -/
def lodeLoReturn (s : State) : State :=
  let u := keepDecisions (nowFu s) { markTime s with
      clk := { s.clk with coarse := coarseFrom s.clk.tc s }
      lode := { s.lode with loOk := true, tbpllLock := true, coarse := false, coarseTick := s.clk.ticks, lossState := none } }
  let v := canaryUpdate (heldEnd 16 1 (heldEnd 17 1 u))
  if v.lode.state = .invalid then enterAcquire v else tallyRefresh v

/-! ### The ageing model (R72) -/

/-- The mean LO correction since the last sample, in units of 2^-64. -/
def loCorrection (s : State) : Int :=
  let c := s.clk
  if c.incN = 0 then 0
  else roundDiv (((c.incSum : Int) - c.incN * nominalInc) * 2 ^ 64) (c.incN * nominalInc)

/-- The samples of the fit: those of the last W before the newest (R72). -/
def fitOf (w : Nat) (h : List (Nat × Int)) : List (Nat × Int) :=
  match h with
  | [] => []
  | e :: _ => h.filter fun x => decide (e.1 < x.1 + w * ticksPerSec)

/-- The samples of the fit in force. -/
def fitSamples (s : State) : List (Nat × Int) := fitOf s.lode.lim.ageWindow s.lode.loSamples

/-- The value of the fitted line f(t) = f_c + D t at tick `t`, rounded to nearest (R72). -/
def fitAt (s : State) (t : Nat) : Int :=
  s.lode.fitC + roundDiv (s.lode.ageSlope.1 * ((t : Int) - s.lode.fitTick)) s.lode.ageSlope.2

/-- The fit of a history at tick `t` takes effect. -/
def takeFit (t : Nat) (h : List (Nat × Int)) (l : LodeSt) : LodeSt :=
  { l with ageRate := slopePerSec h, ageSlope := lsSlope h, fitC := lsAt h t, fitTick := t, fitN := h.length }

/-- Takes the one-second sample and updates the fit. The samples are kept for the averages too (R72, R97). -/
def loSample (s : State) : State :=
  let u := { s with clk := { s.clk with incSum := 0, incN := 0 } }
  if s.lode.state = .locked ∧ s.lode.coarse = false ∧ s.clk.incN ≠ 0 then
    let h := histPush s.clk.ticks (loCorrection s) (max s.lode.lim.ageWindow (keepSpan s)) s.lode.loSamples
    let fit := fitOf s.lode.lim.ageWindow h
    let ok := s.lode.ageValid || decide (3600 ≤ fit.length)
    let v := { u with lode := takeFit s.clk.ticks fit { u.lode with loSamples := h, ageValid := ok } }
    if ok && !s.lode.ageValid then irqRaise 2 10 v else v
  else u

/-- nominal_inc (1 + corr(t)) of R72 in HOLDOVER with the LO as flywheel, over one denominator with the exact slope of
the fit, rounded once. [DESIGN CHOICE, log 28] -/
def loHoldoverRaw (s : State) : Int :=
  let dt : Int := ((s.clk.ticks - s.lode.goodTick.getD s.clk.ticks : Nat) : Int)
  let d : Int × Nat := if s.lode.ageValid then s.lode.ageSlope else (0, 1)
  let corr := s.lode.fAvg * (2 * d.2)
    + d.1 * (2 * dt + ((2 * s.lode.lim.guardS + s.lode.lim.tauAvg) * ticksPerSec : Nat))
  roundDiv (nominalInc * (2 ^ 64 * (2 * d.2) + corr)) (2 ^ 64 * (2 * d.2))

/-- That increment within the limits (R53). -/
def loHoldoverInc (s : State) : Int := clampInt incMin incMax (loHoldoverRaw s)

/-! ### The commands -/

/-- The first TBPLL lock (R62): a Lode in FREE enters ACQUIRE once STRUCTURE is applied. -/
def lodeFirstLock (s : State) : State :=
  let u := canaryUpdate { markTime s with lode := { s.lode with loOk := true, tbpllLock := true, incFw := incCal s } }
  if s.lode.state = .free ∧ s.surv.structureApplied then enterAcquire (calibrate u) else u

/-- TBPLL_RELOCK (R73): lock is back, COARSE stays until the re-alignment decision. A Lode that is in FREE with the
image applied enters ACQUIRE (R62). -/
def execTbpllRelock (s : State) : Res :=
  if s.lode.loOk then
    let u := { s with lode := { s.lode with tbpllLock := true } }
    .next (if u.lode.state = .free ∧ u.surv.structureApplied then enterAcquire u else u)
  else .next s

/-- COARSE_RELOAD (R55). -/
def execCoarseReload (s : State) : Res :=
  let u := elapseTo (nextMultiple ticksPerMs s) s
  .next (if u.lode.tbpllLock && !u.lode.coarse then
      { u with clk := { u.clk with coarse := u.clk.tc * 16, coarseRem := 0 } }
    else u)

/-- The servo can end ACQUIRE: Lode time is seeded (R445), neither a lock loss nor an LO absence holds (R62), and the
selected reference is not in HOLDOFF, during which the Lode's state does not change (R88). -/
def mayLock (s : State) : Bool :=
  s.lode.seeded && !s.lode.coarse && s.lode.loOk && (refSt s s.assay.selRef).q != .holdoff

/-- LOCK_SETTLE_EXPIRY (R62): ACQUIRE to LOCKED. -/
def execLockSettleExpiry (s : State) : Res :=
  match s.lode.state, (if mayLock s then s.lode.settleTick else none) with
  | .acquire, some t => .next (tallyRefresh (lodeGo .locked (elapseTo (t + s.lode.lim.lockSettle * ticksPerSec) s)))
  | _, _ => .next s

/-- PULL_END (R66): r reaches 0. -/
def execPullEnd (s : State) : Res :=
  if s.lode.state = .pull ∧ s.lode.pullOn then
    let u := elapseTo (pullDue s) s
    .next (tallyRefresh (irqRaise 2 3 (lodeGo .locked { u with lode := { u.lode with pullOn := false, rFrozen := 0 } })))
  else .next s

/-- HOLDOVER_MAX_EXPIRY (R62). -/
def execHoldoverMaxExpiry (s : State) : Res :=
  if s.lode.state = .holdover ∧ s.lode.lim.holdMax ≠ 0 then
    let u := elapseTo (s.lode.goodTick.getD s.clk.ticks + s.lode.lim.holdMax * ticksPerSec) s
    .next (faultEvent 20 1 0 (enterInvalid u))
  else .next s

/-- LO_CORRECTION_SAMPLE (R72). -/
def execLoCorrectionSample (s : State) : Res := .next (loSample (elapseTo (nextMultiple ticksPerSec s) s))

/-- HOLDOVER_RATE_UPDATE (R72): the time loop's correction follows, so that Lode time stays flywheel time plus
phi_t (R81). -/
def execHoldoverRateUpdate (s : State) : Res :=
  let u := elapseTo (nextMultiple ticksPerSec s) s
  .next (if u.lode.state = .holdover ∧ u.lode.fwRef = 63 then
      let v := loHoldoverInc u
      setClamped (decide (v ≠ loHoldoverRaw u)) (setInc v (setCorr (v - u.lode.incFw) u))
    else u)

/-- SERVICE_ENABLE (R61, R359). -/
def execServiceEnable (s : State) : Res :=
  let q := (refSt s s.assay.selRef).q
  .next (if s.lode.state = .locked ∧ (q = .qualified ∨ q = .holdoff)
      ∧ boundCode s (nowFu s) (maxDpt s) 0 ≤ s.cfg.lim.svcLimit then
      { s with lode := { s.lode with svc := true } }
    else s)

/-- LODE_TIME_LATCH (R56): a write of `v`; bit 0 latches Lode time and the increment. -/
def execLodeTimeLatch (v : Nat) (s : State) : Res :=
  .next (if bitAt v 0 then
      { s with lode := { s.lode with
          latchTime := nowFu s, latchInc := s.clk.inc, latchCoarse := s.lode.coarse } }
    else s)

/-- LEAP_APPLIED (R32): Lode time passes the leap instant. -/
def execLeapApplied (s : State) : Res :=
  if s.leap.pending = 0 then .next s
  else
    let u := elapseTo (tickOfLode (s.leap.instant * oneSec) s) s
    .next { u with leap := leapApply u.leap }

end Sys2Proof.Machine
end

