-- ==== Sys2Proof/Machine/Assay.lean ====
section
/-! DEFINITION. The Assay: monitors, qualification, selection, SyncE and PTP-reference inputs, and measured flywheel bounds (R76 to R97, R446). -/

namespace Sys2Proof.Machine

/-- Base address of a reference's registers. -/
def refBase (n : Nat) : Nat := 0x00301000 + 0x40 * n

/-- Rank of a QL code for an SSM option (R446); 9 is the rank of every other code. -/
def qlRank (opt c : Nat) : Nat :=
  if opt = 2 then
    (if c = 1 then 1 else if c = 0 then 2 else if c = 7 then 3 else if c = 4 then 4 else if c = 0xD then 5
      else if c = 0xA then 6 else if c = 0xC then 7 else if c = 0xF then 8 else 9)
  else
    (if c = 2 then 1 else if c = 4 then 2 else if c = 8 then 3 else if c = 0xB then 4 else if c = 0xF then 5 else 9)

/-- Whether a frequency result is inside a limit of `f` units of 10^-15 (R80). -/
def freqInside (r : RefSt) (f : Nat) (unknown : Bool) : Bool :=
  match r.freq with
  | some x => decide (x.natAbs * 10 ^ 15 ≤ f * 2 ^ 64)
  | none => unknown

/-- The source check of a reference: inside accept, inside reject (R82). -/
def srcCheck (s : State) (n : Nat) : Bool × Bool :=
  let r := refSt s n
  let e := refRec s n
  if n < 6 then
    (if e.isTime then (decide (r.todinBad = 0), decide (r.todinBad < 2)) else (true, true))
  else if n < 8 then (r.srcAcc, r.srcRej)
  else if n < 12 then
    let opt := s.cfg.str.ssmOption
    let ok := r.qlTick.isSome && r.ql != 15 && decide (qlRank opt r.ql ≤ qlRank opt (e.minQl opt))
    (ok, ok)
  else if n < 16 then
    let same := r.master.isSome && !r.masterLost && !r.returning && (r.qualMaster.isNone || r.qualMaster == r.master)
    let ok := same && decide (r.ptpClass ≤ e.maxClockClass)
    (ok, ok)
  else
    match r.rx with
    | some x => (decide (x.code ≤ e.bAcc), decide (x.code ≤ e.bRej) && !bitAt x.flags 6)
    | none => (false, false)

/-- Every check inside its accept limit. -/
def inAccept (s : State) (n : Nat) : Bool :=
  let r := refSt s n
  r.active && freqInside r (refRec s n).fAcc false && r.consAcc && (srcCheck s n).1

/-- Every check inside its reject limit. -/
def inReject (s : State) (n : Nat) : Bool :=
  let r := refSt s n
  r.active && freqInside r (refRec s n).fRej true && r.consRej && (srcCheck s n).2

/-- Marks a qualification change in ASSAY_EVT and raises interrupt `b`, if any. -/
def qualEvent (n : Nat) (b : Option Nat) (s : State) : State :=
  let t := if n = 32 then rfOr 0x00300114 1 s else rfOr 0x00300110 (2 ^ n) s
  match b with
  | some k => irqRaise 3 k t
  | none => t

/-- Puts a reference into a qualification state, with the records of R86. -/
def qualGo (n : Nat) (q : QState) (s : State) : State :=
  let was := (refSt s n).q
  if was = q then s else
  let now := timerStart s
  match q with
  | .disabled => qualEvent n none (refMod n (fun _ => {}) s)
  | .absent =>
    let t := refMod n (fun r => { r with q := q, returning := false, qualMaster := none }) s
    if was = .disabled then qualEvent n none t else faultEvent (32 + n) 2 0 (qualEvent n (some 3) t)
  | .rejected =>
    let t := refMod n (fun r => { r with q := q, immediate := false, returning := false, qualMaster := none }) s
    if was = .qualified ∨ was = .holdoff then
      faultEvent (32 + n) 1 0 (rfBump (refBase n + 0x18) 31 16 1 (qualEvent n (some 2) t))
    else qualEvent n none t
  | .soak => qualEvent n none (refMod n (fun r => { r with q := q, soakTick := now, missed := false }) s)
  | .qualified =>
    if was = .soak then
      let t := refMod n (fun r => { r with q := q, wtrTick := now, qualMaster := r.master }) s
      rfBump (refBase n + 0x18) 15 0 1 (qualEvent n (some 0) t)
    else qualEvent n (some 0) (refMod n (fun r => { r with q := q }) s)
  | .holdoff => qualEvent n (some 1) (refMod n (fun r => { r with q := q, holdTick := now }) s)

/-- Decision ticks at which the soak, hold-off and wait-to-restore timers of a reference end (R83, R84, R90). -/
def soakEnd (s : State) (n : Nat) : Nat := (refSt s n).soakTick + (refRec s n).soakS * 1000
/-- The end of the hold-off. -/
def holdoffEnd (s : State) (n : Nat) : Nat := (refSt s n).holdTick + (refRec s n).holdoffDs * 100
/-- The end of the wait-to-restore timer. -/
def wtrEnd (s : State) (n : Nat) : Nat := (refSt s n).wtrTick + (refRec s n).wtrS * 1000

/-- The ticks at which they end. -/
def soakDue (s : State) (n : Nat) : Nat := tickOfDecision (soakEnd s n) s
/-- The tick at which the hold-off ends. -/
def holdoffDue (s : State) (n : Nat) : Nat := tickOfDecision (holdoffEnd s n) s
/-- The tick at which the wait-to-restore timer ends. -/
def wtrDue (s : State) (n : Nat) : Nat := tickOfDecision (wtrEnd s n) s

/-- The wait-to-restore timer of a reference has expired. -/
def wtrExpired (s : State) (n : Nat) : Bool := decide (wtrEnd s n ≤ decisionNo s)

/-- A reference takes no part: it has no entry, or its link has joined a lower link's feed (R86, R329). -/
def refOff (s : State) (n : Nat) : Bool :=
  (refRec? s n).isNone || (decide (16 ≤ n ∧ n < 32) && feedOf s (n - 16) != n)

/-- One reference's qualification (R86); `expired` says that the soak or the hold-off that runs has ended. [DESIGN CHOICE, log 67] -/
def qualStep (n : Nat) (expired : Bool) (s : State) : State :=
  let r := refSt s n
  if refOff s n then (if r.q = .disabled then s else qualGo n .disabled s) else
  match r.q with
  | .disabled => qualGo n .absent s
  | .absent => if r.active then qualGo n .rejected s else s
  | .rejected => if !r.active then qualGo n .absent s else if inAccept s n then qualGo n .soak s else s
  | .soak =>
    if !r.active then qualGo n .absent s
    else if !inAccept s n || r.missed then qualGo n .rejected s
    else if expired then qualGo n .qualified s else s
  | .qualified =>
    if r.immediate then qualGo n .rejected s
    else if inReject s n then s
    else if (refRec s n).holdoffDs = 0 then (if r.active then qualGo n .rejected s else qualGo n .absent s)
    else qualGo n .holdoff s
  | .holdoff =>
    if r.immediate then qualGo n .rejected s
    else if inReject s n then qualGo n .qualified s
    else if expired then (if r.active then qualGo n .rejected s else qualGo n .absent s)
    else s

/-- One reference's qualification at a decision tick (R86, R87). -/
def qualEval (n : Nat) (s : State) : State :=
  qualStep n (match (refSt s n).q with
    | .soak => decide (soakEnd s n ≤ decisionNo s)
    | .holdoff => decide (holdoffEnd s n ≤ decisionNo s)
    | _ => false) s

/-! ### Selection (R89, R90, R93, R94) -/

/-- The time list in force with positions: a twin that follows or waits puts ID 32 first (R336). -/
def timeList (s : State) : List (Nat × ListEntry) :=
  (List.range 8).zip
    ((if s.haul.twin.inList then [{ id := 32, revertive := true }] else []) ++ s.cfg.refs.timeList)

/-- A reference is QUALIFIED. -/
def isQualified (s : State) (n : Nat) : Bool := (refSt s n).q == .qualified

/-- A reference is QUALIFIED or in HOLDOFF. -/
def isUsable (s : State) (n : Nat) : Bool := isQualified s n || (refSt s n).q == .holdoff

/-- Position and reference that the rules of R89 select, or none. -/
def selectRef (s : State) : Option (Nat × Nat) :=
  let l := timeList s
  let timed := fun (p : Nat × ListEntry) => isQualified s p.2.id && (!s.assay.started || wtrExpired s p.2.id)
  let cur := l.find? fun p => p.2.id == s.assay.selRef
  let rule2 := match l.find? timed with
    | some p => some (p.1, p.2.id)
    | none => (l.find? fun p => isQualified s p.2.id).map fun p => (p.1, p.2.id)
  match cur with
  | some c =>
    if isUsable s c.2.id then
      match l.find? fun p => decide (p.1 < c.1) && p.2.revertive && timed p with
      | some p => some (p.1, p.2.id)
      | none => some (c.1, c.2.id)
    else rule2
  | none => rule2

/-- The offset d of a new reference: the mean of its last eight good e (R93). [DESIGN CHOICE, log 63] -/
def switchOffset (s : State) (n : Nat) : Int :=
  let l := (refSt s n).goodE
  if l.isEmpty then (refSt s n).lastE else roundDiv (sumInt l) l.length

/-- What the Tally takes from a reference from its selection on (R137): its last good measurement, or what it has
delivered where it has had none. [DEDUCED, log 55] -/
def sourceOf (s : State) (n : Nat) : SrcSt :=
  let r := refSt s n
  if r.goodTick.isSome then { r.good with ref := n, entry := refRec s n }
  else
    { ref := n, entry := refRec s n, dual := r.dual, sigmaSol := r.sigmaSol, cD := r.cD, rx := r.rx, link := r.rxLink
      fn := fnInUse s n }

/-- The selection changes to reference `n` at position `p` (R94, R62), and the upstream leap state with it (R31). -/
def selectionSwitch (p n : Nat) (s : State) : State :=
  let u := { s with
      assay := { s.assay with selRef := n, selPos := p, started := true }
      lode := { s.lode with
        selRef := n
        goodTime := if (refSt s n).goodTick.isSome then (refSt s n).goodTime else s.lode.goodTime
        goodTick := if (refSt s n).goodTick.isSome then (refSt s n).goodTick else s.lode.goodTick
        settleTick := none }
      tally := { s.tally with lastSel := n, src := sourceOf s n } }
  let v := rfBump 0x00300010 15 0 1 (irqRaise 3 4 (upstreamSwitch n u))
  match s.lode.state with
  | .locked => startPull (switchOffset s n) v
  | .pull => startPull (switchOffset s n) v
  | .holdover => startPull (switchOffset s n) v
  | _ => tallyRefresh (bumpEpoch v)

/-- Nothing is selected any more (R89 rule 2, R62). The upstream leap state stays the first source until another reference
is selected or the twin leads (R31). [DESIGN CHOICE, log 34] -/
def selectionLost (s : State) : State :=
  let u := { s with
      assay := { s.assay with selRef := 63, selPos := 0 }
      lode := { s.lode with selRef := 63 } }
  let v := rfBump 0x00300010 31 16 1 (irqRaise 3 5 u)
  match s.lode.state with
  | .locked => enterHoldover v
  | .pull => enterHoldover v
  | _ => tallyRefresh { v with lode := { v.lode with settleTick := none } }

/-- The one selection of a decision tick (R87, R89). -/
def selectionEval (s : State) : State :=
  match selectRef s with
  | some (p, n) =>
    if n = s.assay.selRef then { s with assay := { s.assay with selPos := p } } else selectionSwitch p n s
  | none => if s.assay.selRef = 63 then s else selectionLost s

/-- The designated flywheel's qualification and the flywheel in use, with their records (R69, R97, R142). -/
def flywheelEval (s : State) : State :=
  let ok := match s.cfg.refs.flywheel with
    | some n => isQualified s n
    | none => false
  let u := { s with
    assay := { s.assay with fwOk := ok }
    -- an anchor is kept only while the flywheel is QUALIFIED (R131)
    dayl := if ok then s.dayl else { s.dayl with ants := smap {} (fun x => { x with anchor := none }) s.dayl.ants } }
  chooseFlywheel (if ok = s.assay.fwOk then u else irqRaise 3 6 u)

/-- After anything that may raise y or a in force: RAISED and the epoch event of R145. -/
def boundsEdge (before : State) (s : State) : State :=
  let up := decide (yTally before < yTally s) || decide (aTally before < aTally s)
  let raised := (yRaised s && !yRaised before) || (aRaised s && !aRaised before)
    || (up && (yRaised s || aRaised s))
  let u := if raised then irqRaise 3 7 s else s
  tallyRefresh (if up then bumpEpoch u else u)

/-- Evaluation of every reference in ascending ID, then of the flywheel (R87). A Lode in INVALID with the TBPLL locked
and the LO present enters ACQUIRE (R62). -/
def refsEval (s : State) : State :=
  let s0 := if s.lode.state = .invalid ∧ s.lode.tbpllLock ∧ s.lode.loOk then enterAcquire s else s
  let s1 := (List.range 33).foldl (fun t n => qualEval n t) s0
  boundsEdge s (flywheelEval s1)

/-- Evaluation of every reference, and one selection after it (R87). -/
def decisionTick (s : State) : State := selectionEval (refsEval s)

/-! ### Measurements (R17, R78 to R81) -/

/-- A clock or pulse reference: its activity is that of its edges (R79). -/
def isClock (n : Nat) : Bool := decide (n < 6 ∨ (8 ≤ n ∧ n < 12))

/-- A measurement counted as missing (R17, R79). -/
def countMissing (n : Nat) (s : State) : State :=
  let k := (refSt s n).missRun + 1
  let t := refMod n (fun r => { r with
      missRun := k, missed := true, active := r.active && (isClock n || decide (k < (refRec s n).nMiss)) }) s
  rfBump (refBase n + 0x14) 15 0 1 t

/-- The good measurements of the fit window [t - g - tau_c, t - g] (R81). -/
def fitWindow (s : State) (n t : Nat) (h : List (Nat × Int)) : List (Nat × Int) :=
  let g := s.lode.lim.guardS * ticksPerSec
  histWindow (t - g - (refRec s n).tauC * ticksPerSec) (t - g) h

/-- The phase limit P + y (t - t_g), in 2^-16 ns, of `p` ps (R81). [DESIGN CHOICE, log 63] -/
def phaseLimit (s : State) (n p t : Nat) : Nat :=
  let dt := match (refSt s n).goodTick with
    | some g => t - g
    | none => 0
  fuOfPs p + ceilDiv (yInForce s * nsOfTicks dt * 65536) (2 ^ 48)

/-- The flywheel-referred offset u = e + phi_t of a measurement at tick `t` (R81). -/
def flyOffset (s : State) (t : Nat) (e : Int) : Int := e + Int.fdiv (phiAt s t) (2 ^ 40)

/-- e of a frequency-only or returning reference as its frequency `f` predicts it at tick `t` (R81, R96). -/
def predicted (r : RefSt) (f : Int) (t : Nat) : Int :=
  r.lastE + phaseOfFreq (f * (t - r.lastTick.getD t : Nat))

/-- Residual and verdicts of the consistency check for offset `e` at tick `t` (R81). [DESIGN CHOICE, log 67] -/
def consCheck (s : State) (n t : Nat) (e : Int) : Nat × Bool × Bool :=
  let r := refSt s n
  let c := refRec s n
  let judge := fun (x : Nat) => (x, decide (x ≤ phaseLimit s n c.pAcc t), decide (x ≤ phaseLimit s n c.pRej t))
  if c.isTime then
    let w := fitWindow s n t r.goodU
    let h := if w.length < 8 then r.passed.take 8 else w
    if h.length < 8 then (0, false, true) else judge (lsResidual h t (flyOffset s t e))
  else
    match (if 8 ≤ n then r.freqPrev else r.freq), r.lastTick with
    | some f, some _ => judge (wrapPhase (refNom s n) (e - predicted r f t)).natAbs
    | _, _ => (0, false, true)

/-- Slope of offsets as a fractional frequency in units of 2^-64. [DEDUCED, log 30] -/
def slopeFreq (h : List (Nat × Int)) : Int :=
  let m := lsSlope h
  roundDiv (m.1 * 2 ^ 64 * 100) (m.2 * 4194304)

/-- The frequency check of packet and solution references: a fit of e over tau_f (R80). -/
def freqFit (s : State) (n t : Nat) (e : Int) (r : RefSt) : RefSt :=
  if n < 6 ∨ (8 ≤ n ∧ n < 12) then r else
  let h := (t, e) :: r.fitE
  match h.getLast? with
  | some (t0, _) =>
    if t0 + (refRec s n).gateMs * ticksPerMs ≤ t then { r with freq := some (slopeFreq h), fitE := [(t, e)] }
    else { r with fitE := h }
  | none => { r with fitE := h }

/-- The Lode's use of a good measurement of the selected time reference (R57, R62, R78). Without the LO no step is made
(R54). -/
def lodeMeasure (n : Nat) (e : Int) (t at' : Nat) (s : State) : State :=
  let u := { s with lode := { s.lode with goodTick := some t, goodTime := at', ec := 0 } }
  match s.lode.state with
  | .acquire =>
    if !s.lode.loOk then u
    else if !s.lode.seeded || decide (s.cfg.lim.lockWindow < e.natAbs) then stepBy e (takeParams u)
    else
      let v := { u with lode := { u.lode with settleTick := some (u.lode.settleTick.getD s.clk.ticks) } }
      timeLoopUpdate n t e v
  | .locked => timeLoopUpdate n t e u
  | .pull => timeLoopUpdate n t e u
  | _ => u

/-- The original master is back, and this measurement agrees with the last one before its loss and the rate held since
(R96). -/
def returned (s : State) (n t : Nat) (e : Int) : Bool :=
  let r := refSt s n
  let p := predicted { r with lastE := r.heldE, lastTick := r.heldTick } r.heldRate t
  r.returning && !r.masterLost && decide ((e - p).natAbs ≤ phaseLimit s n (refRec s n).pRej t)

/-- The record of a measurement of reference `n` at tick `t` and Lode time `at'`: `ej` is judged, `e` served, and `k` and
`fr` are the verdicts (R78 to R81, R136, R137). -/
def refMeasured (s : State) (n t at' : Nat) (e ej : Int) (k : Nat × Bool × Bool) (fr good : Bool) (r : RefSt) : RefSt :=
  let c := refRec s n
  let er := if n = s.assay.selRef ∧ s.lode.state = .pull then e - rAt s t else e
  let r1 := freqFit s n t ej { r with
      active := true, missRun := 0, lastE := e, lastTick := some t
      returning := r.returning && !returned s n t e
      cons := k.1, consAcc := k.2.1, consRej := k.2.2
      passed := if fr then ((t, flyOffset s t ej) :: r.passed).take 8 else r.passed }
  if good then
    { r1 with
      goodTick := some t, goodTime := at'
      goodU := histPush t (flyOffset s t ej) (s.cfg.lim.guardS + c.tauC + 1) r.goodU
      goodE := (e :: r.goodE).take 8
      good :=
        { ref := n, entry := c, dual := r.dual, sigmaSol := r.sigmaSol, cD := r.cD, rx := r.rx, link := r.rxLink
          er := (er :: r.good.er).take 64, fn := fnInUse s n } }
  else r1

/-- A stamp of tick `t` was taken while COARSE was 1: it is invalid (R56). [DEDUCED, log 30] -/
def stampInvalid (s : State) (t : Nat) : Bool :=
  decide (s.lode.coarseStart ≤ t) && (s.lode.coarse || decide (t < s.lode.coarseTick))

/-- A measurement of reference `n` with offset `e`, stamped `age` ticks ago, judged and applied: when it arrives decides
only whether it is still valid (R17). One stamped while COARSE was 1 carries invalid timestamps and is no measurement
(R56). [DEDUCED, log 30] -/
def measure (n : Nat) (e : Int) (age : Nat) (s : State) : State :=
  let t := s.clk.ticks - age
  if refOff s n then s
  else if ticksOfNs ((refRec s n).validUs * 1000) < age then countMissing n s
  else if stampInvalid s t then s
  else
    let c := refRec s n
    let at' := timeAt s t
    -- the Assay's checks judge e + r_rx, the servo follows e (R328)
    let ej := if isUpstream n then e + (refSt s n).rRx else e
    let k := consCheck s n t ej
    let fr := freqInside (refSt s n) c.fRej true
    let good := isQualified s n && fr && k.2.2 && (srcCheck s n).2
    let sel := decide (n = s.assay.selRef)
    let u := refMod n (refMeasured s n t at' e ej k fr good) s
    let v := if good && sel then { u with tally := { u.tally with src := (refSt u n).good } } else u
    let w := if good && c.isTime && sel then lodeMeasure n e t at' v else v
    let x := if good && !c.isTime && decide (n = s.lode.fwRef) then flywheelUpdate n e w else w
    tallyRefresh x

/-! ### Immediate rejection and the master of a PTP reference -/

/-- A source failure that rejects a reference at once (R82). In another state the failure keeps its source check
outside the accept limit, and nothing else follows from it. -/
def rejectNow (n : Nat) (s : State) : State :=
  if isUsable s n then qualGo n .rejected (refMod n (fun r => { r with immediate := true }) s) else s

/-- The master of a PTP reference is lost or changed (R96): the rate is held and QUALIFIED goes to HOLDOFF. Only there can
the original master return: elsewhere a master soaks as a new one. -/
def masterLost (n : Nat) (s : State) : State :=
  let u := refMod n (fun r => if r.returning || !isUsable s n then { r with masterLost := true } else
    { r with masterLost := true, returning := true, heldRate := r.freq.getD 0, heldE := r.lastE, heldTick := r.lastTick }) s
  if isQualified u n then
    (if (refRec s n).holdoffDs = 0 then qualGo n .rejected u else qualGo n .holdoff u)
  else u

/-! ### Measured flywheel bounds (R97) -/

/-- The block average of the flywheel in use over the block that ends at tick `t`: the flywheel against the time
reference, or the LO correction samples. A sample at a block's start is of the block before it. -/
def blockAverage (s : State) (t : Nat) : Option Int :=
  let h := histWindow (s.assay.blockTick + 1) t (if s.lode.fwRef = 63 then loHistory s else s.lode.fwHist)
  if h.isEmpty then none else some (histMean 0 h)

/-- What the averages are compared with: y_fw, or the fitted line at the block's middle (R97). -/
def blockExpected (s : State) (t : Nat) : Int :=
  if s.lode.fwRef ≠ 63 then s.lode.yFw
  else
    let mid := t - s.lode.lim.tauAvg * ticksPerSec / 2
    if s.lode.ageValid then fitAt s mid else histMean s.lode.fitC (fitSamples s)

/-- The end of a tau_avg block at tick `t`. -/
def blockEnd (t : Nat) (s : State) : State :=
  let fresh := { s with assay := { s.assay with blockOk := decide (s.lode.state = .locked), blockTick := t } }
  if s.assay.blockOk && decide (s.lode.state = .locked) then
    match blockAverage s t with
    | some a =>
      let h := histPush t a 604800 s.assay.blocks
      let day := histWindow (t - 86400 * ticksPerSec) t h
      let y := maxNat (day.map fun e => (e.2 - blockExpected s e.1).natAbs)
      let sl := lsSlope h
      boundsEdge s { fresh with assay := { fresh.assay with
        blocks := h, yMeas := y, aMeas := ceilDiv (2 * sl.1.natAbs * ticksPerSec) sl.2 } }
    | none => fresh
  else fresh

/-! ### The commands -/

/-- REF_MEASUREMENT (R78): `m` is the offset in 2^-16 ns and its age in ticks as the reference's source delivers them,
or none to take the measurement that the device's own block has formed. [DEDUCED, log 30] -/
def execRefMeasurement (ref : RefId) (m : Option (Int × Nat)) (s : State) : Res :=
  match m with
  | some (e, age) => .next (measure ref e age s)
  | none =>
    match (refSt s ref).offered with
    | some (e, t) => .next (measure ref e (s.clk.ticks - t) (refMod ref (fun r => { r with offered := none }) s))
    | none => .next s

/-- SOAK_EXPIRY (R86): the selection follows at the decision tick (R87). -/
def execSoakExpiry (ref : RefId) (s : State) : Res :=
  .next (if (refSt s ref).q = .soak then qualStep ref true (elapseTo (soakDue s ref) s) else s)

/-- HOLDOFF_EXPIRY (R86): the flywheel and the selection follow at the decision tick (R87). -/
def execHoldoffExpiry (ref : RefId) (s : State) : Res :=
  .next (if (refSt s ref).q = .holdoff then qualStep ref true (elapseTo (holdoffDue s ref) s) else s)

/-- MEASUREMENT_MISSING (R17, R79): the validity age of the next measurement passes. -/
def execMeasurementMissing (ref : RefId) (s : State) : Res :=
  if (refRec? s ref).isNone then .next s
  else .next (countMissing ref (elapseTo ((refSt s ref).lastTick.getD 0 + ticksOfNs ((refRec s ref).validUs * 1000)) s))

/-- The tick at which a clock or pulse reference becomes inactive: three nominal periods of the prescaled edges after
its last valid edge, 3 P / f_source (R79). -/
def activityDue (s : State) (n : Nat) : Nat :=
  let f := refNom s n
  (refSt s n).lastEdge + ceilDiv (3 * presc10M f * f.2 * ticksPerSec) (max f.1 1)

/-- REF_ACTIVITY_TIMEOUT (R79): a clock or pulse reference has had no valid edge for three nominal periods. -/
def execRefActivityTimeout (ref : RefId) (s : State) : Res :=
  .next (if isClock ref then refMod ref (fun r => { r with active := false }) (elapseTo (activityDue s ref) s) else s)

/-- TAU_AVG_BLOCK_END (R97): blocks are aligned to whole multiples of tau_avg of Lode time. -/
def execTauAvgBlockEnd (s : State) : Res :=
  let b := s.lode.lim.tauAvg * oneSec
  let u := if b = 0 then s else elapseTo (tickOfLode ((nowFu s / b + 1) * b) s) s
  .next (blockEnd u.clk.ticks u)

/-- A QL received for a SyncE reference (R95, R446): DNU (option 1) or DUS (option 2) rejects at once. Only an
information PDU holds off the 5 s without one (R82, R216). -/
def qlDelivered (ref ql : Nat) (info : Bool) (s : State) : State :=
  let u := refMod ref (fun r => { r with
    ql := ql % 16, qlTick := if info then some s.clk.ticks else r.qlTick, immediate := false }) s
  if ql % 16 = 15 then rejectNow ref u else u

/-- ESMC_QL_DELIVERED (R95): the QL of an information PDU reaches the Assay. -/
def execEsmcQlDelivered (ref : RefId) (ql : Nat) (s : State) : Res :=
  .next (if 8 ≤ ref.val ∧ ref.val < 12 then qlDelivered ref ql true s else s)

/-- ESMC_QL_TIMEOUT (R95): no information PDU for 5 s. -/
def execEsmcQlTimeout (ref : RefId) (s : State) : Res :=
  match (refSt s ref).qlTick with
  | some t => .next (refMod ref (fun r => { r with qlTick := none }) (elapseTo (t + 5 * ticksPerSec) s))
  | none => .next s

/-- PTP_ANNOUNCE_TIMEOUT (R96): the master of a PTP reference is lost. -/
def execPtpAnnounceTimeout (ref : RefId) (s : State) : Res :=
  if 12 ≤ ref.val ∧ ref.val < 16 then .next (masterLost ref s) else .next s

end Sys2Proof.Machine
end

