-- ==== Sys2Proof/Machine/Content.lean ====
section
/-! DEFINITION. Content rules: every rule of the manual that names a refusal by the Survey image (R352 step 14). -/

namespace Sys2Proof.Machine

/-! ### Lode, references, Tally (R59, R77, R83, R138, R141, R142) -/

/-- R59: f_n at most the update rate divided by 20. -/
def fnOk (r : RefRec) : Bool := !r.isTime || decide (r.fn * 20 * r.intervalNs ≤ 10 ^ 15)

/-- A value inside a stated range. The manual gives ranges and names no refusal outside them; the image is refused. [DESIGN CHOICE, log 11] -/
def within (lo hi x : Nat) : Bool := decide (lo ≤ x ∧ x ≤ hi)

/-- Monitor and loop parameters inside the ranges of R59 and R83. -/
def refRanges (r : RefRec) : Bool :=
  within 100 100000000000 r.fAcc && within 100 100000000000 r.fRej && within 100 100000 r.gateMs
    && within 100 1000000000 r.pAcc && within 100 1000000000 r.pRej && within 10 3600 r.tauC
    && within 0 0xFFFFFFFE r.bAcc && within 0 0xFFFFFFFE r.bRej && within 1000 201000000 r.validUs
    && within 1 255 r.nMiss && within 1 3600 r.soakS && within 0 600 r.holdoffDs && within 0 3600 r.wtrS
    && within 100 10000000 r.fn && within 100 1000000 r.fnAtomic && within 8 80 r.zeta

/-- Channel parameters of a signal inside the ranges of R121. -/
def trackRanges : List Nat → Bool
  | [sp, mp, d, p, dll, pll] =>
    within 2 40 sp && within 0 1 mp && within 1 20 d && within 1 100 p && within 5 200 dll && within 2 20 pll
  | l => l.isEmpty

/-- Daylight parameters inside the ranges of R121 to R132. -/
def daylRanges (c : DaylCfg) : Bool :=
  (c.tracking.all fun e => trackRanges e.2) && decide (0 ≤ c.mask ∧ c.mask ≤ 300) && within 100 180 c.useCn0
    && within 100 500 c.burstMs && decide (c.burstMs % 100 = 0) && within 3 10 c.kR && within 5 50 c.rMin
    && within 2 12 c.nP && within 200 240 c.cMax && within 5 100 c.tSys && within 5 25 c.tG && within 3 100 c.tAnt
    && within 1 100 c.tauR && within 100 100000 c.rThr && within 3 100 c.tPhi && within 600 86400 c.tauAnchor
    && within 60 86400 c.clearS && decide (c.pivot ≤ 2)

/-- R77, R83, R138: one REFERENCES entry. -/
def refRecOk (r : RefRec) : Bool :=
  decide (r.id ≤ 32) && fnOk r && refRanges r && (decide (r.id ≠ 6 ∧ r.id ≠ 7) || daylRanges r.dayl)
    && !(decide (r.id < 6) && r.isTime && r.todin.isNone)
    && decide (r.fAcc < r.fRej) && decide (r.pAcc < r.pRej)
    && (decide (r.id < 16) || decide (r.bAcc < r.bRej))
    && !((decide (r.id < 6 ∧ r.isTime = true) || decide (12 ≤ r.id ∧ r.id < 16)) && r.uPs.isNone)

/-- Whether an identifier is frequency-only (R76): those of SyncE always, a REFIN as its entry says. -/
def freqOnly (r : RefsSec) (n : Nat) : Bool := decide (8 ≤ n ∧ n ≤ 11) || r.refs.any fun e => e.id == n && !e.isTime

/-- R77, R142: the REFERENCES section. -/
def refsOk (r : RefsSec) : Bool :=
  r.refs.all refRecOk
    && (r.timeList.all fun e => !freqOnly r e.id && decide (e.id ≤ 32))
    && (match r.flywheel with
      | some n => freqOnly r n && (r.refs.any fun e => e.id == n && !e.isTime) && within 1 3 r.flywheelClass && (decide (n < 8) || decide (r.flywheelClass = 3))
      | none => true)
    && within 10000 10000000 r.flywheelFn
    && decide (r.fly.length = 4)

/-- R98: the roles that the table permits a source: REF for references, MON for loopbacks, USER for knocks and the LO. -/
def dialRoleOk (c : DialChCfg) : Bool :=
  if c.source = 0 then true
  else if c.source ≤ 12 then c.role == 1
  else if c.source ≤ 20 then c.role == 2
  else c.role == 3

/-- R98: the channels that the sections require. -/
def dialNeed (r : RefsSec) (o : OutputsSec) : Nat :=
  (r.refs.filter fun e => decide (e.id < 6 ∨ (8 ≤ e.id ∧ e.id < 12)) || (decide (e.id = 6 ∨ e.id = 7) && e.dayl.inUse)).length
    + (o.out.filter fun e => e.2.en && (e.2.align == 1 || e.2.align == 2)).length
    + (o.ev.filter fun e => e.2.role == 1).length

/-- R98: no source on two channels, no role that the table does not permit. -/
def dialOk (c : StructureSec) : Bool :=
  (c.dial.all fun e => decide (e.1 < 24) && dialRoleOk e.2)
    && (c.dial.all fun e => e.2.source == 0 || ((c.dial.filter fun f => f.2.source == e.2.source).length == 1))

/-- R117: the bands of the SMP ports. -/
def smpOk (c : StructureSec) : Bool :=
  c.smp.all fun e => decide (-20000 ≤ e.2.ifKHz ∧ e.2.ifKHz ≤ 20000) && within 1 0xFFFFFFFF e.2.mixNum
    && within 1 0xFFFFFFFF e.2.mixDen

/-- R59: the LO's parameters in STRUCTURE. -/
def loOk (c : StructureSec) : Bool :=
  [10, 20, 25, 40, 50, 100].contains c.loMHz && decide (c.loOfs.natAbs ≤ 10 ^ 14)

/-- R59, R137, R191, R359: the LIMITS section. -/
def limitsOk (l : LimitsSec) : Bool :=
  within 32768 6553600 l.lockWindow && within 1 3600 l.lockSettle && within 10 1000000 l.pullSlope
    && within 1 10000 l.tauAvg && within 0 60 l.guardS && within 3600 604800 l.ageWindow
    && (l.holdMax == 0 || within 3600 31536000 l.holdMax) && within 2 8 l.kN
    && (l.thetaMin.all fun e => within 2000 20000 e.2) && within 100 60000 l.qThetaMs && within 1 0xFFFFFFFE l.svcLimit

/-- R141: no U_port below 500 ps. -/
def uPortOk (c : StructureSec) : Bool := c.uPort.all fun e => decide (500 ≤ e.2)

/-! ### Outputs (R156, R159, R161, R164, R166, R169) -/

/-- The VCO frequency of an output's synthesiser. -/
def vcoOf (o : OutputsSec) (m : Nat) : Nat := (sget {} o.syn (m / 2)).fVco

/-- R156: the maximum frequency of a standard in Hz. -/
def stdMax (std : Nat) : Nat :=
  if std = 0 then 1250000000 else if std = 1 then 400000000 else if std = 2 then 2500000000 else 250000000

/-- R156, R161, R166: one output. -/
def outOk (o : OutputsSec) (m : Nat) (c : OutCfg) : Bool :=
  let f := vcoOf o m
  let whole := decide (c.div ≠ 0) && decide (f % c.div = 0)
  decide (4 ≤ c.div ∧ c.div ≤ 2 ^ 24)
    && (!c.en ||
      (if c.pulse then
          decide (f * 100 ≤ c.pe * c.div * 1000000000) && decide (c.pe * c.div ≤ 2 * f)
            && decide (0 < c.pe ∧ (2 * f) % (c.pe * c.div) = 0)
            && decide (5 * f ≤ c.we * c.div * 1000000000) && decide (5 * f ≤ (c.pe - c.we) * c.div * 1000000000)
            && decide (f / max (c.we * c.div) 1 ≤ stdMax c.std) && whole
        else
          decide (f ≤ stdMax c.std * c.div) && decide (1000 * c.div ≤ f) && (c.align != 1 || whole)))

/-- R159, R169: one TODOUT. -/
def todoutOk (o : OutputsSec) (t : TodoutCfg) : Bool :=
  let c := sget {} o.out t.out
  let f := vcoOf o t.out
  decide (t.baud = 0) ||
    (decide (300 ≤ t.uOutPs) && !(sget {} o.syn (t.out / 2)).char
      -- a slew-mode pulse output with a period of 1 s or 2 s, a baud rate and a delay of the rule's ranges
      && c.pulse && c.align == 1 && decide (c.pe * c.div = f ∨ c.pe * c.div = 2 * f)
      && decide (9600 ≤ t.baud ∧ t.baud ≤ 921600) && decide (1 ≤ t.delayMs ∧ t.delayMs ≤ 500)
      -- delay, 520 bits and 10 ms fit in one pulse period
      && decide (((t.delayMs + 10) * t.baud + 520 * 1000) * f ≤ c.pe * c.div * 1000 * t.baud))

/-- R159: one segment of a profile: END, or RAMP or SET with a duration. -/
def segOk (g : RampSeg) : Bool := g.type == 0 || ((g.type == 1 || g.type == 2) && decide (g.dur ≠ 0))

/-- The OUTPUTS section, with whether the image has a TWIN section (R164). -/
def outputsOk (o : OutputsSec) (twin : Bool) : Bool :=
  (o.syn.all fun e => decide (9600000000 ≤ e.2.fVco ∧ e.2.fVco ≤ 12400000000)
      && decide (e.2.profile.length ≤ 16384) && e.2.profile.all segOk)
    && (o.out.all fun e => outOk o e.1 e.2)
    && (o.todout.all fun e => todoutOk o e.2)
    && (!(o.out.any fun e => e.2.en && e.2.align == 2)
      || (!twin && decide ((o.out.filter fun e => e.2.en).length ≤ 4)))

/-! ### Daylight and PTP uncertainties (R128, R138, R179) -/

/-- R128: a stated value `u` (ps) is at least 2 sigma_pos / c plus the root-sum-square of the delay uncertainties. -/
def daylUncOk (d : DaylCfg) (u : Nat) : Bool :=
  let c := 299792458
  let own := 2 * d.sigmaPos * 1000000000
  let rss := sumNat (d.delayUnc.map fun x => x * x)
  decide (own ≤ u * c) && decide (rss * c * c ≤ (u * c - own) * (u * c - own))

/-- R128, R138: the two values of a Daylight entry. -/
def daylRefOk (r : RefRec) : Bool :=
  !(decide (r.id = 6 ∨ r.id = 7)) || (daylUncOk r.dayl r.uDual && daylUncOk r.dayl r.uSingle)

/-- R179: a PTP-reference entry's uncertainty is not below its port's u_A. -/
def ptpRefOk (str : StructureSec) (r : RefRec) : Bool :=
  !(decide (12 ≤ r.id ∧ r.id < 16)) || decide ((sget {} str.ports (r.port.getD 64)).uA ≤ r.uPs.getD 0)

/-! ### Ports, galleries, session channels (R174, R231, R277, R303) -/

/-- R174: supported combinations of rate, FEC and PMD class, of a port that is not enabled too. -/
def portCombOk (c : PortCfg) : Bool :=
  decide (c.pmd ≤ 2) && (if c.speed = 0 then decide (c.fec ≤ 1) else if c.speed = 1 then decide (c.fec ≤ 2)
    else decide (c.speed ≤ 3) && c.fec == 3)

/-- R231: an alternate belongs to the gallery's own seam. -/
def alternateOk (str : StructureSec) (c : GalCfg) : Bool :=
  !c.used || ((sget {} str.gals c.alt).used && (sget {} str.gals c.alt).seam == c.seam)

/-- R277: one of the transfer rates and capacities. -/
def sessCfgOk (str : StructureSec) : Bool := !str.sessEn || (decide (str.sessRate < 3) && decide (str.sessCap < 5))

/-- R384: the classes' parameters. -/
def faultClassesOk (str : StructureSec) : Bool :=
  decide (str.faultClasses.length = 15) && str.faultClasses.all fun c =>
    within 1 255 c.n && within 1 3600000 c.w && within 1 864000 c.q && within 1 3 c.ceiling

/-- The STRUCTURE section. -/
def structureOk (str : StructureSec) : Bool :=
  dialOk str && smpOk str && loOk str && uPortOk str && (str.ports.all fun e => portCombOk e.2) && (str.gals.all fun e => alternateOk str e.2)
    && sessCfgOk str && faultClassesOk str && within 100 10000 str.canaryHz

/-! ### SEAMS (R271, R277, R279, R285, R293, R303 to R306) -/

/-- The configured seams. -/
def confSeams (q : SeamsSec) : List (Nat × SeamRec) := q.seams.filter fun e => e.2.configured

/-- A gallery belongs to a seam. -/
def ownsGal (str : StructureSec) (seam : Nat) : Bool := str.gals.any fun e => e.2.used && e.2.seam == seam

/-- R304, R303: one classifier rule. -/
def ruleOk (str : StructureSec) (q : SeamsSec) (r : ClsRule) : Bool :=
  (r.ipver == 0 || r.ipver == 4 || r.ipver == 6) && decide (r.plen ≤ (if r.ipver = 4 then 32 else 128))
    && (sget {} q.seams r.seam).configured
    && (List.range 64).all fun p => !bitAt r.ports p || str.pairs.any fun x => x.port == p && x.seam == r.seam

/-- R293: a lane mask names only lanes that serve the seam: fixed-slot lanes with slots of it, or shared lanes. -/
def laneMaskOk (q : SeamsSec) (seam mask : Nat) : Bool :=
  (List.range 16).all fun c =>
    let l := sget {} q.lanes c
    !bitAt mask c || (if (sget {} q.seams seam).fixed then l.fixed && l.sched.contains seam else !l.fixed)

/-- R305: a policer. -/
def policerOk (c : PolCfg) : Bool := !c.en || (within 1000 150000000 c.rate && within 1 65535 c.burst)

/-- R202: the domain numbers and the message rates of a profile, given by its widest ranges. -/
def domainOk (d : PtpDomain) : Bool :=
  let w := PtpDomain.standard d.profile
  let inside := fun (x lo hi : Int) => decide (lo ≤ x ∧ x ≤ hi)
  let sub := fun (lo hi l h : Int) => decide (l ≤ lo ∧ lo ≤ hi ∧ hi ≤ h)
  decide (d.profile ≤ 2) && (if d.profile = 1 then within 44 63 d.number else decide (d.number ≤ 127))
    && sub d.syncLo d.syncHi w.syncLo w.syncHi && sub d.annLo d.annHi w.annLo w.annHi && sub d.drLo d.drHi w.drLo w.drHi
    && inside d.syncLog d.syncLo d.syncHi && inside d.annLog d.annLo d.annHi

/-- R151, R201, R202, R205, R208, R305: the ranges of a seam's own parameters. -/
def seamRanges (c : SeamRec) : Bool :=
  within 0 600000 c.resumeMs && within 10 10000 c.aMaxUs && within 60 1000 c.dMaxS
    && decide (c.domains.length ≤ 4) && c.domains.all domainOk && (c.spps.all fun x => decide (x.keys.length ≤ 8))
    && decide (c.policers.length ≤ 4) && c.policers.all policerOk

/-- R279, R285, R306: a record range in multiples of 1,024 with its cache ways and its channel budget, or none of them. -/
def recRangeOk (c : SeamRec) : Bool :=
  if c.recCount = 0 then c.beta == 0
  else c.recBase % 1024 == 0 && c.recCount % 1024 == 0 && decide (c.recBase + c.recCount ≤ 2 ^ 21)
    && within 1 65535 c.wayMask && within 1 256 c.beta

/-- Two ranges, each a base and a count, share no number. -/
def apart (a b : Nat × Nat) : Bool := a.2 == 0 || b.2 == 0 || decide (a.1 + a.2 ≤ b.1 ∨ b.1 + b.2 ≤ a.1)

/-- R279, R285, R295: what two seams hold of records, cache ways and Magazine slots is disjoint. -/
def seamsApart (c d : SeamRec) : Bool :=
  apart (c.recBase, c.recCount) (d.recBase, d.recCount) && apart (c.magBase, c.magCount) (d.magBase, d.magCount)
    && (c.recCount == 0 || d.recCount == 0 || c.wayMask &&& d.wayMask == 0)

/-- R293: a lane's schedule, of 16 seams or idle entries. -/
def laneCfgOk (l : LaneCfg) : Bool := !l.fixed || (decide (l.sched.length = 16) && l.sched.all fun x => decide (x ≤ 16))

/-- R271, R303: a seam states its limit and its three quotas; R277: a record range needs the channels. -/
def seamRecOk (str : StructureSec) (q : SeamsSec) (n : Nat) (c : SeamRec) : Bool :=
  ownsGal str n && c.limitStated && decide (1 ≤ c.limit ∧ c.limit ≤ 0xFFFFFFFE)
    && decide (c.quotas.length = 3) && (c.quotas.all fun x => decide (1 ≤ x ∧ x ≤ 256))
    && (str.sessEn || c.recCount == 0) && laneMaskOk q n c.laneMask && seamRanges c && recRangeOk c
    && decide (c.magBase + c.magCount ≤ 4092) && apart (c.magBase, c.magCount) (q.devBase, q.devCount)

/-- The SEAMS section. -/
def seamsOk (str : StructureSec) (q : SeamsSec) : Bool :=
  let cs := confSeams q
  (cs.all fun e => seamRecOk str q e.1 e.2 && cs.all fun f => e.1 == f.1 || seamsApart e.2 f.2)
    && (q.lanes.all fun e => laneCfgOk e.2) && decide (q.devBase + q.devCount ≤ 4092)
    && (str.gals.all fun e => !e.2.used || (sget {} q.seams e.2.seam).configured)
    && decide (q.rules.length ≤ 256) && q.rules.all (ruleOk str q)
    && decide (sumNat (cs.map fun e => if e.2.recCount = 0 then 0 else e.2.beta) ≤ 256)
    && (List.range 3).all fun k => decide (sumNat (cs.map fun e => (e.2.quotas[k]?).getD 0) ≤ 256)

/-! ### HAULAGE and TWIN (R314) -/

/-- R314: the ranges of a haulage or twin link. -/
def haulLinkRanges (c : HaulLinkCfg) : Bool := decide (c.aH.natAbs ≤ 1000 * 65536) && decide (c.aLinkPs ≤ 65535)

/-- R314: the ranges of the HAULAGE section. -/
def haulRanges (h : HaulageSec) : Bool :=
  within 0x600 0xFFFF h.etype && decide (h.gallery < 16) && within 1 1000 h.tauSNs && within 50 500 h.waitUs
    && within 500 100000 h.deltaTolPs && (h.snapS == 0 || within 10 3600 h.snapS) && h.links.all fun e => haulLinkRanges e.2

/-- R314: the ranges of the TWIN section. -/
def twinRanges (t : TwinSec) : Bool :=
  within 1 100 t.tauTwNs && decide (t.seniority ≤ 255) && within 10 10000 t.joinMs && within 500 100000 t.deltaTolPs
    && t.links.all fun e => haulLinkRanges e.2

/-- The HAULAGE section. -/
def haulageOk (h : HaulageSec) : Bool :=
  decide (h.streamId ≠ 0) && haulRanges h && (h.links.all fun e => !(e.2.tx && e.2.rx))
    && (List.range 16).all fun f =>
      decide ((h.links.filter fun e => e.2.rx && e.2.feed.getD (16 + e.1) == 16 + f).length ≤ 4)

/-- The TWIN section with what it needs of the others. -/
def twinOk (t : TwinSec) (str : StructureSec) (r : RefsSec) : Bool :=
  !t.present || (twinRanges t && str.role == .headframe && decide (1000 ≤ str.canaryHz) && (r.refs.any fun e => e.id == 32)
    && decide (r.timeList.length < 8))

/-! ### PROGRAMS (R243, R255, R256, R286) -/

/-- The signed offset of a branch, CALL, JMP or DJNZ. -/
def branchOffset (i : Instr) : Option Int :=
  match i with
  | .bra _ o => some (signedOf 9 o)
  | .beq _ o => some (signedOf 9 o)
  | .bne _ o => some (signedOf 9 o)
  | .bcs _ o => some (signedOf 9 o)
  | .bcc _ o => some (signedOf 9 o)
  | .bmi _ o => some (signedOf 9 o)
  | .bpl _ o => some (signedOf 9 o)
  | .bhi _ o => some (signedOf 9 o)
  | .call _ o => some (signedOf 12 o)
  | .jmp _ o => some (signedOf 12 o)
  | .djnz _ _ o => some (signedOf 8 o)
  | _ => none

/-- R243: a word at address `k` of `n` instructions is no reserved encoding, and its target lies inside. -/
def wordOk (n k w : Nat) : Bool :=
  decide (w < 65536) && match decodePick 0 w with
    | none => false
    | some i => match branchOffset i with
      | some o => decide (0 ≤ (k : Int) + 1 + o ∧ (k : Int) + 1 + o < n)
      | none => true

/-- The galleries that a mask names. -/
def maskGals (m : Nat) : List Nat := (List.range 16).filter fun g => bitAt m g

/-- R256: the tick period of a stream. -/
def periodOk (x : Nat) : Bool := x == 0 || decide (100 ≤ x ∧ x ≤ 1000000)

/-- The record holds a module of `ptp-gm`. -/
def runsPtpGm (p : ProgramsSec) : Bool := p.modules.any fun m => m.id == 1

/-- R256: modules lie in order inside the instructions and do not overlap. -/
def modulesOk (n : Nat) (l : List ProgModule) : Bool :=
  decide (1 ≤ l.length ∧ l.length ≤ 32)
    && (l.all fun m => decide (1 ≤ m.id ∧ m.id ≤ 0xFE) && decide (m.first ≤ m.last ∧ m.last < n))
    && l.all fun a => (l.filter fun b => decide (a.first ≤ b.last ∧ b.first ≤ a.last)).length == 1

/-- R243, R256: one PROGRAMS record. -/
def programsOk (str : StructureSec) (p : ProgramsSec) : Bool :=
  let n := p.insns.length
  let gs := maskGals p.mask
  decide (p.mask ≠ 0) && p.lengthOk && decide (1 ≤ n ∧ n ≤ 16384)
    && (gs.all fun g => (sget {} str.gals g).seam == (sget {} str.gals (gs.headD 0)).seam)
    && (p.watchdog == 0 || decide (1024 ≤ p.watchdog ∧ p.watchdog ≤ 0xFFFF))
    && decide (p.image.length ≤ 4096)
    && p.periods.all periodOk
    && decide (p.dispatch.length = 16) && (p.dispatch.all fun d => d == 0xFFFF || decide (d < n))
    && (p.dispatch.drop 14).all (· == 0xFFFF)
    && modulesOk n p.modules
    && (!runsPtpGm p || ((p.periods[0]?).getD 0 != 0 && decide ((p.periods[0]?).getD 0 ≤ 500)))
    && ((List.range n).zip p.insns).all fun e => wordOk n e.1 e.2

/-- R286: a seam that runs `ptp-gm` keeps its records. -/
def ptpGmKeeps (str : StructureSec) (q : SeamsSec) (p : ProgramsSec) : Bool :=
  !runsPtpGm p || (maskGals p.mask).all fun g => (sget {} q.seams (sget {} str.gals g).seam).keep

/-! ### All content rules -/

/-- What the content rules judge: the sections that would be in force, the PROGRAMS records carried, and the seams' keys. -/
structure ContentView where
  c : Sections
  programs : List ProgramsSec := []
  /-- Owner and lane mask of each key that a seam holds in the Magazine. -/
  keys : List (Nat × Nat) := []

/-- R352 step 14. [DESIGN CHOICE, log 11] -/
def contentOk (v : ContentView) : Bool :=
  let c := v.c
  structureOk c.str && decide (dialNeed c.refs c.outs ≤ 24) && limitsOk c.lim && refsOk c.refs && c.refs.refs.all daylRefOk && c.refs.refs.all (ptpRefOk c.str)
    && outputsOk c.outs c.twin.present && seamsOk c.str c.seams && haulageOk c.haul && twinOk c.twin c.str c.refs
    && (v.keys.all fun k => laneMaskOk c.seams k.1 k.2)
    && v.programs.all (programsOk c.str) && v.programs.all (ptpGmKeeps c.str c.seams)

end Sys2Proof.Machine
end

