-- ==== Sys2Proof/Machine/Cipher.lean ====
section
/-! DEFINITION. The standard algorithms that the manual names for the crypto lanes (R287): SHA-2, HMAC, AES, CMAC, SIV and GCM, over lists of bytes. The manual does not describe them: they are taken from FIPS 180-4, 198-1 and 197, NIST SP 800-38B and 800-38D, and RFC 5297. -/

namespace Sys2Proof.Machine

/-! ### SHA-2 -/

/-- `n` big-endian numbers of `k` bytes in a literal. -/
def wordsOf (k n v : Nat) : List Nat := (List.range n).map fun i => v / 256 ^ (k * (n - 1 - i)) % 256 ^ k

/-- The round constants of SHA-256. -/
def shaK256 : List Nat :=
  wordsOf 4 8 0x428a2f9871374491b5c0fbcfe9b5dba53956c25b59f111f1923f82a4ab1c5ed5
    ++ wordsOf 4 8 0xd807aa9812835b01243185be550c7dc372be5d7480deb1fe9bdc06a7c19bf174
    ++ wordsOf 4 8 0xe49b69c1efbe47860fc19dc6240ca1cc2de92c6f4a7484aa5cb0a9dc76f988da
    ++ wordsOf 4 8 0x983e5152a831c66db00327c8bf597fc7c6e00bf3d5a7914706ca635114292967
    ++ wordsOf 4 8 0x27b70a852e1b21384d2c6dfc53380d13650a7354766a0abb81c2c92e92722c85
    ++ wordsOf 4 8 0xa2bfe8a1a81a664bc24b8b70c76c51a3d192e819d6990624f40e3585106aa070
    ++ wordsOf 4 8 0x19a4c1161e376c082748774c34b0bcb5391c0cb34ed8aa4a5b9cca4f682e6ff3
    ++ wordsOf 4 8 0x748f82ee78a5636f84c878148cc7020890befffaa4506cebbef9a3f7c67178f2

/-- The round constants of SHA-384. -/
def shaK512 : List Nat :=
  wordsOf 8 4 0x428a2f98d728ae227137449123ef65cdb5c0fbcfec4d3b2fe9b5dba58189dbbc
    ++ wordsOf 8 4 0x3956c25bf348b53859f111f1b605d019923f82a4af194f9bab1c5ed5da6d8118
    ++ wordsOf 8 4 0xd807aa98a303024212835b0145706fbe243185be4ee4b28c550c7dc3d5ffb4e2
    ++ wordsOf 8 4 0x72be5d74f27b896f80deb1fe3b1696b19bdc06a725c71235c19bf174cf692694
    ++ wordsOf 8 4 0xe49b69c19ef14ad2efbe4786384f25e30fc19dc68b8cd5b5240ca1cc77ac9c65
    ++ wordsOf 8 4 0x2de92c6f592b02754a7484aa6ea6e4835cb0a9dcbd41fbd476f988da831153b5
    ++ wordsOf 8 4 0x983e5152ee66dfaba831c66d2db43210b00327c898fb213fbf597fc7beef0ee4
    ++ wordsOf 8 4 0xc6e00bf33da88fc2d5a79147930aa72506ca6351e003826f142929670a0e6e70
    ++ wordsOf 8 4 0x27b70a8546d22ffc2e1b21385c26c9264d2c6dfc5ac42aed53380d139d95b3df
    ++ wordsOf 8 4 0x650a73548baf63de766a0abb3c77b2a881c2c92e47edaee692722c851482353b
    ++ wordsOf 8 4 0xa2bfe8a14cf10364a81a664bbc423001c24b8b70d0f89791c76c51a30654be30
    ++ wordsOf 8 4 0xd192e819d6ef5218d69906245565a910f40e35855771202a106aa07032bbd1b8
    ++ wordsOf 8 4 0x19a4c116b8d2d0c81e376c085141ab532748774cdf8eeb9934b0bcb5e19b48a8
    ++ wordsOf 8 4 0x391c0cb3c5c95a634ed8aa4ae3418acb5b9cca4f7763e373682e6ff3d6b2b8a3
    ++ wordsOf 8 4 0x748f82ee5defb2fc78a5636f43172f6084c87814a1f0ab728cc702081a6439ec
    ++ wordsOf 8 4 0x90befffa23631e28a4506cebde82bde9bef9a3f7b2c67915c67178f2e372532b
    ++ wordsOf 8 4 0xca273eceea26619cd186b8c721c0c207eada7dd6cde0eb1ef57d4f7fee6ed178
    ++ wordsOf 8 4 0x06f067aa72176fba0a637dc5a2c898a6113f9804bef90dae1b710b35131c471b
    ++ wordsOf 8 4 0x28db77f523047d8432caab7b40c724933c9ebe0a15c9bebc431d67c49c100d4c
    ++ wordsOf 8 4 0x4cc5d4becb3e42b6597f299cfc657e2a5fcb6fab3ad6faec6c44198c4a475817

/-- A member of SHA-2: bits of a word, rotations, round constants, initial state and bytes of the digest. -/
structure Sha where
  bits : Nat
  big0 : Nat × Nat × Nat
  big1 : Nat × Nat × Nat
  /-- The last of the three is a shift. -/
  small0 : Nat × Nat × Nat
  small1 : Nat × Nat × Nat
  k : List Nat
  init : List Nat
  out : Nat

/-- SHA-256. [PRESUMED, log 6] -/
def Sha.s256 : Sha :=
  { bits := 32, big0 := (2, 13, 22), big1 := (6, 11, 25), small0 := (7, 18, 3), small1 := (17, 19, 10), k := shaK256
    init := wordsOf 4 8 0x6a09e667bb67ae853c6ef372a54ff53a510e527f9b05688c1f83d9ab5be0cd19, out := 32 }

/-- SHA-384. [PRESUMED, log 6] -/
def Sha.s384 : Sha :=
  { bits := 64, big0 := (28, 34, 39), big1 := (14, 18, 41), small0 := (1, 8, 7), small1 := (19, 61, 6), k := shaK512
    init := wordsOf 8 4 0xcbbb9d5dc1059ed8629a292a367cd5079159015a3070dd17152fecd8f70e5939 ++ wordsOf 8 4 0x67332667ffc00b318eb44a8768581511db0c2e0d64f98fa747b5481dbefa4fa4
    out := 48 }

/-- Right rotation of a word. -/
def Sha.rotr (h : Sha) (n x : Nat) : Nat := x / 2 ^ n + x % 2 ^ n * 2 ^ (h.bits - n)

/-- Sum of words. -/
def Sha.add (h : Sha) (l : List Nat) : Nat := l.foldl (fun a b => (a + b) % 2 ^ h.bits) 0

/-- XOR of three rotations. -/
def Sha.big (h : Sha) (r : Nat × Nat × Nat) (x : Nat) : Nat := h.rotr r.1 x ^^^ h.rotr r.2.1 x ^^^ h.rotr r.2.2 x

/-- XOR of two rotations and a shift. -/
def Sha.small (h : Sha) (r : Nat × Nat × Nat) (x : Nat) : Nat := h.rotr r.1 x ^^^ h.rotr r.2.1 x ^^^ (x / 2 ^ r.2.2)

/-- The message schedule, newest word first. -/
def Sha.schedule (h : Sha) : Nat → List Nat → List Nat
  | 0, w => w
  | n + 1, w =>
    let at' := fun (k : Nat) => (w[k]?).getD 0
    Sha.schedule h n (h.add [h.small h.small1 (at' 1), at' 6, h.small h.small0 (at' 14), at' 15] :: w)

/-- One round. -/
def Sha.round (h : Sha) (v : List Nat) (kw : Nat × Nat) : List Nat :=
  match v with
  | [a, b, c, d, e, f, g, x] =>
    let ch := (e &&& f) ^^^ ((2 ^ h.bits - 1 - e) &&& g)
    let maj := (a &&& b) ^^^ (a &&& c) ^^^ (b &&& c)
    let t1 := h.add [x, h.big h.big1 e, ch, kw.1, kw.2]
    [h.add [t1, h.big h.big0 a, maj], a, b, c, h.add [d, t1], e, f, g]
  | _ => v

/-- Bytes of a block: 16 words. -/
def Sha.block (h : Sha) : Nat := 2 * h.bits

/-- Compression of one block. -/
def Sha.compress (h : Sha) (v b : List Nat) : List Nat :=
  let w := (List.range 16).map fun i => beAt b (h.bits / 8 * i) (h.bits / 8)
  let all := (h.schedule (h.k.length - 16) w.reverse).reverse
  ((v.zip ((h.k.zip all).foldl h.round v)).map fun p => h.add [p.1, p.2])

/-- Compression of `n` blocks. -/
def Sha.blocks (h : Sha) : Nat → List Nat → List Nat → List Nat
  | 0, v, _ => v
  | n + 1, v, l => Sha.blocks h n (h.compress v l) (l.drop h.block)

/-- A message with its padding and its length in bits. -/
def Sha.pad (h : Sha) (m : List Nat) : List Nat :=
  let k := h.block
  let n := m.length + 1 + k / 8
  m ++ 0x80 :: List.replicate ((k - n % k) % k) 0 ++ beBytes (k / 8) (8 * m.length)

/-- The digest of a message. -/
def Sha.digest (h : Sha) (m : List Nat) : List Nat :=
  let p := h.pad m
  ((h.blocks (p.length / h.block) h.init p).map (beBytes (h.bits / 8))).flatten.take h.out

/-- HMAC. [PRESUMED, log 6] -/
def Sha.hmac (h : Sha) (key m : List Nat) : List Nat :=
  let k0 := if h.block < key.length then h.digest key else key
  let k := k0 ++ List.replicate (h.block - k0.length) 0
  h.digest (k.map (· ^^^ 0x5C) ++ h.digest (k.map (· ^^^ 0x36) ++ m))

/-! ### AES, encryption alone -/

/-- The substitution table. -/
def aesTable : List Nat :=
  wordsOf 1 32 0x637c777bf26b6fc53001672bfed7ab76ca82c97dfa5947f0add4a2af9ca472c0
    ++ wordsOf 1 32 0xb7fd9326363ff7cc34a5e5f171d8311504c723c31896059a071280e2eb27b275
    ++ wordsOf 1 32 0x09832c1a1b6e5aa0523bd6b329e32f8453d100ed20fcb15b6acbbe394a4c58cf
    ++ wordsOf 1 32 0xd0efaafb434d338545f9027f503c9fa851a3408f929d38f5bcb6da2110fff3d2
    ++ wordsOf 1 32 0xcd0c13ec5f974417c4a77e3d645d197360814fdc222a908846eeb814de5e0bdb
    ++ wordsOf 1 32 0xe0323a0a4906245cc2d3ac629195e479e7c8376d8dd54ea96c56f4ea657aae08
    ++ wordsOf 1 32 0xba78252e1ca6b4c6e8dd741f4bbd8b8a703eb5664803f60e613557b986c11d9e
    ++ wordsOf 1 32 0xe1f8981169d98e949b1e87e9ce5528df8ca1890dbfe6426841992d0fb054bb16

/-- Substitution of a byte. -/
def aesSub (b : Nat) : Nat := (aesTable[b % 256]?).getD 0

/-- Multiplication by x in the field of AES. -/
def aesX (b : Nat) : Nat := if b % 256 < 128 then b % 256 * 2 else (b % 256 * 2 - 256) ^^^ 0x1B

/-- Bytewise XOR of two lists. -/
def xorBytes (a b : List Nat) : List Nat := (a.zip b).map fun p => p.1 ^^^ p.2

/-- Key expansion: words of four bytes, newest first; `nk` words of key, `i` the next word's number. -/
def aesExpand (nk : Nat) : Nat → Nat → Nat → List (List Nat) → List (List Nat)
  | 0, _, _, w => w
  | n + 1, i, rc, w =>
    let last := w.headD []
    let old := (w[nk - 1]?).getD []
    let turned := (last.drop 1 ++ last.take 1).map aesSub
    let t := if i % nk = 0 then xorBytes turned [rc, 0, 0, 0] else if nk = 8 ∧ i % 8 = 4 then last.map aesSub else last
    aesExpand nk n (i + 1) (if i % nk = 0 then aesX rc else rc) (xorBytes old t :: w)

/-- The round keys, of 16 bytes each, of a key of 16 or 32 bytes. -/
def aesKeys (key : List Nat) : List (List Nat) :=
  let nk := key.length / 4
  let w := ((List.range nk).map fun i => slice (4 * i) 4 key).reverse
  let all := (aesExpand nk (4 * (nk + 7) - nk) nk 1 w).reverse
  (List.range (nk + 7)).map fun r => (slice (4 * r) 4 all).flatten

/-- SubBytes and ShiftRows. -/
def aesShift (s : List Nat) : List Nat :=
  (List.range 16).map fun i => aesSub ((s[i % 4 + 4 * ((i / 4 + i % 4) % 4)]?).getD 0)

/-- MixColumns. -/
def aesMix (s : List Nat) : List Nat :=
  (List.range 16).map fun i =>
    let b := fun (k : Nat) => (s[i / 4 * 4 + (i + k) % 4]?).getD 0
    aesX (b 0) ^^^ aesX (b 1) ^^^ b 1 ^^^ b 2 ^^^ b 3

/-- Encryption of a block of 16 bytes. [PRESUMED, log 6] -/
def aesBlock (key x : List Nat) : List Nat :=
  match aesKeys key with
  | [] => x
  | k :: ks =>
    let s := ks.dropLast.foldl (fun v r => xorBytes (aesMix (aesShift v)) r) (xorBytes x k)
    xorBytes (aesShift s) (ks.getLastD [])

/-- The same of a number of 128 bits. -/
def aesNat (key : List Nat) (x : Nat) : Nat := beVal (aesBlock key (beBytes 16 x))

/-! ### CMAC and SIV -/

/-- Doubling in GF(2^128). -/
def dbl128 (x : Nat) : Nat := if x / 2 ^ 127 % 2 = 1 then (x * 2 % 2 ^ 128) ^^^ 0x87 else x * 2 % 2 ^ 128

/-- A last block that is short: a one and zeros. -/
def pad128 (l : List Nat) : Nat := beVal ((l ++ 0x80 :: List.replicate 16 0).take 16)

/-- CMAC of a message, as a number. -/
def cmacNat (key m : List Nat) : Nat :=
  let k1 := dbl128 (aesNat key 0)
  let n := ceilDiv m.length 16 - 1
  let last := m.drop (16 * n)
  let x := if last.length = 16 then beVal last ^^^ k1 else pad128 last ^^^ dbl128 k1
  aesNat key ((List.range n).foldl (fun c i => aesNat key (c ^^^ beAt m (16 * i) 16)) 0 ^^^ x)

/-- AES-CMAC. [PRESUMED, log 6] -/
def aesCmac (key m : List Nat) : List Nat := beBytes 16 (cmacNat key m)

/-- A key stream of `n` bytes from a counter; `next` is the counter after a counter. -/
def aesCtr (key : List Nat) (next : Nat → Nat) : Nat → Nat → List Nat
  | 0, _ => []
  | n + 1, c => beBytes 16 (aesNat key c) ++ aesCtr key next n (next c)

/-- XOR of data with a key stream. -/
def ctrXor (key : List Nat) (next : Nat → Nat) (c : Nat) (l : List Nat) : List Nat :=
  xorBytes l (aesCtr key next (ceilDiv l.length 16) c)

/-- S2V of RFC 5297: the associated data strings, and the plaintext last. -/
def s2v (key : List Nat) (ads : List (List Nat)) (pt : List Nat) : Nat :=
  let d := ads.foldl (fun d a => dbl128 d ^^^ cmacNat key a) (cmacNat key (List.replicate 16 0))
  if 16 ≤ pt.length then
    cmacNat key (pt.take (pt.length - 16) ++ beBytes 16 (beVal (pt.drop (pt.length - 16)) ^^^ d))
  else cmacNat key (beBytes 16 (dbl128 d ^^^ pad128 pt))

/-- The counter that an SIV starts: bits 31 and 63 clear. -/
def sivCounter (v : Nat) : Nat := v &&& (2 ^ 128 - 1 - 2 ^ 63 - 2 ^ 31)

/-- The data part of SIV. -/
def sivCrypt (key : List Nat) (v : Nat) (l : List Nat) : List Nat :=
  ctrXor (key.drop 16) (fun c => (c + 1) % 2 ^ 128) (sivCounter v) l

/-- AEAD_AES_SIV_CMAC_256: SIV, then ciphertext. [PRESUMED, log 6] -/
def sivSeal (key : List Nat) (ads : List (List Nat)) (pt : List Nat) : List Nat :=
  let v := s2v (key.take 16) ads pt
  beBytes 16 v ++ sivCrypt key v pt

/-- Its opening: the plaintext where the SIV holds. -/
def sivOpen (key : List Nat) (ads : List (List Nat)) (c : List Nat) : Option (List Nat) :=
  let v := beAt c 0 16
  let pt := sivCrypt key v (c.drop 16)
  if 16 ≤ c.length ∧ s2v (key.take 16) ads pt = v then some pt else none

/-! ### GCM -/

/-- Product in the field of GCM, over `n` bits of `x` from its most significant one. -/
def gcmMul : Nat → Nat → Nat → Nat → Nat
  | 0, _, _, z => z
  | n + 1, x, v, z =>
    gcmMul n x (if v % 2 = 1 then (v / 2) ^^^ (0xE1 * 2 ^ 120) else v / 2) (if x / 2 ^ n % 2 = 1 then z ^^^ v else z)

/-- GHASH of whole blocks of 16 bytes. -/
def ghash (h : Nat) (l : List Nat) : Nat :=
  (List.range (l.length / 16)).foldl (fun y i => gcmMul 128 (y ^^^ beAt l (16 * i) 16) h 0) 0

/-- Zeros that bring a list to whole blocks. -/
def zeros16 (l : List Nat) : List Nat := List.replicate ((16 - l.length % 16) % 16) 0

/-- The first counter of a nonce. -/
def gcmStart (key nonce : List Nat) : Nat :=
  if nonce.length = 12 then beVal nonce * 2 ^ 32 + 1
  else ghash (aesNat key 0) (nonce ++ zeros16 nonce ++ beBytes 16 (8 * nonce.length))

/-- The next counter: its low 32 bits count. -/
def gcmNext (c : Nat) : Nat := c / 2 ^ 32 * 2 ^ 32 + (c + 1) % 2 ^ 32

/-- The tag of associated data and ciphertext. -/
def gcmTag (key nonce ad ct : List Nat) : List Nat :=
  let s := ghash (aesNat key 0) (ad ++ zeros16 ad ++ ct ++ zeros16 ct ++ beBytes 8 (8 * ad.length) ++ beBytes 8 (8 * ct.length))
  beBytes 16 (s ^^^ aesNat key (gcmStart key nonce))

/-- The data part of GCM. -/
def gcmCrypt (key nonce l : List Nat) : List Nat := ctrXor key gcmNext (gcmNext (gcmStart key nonce)) l

/-- AES-GCM: ciphertext, then tag. [PRESUMED, log 6] -/
def gcmSeal (key nonce ad pt : List Nat) : List Nat :=
  let ct := gcmCrypt key nonce pt
  ct ++ gcmTag key nonce ad ct

/-- Its opening: the plaintext where the tag holds. -/
def gcmOpen (key nonce ad ct tag : List Nat) : Option (List Nat) :=
  if gcmTag key nonce ad ct = tag then some (gcmCrypt key nonce ct) else none

end Sys2Proof.Machine
end

