-- ==== Sys2Proof/Machine/Crc.lean ====
section
/-! DEFINITION. Reflected cyclic redundancy checks over byte lists: the CRC-32C of R168 and the frame check sequence of Ethernet. -/

namespace Sys2Proof.Machine

/-- One bit of a reflected CRC whose reversed polynomial is `poly`. -/
def crcBit (poly c : Nat) : Nat := if c % 2 = 1 then (c / 2) ^^^ poly else c / 2

/-- Eight bits. -/
def crcByte (poly c b : Nat) : Nat :=
  let f := crcBit poly
  f (f (f (f (f (f (f (f (c ^^^ (b % 256)))))))))

/-- A reflected 32-bit CRC with initial value and final XOR of all ones. [PRESUMED, log 6] -/
def crc32Of (poly : Nat) (l : List Nat) : Nat := l.foldl (crcByte poly) 0xFFFFFFFF ^^^ 0xFFFFFFFF

/-- CRC-32C (R168): polynomial 0x1EDC6F41, reflected 0x82F63B78. -/
def crc32c (l : List Nat) : Nat := crc32Of 0x82F63B78 l

/-- The frame check sequence: polynomial 0x04C11DB7, reflected 0xEDB88320. -/
def crc32 (l : List Nat) : Nat := crc32Of 0xEDB88320 l

end Sys2Proof.Machine
end

