-- ==== Sys2Proof/Machine/Image.lean ====
section
/-! DEFINITION. The bytes of a Survey image, all fields big-endian (R4): header, records, signer entries, and the payloads whose layout the manual gives (R255, R304, R344, R345, R347, R358). -/

namespace Sys2Proof.Machine

/-- A classifier rule of 40 bytes (R304). -/
def ruleOf (b : List Nat) : ClsRule :=
  let v := beAt b 8 2
  let ip := beAt b 10 1
  { ports := beAt b 0 8, vlanAny := bitAt v 15, untagged := bitAt v 14, vid := v % 4096, ipver := ip, plen := beAt b 11 1
    dst := if ip = 4 then beAt b 12 4 else beAt b 12 16
    portLo := beAt b 28 2, portHi := beAt b 30 2, classes := beAt b 32 2, seam := beAt b 34 1
    spare := [v / 4096 % 4, if ip = 4 then beAt b 16 12 else 0, beAt b 35 5] }

/-- `n` numbers of `k` bytes from offset `i`. -/
def beList (b : List Nat) (i k n : Nat) : List Nat := (List.range n).map fun j => beAt b (i + k * j) k

/-- A PROGRAMS payload (R255). -/
def programsOf (b : List Nat) : ProgramsSec :=
  let n := beAt b 2 2
  let s := beAt b 6 2
  let m := beAt b 56 1
  let code := 64 + 8 * m
  let nibble := fun (k : Nat) => let x := beAt b (code + 2 * n + k / 2) 1; if k % 2 = 0 then x / 16 else x % 16
  { mask := beAt b 0 2, insns := beList b code 2 n, watchdog := beAt b 4 2, image := (List.range s).map nibble
    periods := beList b 8 4 4, dispatch := beList b 24 2 16
    modules := (List.range m).map fun j =>
      let o := 64 + 8 * j
      { id := beAt b o 1, first := beAt b (o + 2) 2, last := beAt b (o + 4) 2, version := beAt b (o + 6) 2 }
    lengthOk := decide (b.length = code + 2 * n + (s + 1) / 2) }

/-- A PATCH payload (R358). -/
def patchOf (b : List Nat) : PatchSec :=
  let n := beAt b 4 2
  let c := beAt b 6 2
  let m := 8 + 8 * n + c
  { version := beAt b 0 2, romVersion := beAt b 2 2
    entries := (List.range n).map fun j => (beAt b (8 + 8 * j) 4, beAt b (12 + 8 * j) 4)
    code := slice (8 + 8 * n) c b
    signatureOk := decide (n ≤ 64 ∧ c ≤ 32768 ∧ b.length = m + 96 + 3309) && Config.patchVerifies (b.take m) (b.drop m) }

/-- A payload by its record's type. Of the sections whose layout the manual does not give, an unknown function of the bytes
reads the parameters, and bytes that spell none are a record of no type of R345; the classifier rules of SEAMS are entries of 40 bytes. [DESIGN CHOICE, log 10] -/
def payloadOf (type : Nat) (b : List Nat) : Payload :=
  if type = 2 then .programsP (programsOf b)
  else if type = 9 then .patchP (patchOf b)
  else if type = 0 ∨ 9 < type then .otherP type
  else match Config.sectionOf type b with
    | some (.seamsP q) => if type = 7 then .seamsP { q with rules := (Config.ruleBytes b).map ruleOf } else .otherP 0
    | some q => if q.typeByte = type then q else .otherP 0
    | none => .otherP 0

/-- The records in `b` (R345), at most as many as the first argument says; a record that runs past the end has a wrong
CRC. -/
def recordsOf : Nat → List Nat → List Record
  | 0, _ => []
  | k + 1, b =>
    if b.isEmpty then []
    else
      let p := beAt b 8 4
      let n := 12 + ceilDiv p 4 * 4 + 4
      let ok := decide (n ≤ b.length) && beAt b (n - 4) 4 == crc32c (b.take (12 + p))
      { seq := beAt b 4 4, crcOk := ok, payload := payloadOf (beAt b 0 1) (slice 12 p b)
        digest := beVal (Sha.s384.digest (b.take n)) } :: recordsOf k (b.drop n)

/-- The length of a signer entry (R347). -/
def signerLen : Nat := 5458

/-- A signer entry (R347). -/
def signerOf (b : List Nat) : Signer :=
  { role := if beAt b 2 2 = signerLen then beAt b 0 1 else 0
    keyP384 := beVal (Sha.s256.digest (slice 4 97 b)), keyMlDsa := beVal (Sha.s256.digest (slice 101 1952 b)) }

/-- The signers that a header's signers byte names, in ascending bit order. -/
def signerCount (bits : Nat) : Nat := ((List.range 8).filter fun k => bitAt bits k).length

/-- The image that bytes spell (R344 to R347). -/
def imageOf (b : List Nat) : Image :=
  let len := beAt b 12 4
  let k := signerCount (beAt b 9 1)
  let block := len - (4 + signerLen * k)
  { magicOk := beAt b 0 4 == 0x53555256, formatVersion := beAt b 4 2, headerLength := beAt b 6 2
    headerCrcOk := decide (b.length = len) && beAt b 60 4 == crc32c (b.take 60)
    kind := beAt b 8 1, signersByte := beAt b 9 1, securityVersion := beAt b 10 1, totalLength := len
    serial := beAt b 16 4, deviceSerial := beAt b 20 8, baseDigest := beAt b 28 32
    records := recordsOf (block - 64) (slice 64 (block - 64) b)
    digest := beVal (Sha.s384.digest (b.take block))
    signers := if beAt b block 1 = k then
        (List.range k).map fun j => signerOf (slice (block + 4 + signerLen * j) signerLen b)
      else [] }

end Sys2Proof.Machine
end

