-- ==== Sys2Proof/Machine/Dial.lean ====
section
/-! DEFINITION. The Dial: edge conversion, measurement modes, triggers, frequency regression and self-check (R98 to R114). -/

namespace Sys2Proof.Machine

/-- A channel's state. -/
def dialCh (s : State) (n : Nat) : DialChSt := sget {} s.dial.ch n

/-- Changes a channel's state. -/
def dialMod (n : Nat) (f : DialChSt → DialChSt) (s : State) : State :=
  { s with dial := { s.dial with ch := smod {} s.dial.ch n f } }

/-- A channel's assignment (R98). -/
def dialCfg (s : State) (n : Nat) : DialChCfg := sget {} s.cfg.str.dial n

/-- The Dial channel of a source code in a role, if STRUCTURE assigns one (R98). -/
def dialOf (s : State) (role src : Nat) : Option Nat :=
  (s.cfg.str.dial.find? fun e => e.2.source == src && e.2.role == role).map (·.1)

/-- Base address of a channel's registers. -/
def dialBase (n : Nat) : Nat := 0x00401000 + 0x40 * n

/-- Fields of DIAL_CH_CFG that software sets on a USER channel. -/
def dialMode (s : State) (n : Nat) : Nat := if (dialCfg s n).role = 3 then rfField s (dialBase n) 8 7 else 0
/-- TB field (R108); REF and MON channels use Lode time. -/
def dialTb (s : State) (n : Nat) : Nat := if (dialCfg s n).role = 3 then rfField s (dialBase n) 10 9 else 0
/-- CONT field. -/
def dialCont (s : State) (n : Nat) : Bool := bitAt (rfGet s (dialBase n)) 11
/-- STOP_CH field. -/
def dialStop (s : State) (n : Nat) : Nat := rfField s (dialBase n) 16 12
/-- TRIG_SRC field. -/
def dialTrig (s : State) (n : Nat) : Nat := rfField s (dialBase n) 20 17
/-- EN field; REF and MON channels always run. -/
def dialEn (s : State) (n : Nat) : Bool := (dialCfg s n).role != 3 || bitAt (rfGet s (dialBase n)) 21

/-- A port's state. -/
def portSt (s : State) (p : Nat) : PortSt := sget {} s.prt.ports p

/-- Changes a port's state. -/
def portMod (p : Nat) (f : PortSt → PortSt) (s : State) : State :=
  { s with prt := { s.prt with ports := smod {} s.prt.ports p f } }

/-- A port's entry in STRUCTURE. -/
def portCfg (s : State) (p : Nat) : PortCfg := sget {} s.cfg.str.ports p

/-- A port's PCS has alignment markers: 50 and 100 Gbit/s. -/
def usesAm (s : State) (p : Nat) : Bool := decide (2 ≤ (portCfg s p).speed)

/-- The recovered clock of a port is squelched (R194). -/
def squelched (s : State) (p : Nat) : Bool :=
  let q := portSt s p
  !q.link || q.hiBer || q.localFault || !q.blockLock || (usesAm s p && !q.amLock)

/-- Frequency of an output in Hz, as a ratio (R156, R166). -/
def outFreq (s : State) (m : Nat) : Nat × Nat :=
  let c : OutCfg := sget {} s.cfg.outs.out m
  ((sget ({} : SynCfg) s.cfg.outs.syn (m / 2)).fVco, max (if c.pulse then c.pe * c.div else c.div) 1)

/-- Frequency in Hz of an output's clock, which in pulse mode is the edge clock, as a ratio (R156, R162). -/
def edgeFreq (s : State) (m : Nat) : Nat × Nat :=
  ((sget ({} : SynCfg) s.cfg.outs.syn (m / 2)).fVco, max (sget ({} : OutCfg) s.cfg.outs.out m).div 1)

/-- Nominal source frequency in Hz, as a ratio (R106): 81.84 MHz of an SMP sample clock (R116, R118), of a loopback the
output's, in pulse mode its edge clock's (R162), else the reference's. -/
def dialNom (s : State) (n : Nat) : Nat × Nat :=
  let c := dialCfg s n
  if c.role = 3 then (rfGet s (dialBase n + 0xC), 1)
  else if c.source = 7 ∨ c.source = 8 then (81840000, 1)
  else if 0x0D ≤ c.source ∧ c.source ≤ 0x14 then edgeFreq s (c.source - 0x0D)
  else refNom s (dialRef c.source)

/-- Prescaler (R102): on REF and MON channels the smallest that gives at most 10 MHz. -/
def dialPresc (s : State) (n : Nat) : Nat :=
  if (dialCfg s n).role = 3 then min (max (rfField s (dialBase n + 4) 24 0) 1) (2 ^ 24) else presc10M (dialNom s n)

/-- Gate in ms. [DESIGN CHOICE, log 31] -/
def dialGateMs (s : State) (n : Nat) : Nat :=
  if (dialCfg s n).role = 3 then rfField s (dialBase n + 8) 16 0
  else (refRec s (dialRef (dialCfg s n).source)).gateMs

/-- Whether results on a channel are invalid: COARSE (R103), or an unusable channel (R114). [DESIGN CHOICE, log 31] -/
def dialInvalid (s : State) (n : Nat) : Bool := s.lode.coarse || s.otp.dialBad.contains n

/-! ### Conversion (R100) -/

/-- Temperature scale of a line, interpolated between the eight OTP points. [DESIGN CHOICE, log 31] -/
def dialScale (n line : Nat) (temp : Int) : Nat :=
  if temp ≤ 0 then Config.dialTemp n line 0
  else if 105 ≤ temp then Config.dialTemp n line 7
  else
    let t := temp.toNat
    let a : Int := Config.dialTemp n line (t / 15)
    let b : Int := Config.dialTemp n line (t / 15 + 1)
    (a + truncDiv ((b - a) * (t % 15 : Nat)) 15).toNat

/-- Fraction of a tick of a code, units of 2^-16 tick. [DESIGN CHOICE, log 31] -/
def dialFraction (n line code : Nat) (temp : Int) : Nat :=
  min (Config.dialCd n line code * dialScale n line temp / 2 ^ 15) 65535

/-- The Lode time of an edge with code `code` sampled at the present tick, units of 2^-16 ns. -/
def dialTime (s : State) (n line code : Nat) : Nat :=
  (lodeNow s - dialFraction n line code s.dial.temp * s.clk.inc / 2 ^ 16 - Config.dialInOfs n) / 2 ^ 40

/-- The time of an edge on the LO scale: ticks of exactly 640 ps, less the input delay, units of 2^-16 ns (R108). -/
def dialLoTime (s : State) (n line code : Nat) : Nat :=
  ((s.clk.ticks * 65536 - dialFraction n line code s.dial.temp) * 64 * 2 ^ 40 / 100 - Config.dialInOfs n) / 2 ^ 40

/-! ### Results (R104) -/

/-- A result on the LO scale with ageing carries NO_AGE while the ageing model is not valid (R108). -/
def noAge (s : State) (n : Nat) : Bool := decide (dialTb s n = 2) && !s.lode.ageValid

/-- Makes `r` the current result of channel `n`. -/
def dialResult (n : Nat) (r : DialResult) (s : State) : State :=
  let c := dialCh s n
  let s1 := if c.isNew then rfBump (dialBase n + 0x34) 15 8 1 s else s
  let s2 := dialMod n (fun c => { c with
      result := { r with
        seq := (c.result.seq + 1) % 256, noAge := noAge s n, invalid := r.invalid || dialInvalid s n }
      isNew := true }) s1
  if (dialCfg s n).role = 3 then irqRaise 4 4 (rfOr 0x00400010 (2 ^ n) s2) else s2

/-- A gate that starts now (R103). -/
def newGate (s : State) : DialGate := { startTick := s.clk.ticks, invalid := s.lode.coarse }

/-- The end of a triggered measurement: a held trigger starts the next at once (R105). -/
def dialEnd (n : Nat) (s : State) : State :=
  dialMod n (fun c => { c with
    running := if c.held then some s.clk.ticks else none, held := false, startT := none
    gate := if c.held && decide (dialMode s n = 2) then some (newGate s) else none }) s

/-- A trigger (R105). [DESIGN CHOICE, log 31] -/
def dialTrigger (n : Nat) (s : State) : State :=
  if (dialCfg s n).role = 3 ∧ dialEn s n ∧ dialMode s n ≠ 0 ∧ (dialMode s n = 1 ∨ dialCont s n = false) then
    let c := dialCh s n
    if c.running.isSome then
      (if c.held then irqRaise 4 2 (rfBump (dialBase n + 0x34) 7 0 1 s)
       else dialMod n (fun c => { c with held := true }) s)
    else dialMod n (fun c => { c with
      running := some s.clk.ticks, startT := none
      gate := if dialMode s n = 2 then some (newGate s) else c.gate }) s
  else s

/-- A knock or a bell on event pin `ev` triggers the channels that name it in TRIG_SRC (R105). -/
def dialPinTrigger (ev : Nat) (s : State) : State :=
  (List.range 24).foldl (fun t n => if dialTrig s n = ev + 1 then dialTrigger n t else t) s

/-! ### Frequency (R106 to R108) -/

/-- The spacing D of the points of a gate. -/
def dialSpacing (s : State) (n : Nat) : Nat :=
  let f := dialNom s n
  max (f.1 * dialGateMs s n / (f.2 * dialPresc s n * 1000 * 4095)) 1

/-- The gate has its last point: N = 4,096 when D is above 1 (R106). -/
def gateFull (s : State) (n : Nat) (g : DialGate) : Bool := decide (1 < dialSpacing s n ∧ 4096 ≤ g.pts.length)

/-- Adds a timestamped edge to a gate, with the remaining pull offset r (R107). -/
def gatePoint (s : State) (n : Nat) (t : Int) (g : DialGate) : DialGate :=
  { g with
    edges := g.edges + 1
    pts := if g.edges % dialSpacing s n = 0 ∧ gateFull s n g = false then (g.pts.length, t + rNow s) :: g.pts else g.pts
    invalid := g.invalid || dialInvalid s n
    pull := g.pull || s.lode.pullOn }

/-- The fractional frequency of a gate's points, units of 2^-64, truncated toward zero (R106). [DESIGN CHOICE, log 31] -/
def gateFreq (s : State) (n : Nat) (g : DialGate) : Int :=
  let m := lsSlope g.pts
  let f := dialNom s n
  if m.1 ≤ 0 ∨ f.1 = 0 then 0
  else
    truncDiv (((dialSpacing s n * oneSec * m.2 * dialPresc s n * f.2 : Nat) - (f.1 : Int) * m.1) * 2 ^ 64)
      (f.1 * m.1.toNat)

/-- Phase of an edge at Lode time `t` against the grid of the prescaled nominal period (R81). -/
def edgePhase (s : State) (n t : Nat) : Int :=
  let f := dialNom s n
  let num := max f.1 1
  let per := oneSec * dialPresc s n * f.2
  ((2 * t * num + per) / (2 * per) * per / num : Nat) - (t : Int)

/-- The reference's last frequency and phase checks are inside their reject limits, in QUALIFIED: what the flywheel's
frequency is averaged from is good (R71, R78). -/
def goodFrequency (s : State) (r : Nat) : Bool :=
  isQualified s r && freqInside (refSt s r) (refRec s r).fRej true && (refSt s r).consRej && (srcCheck s r).2

/-- The frequency of a gate of a REF channel (R80, R103): the check of a clock reference, the learned offset of the
flywheel in use (R71), and the one measurement per gate of a SyncE reference, which is the phase of its last edge (R76),
predicted by the gate before (R81). A gate without a value leaves the last result in force. What is learned comes after
the gate's own phase has been judged (R78). -/
def refFrequency (n : Nat) (y : Int) (s : State) : State :=
  let r := dialRef (dialCfg s n).source
  if (refRec? s r).isNone ∨ isClock r = false then s
  else
    let u := refMod r (fun x => { x with freq := some y, freqPrev := x.freq }) s
    let v := match (if 8 ≤ r then (dialCh s n).lastT else none) with
      | some (t, tick) => measure r (edgePhase s n t) (s.clk.ticks - tick) u
      | none => u
    if r = v.lode.fwRef ∧ v.lode.state = .locked ∧ goodFrequency v r then
      learnOffset { v with lode := { v.lode with
        fwLast := r, fwHist := histPush s.clk.ticks y (keepSpan s) v.lode.fwHist } }
    else v

/-- The end of a gate: its result (R103, R106 to R109), and the next gate. Once COARSE has returned to 0 the next gate
starts at the next timestamped edge (R103). [DESIGN CHOICE, log 31] -/
def gateEnd (n : Nat) (g : DialGate) (s : State) : State :=
  let y0 := gateFreq s n g
  let y := if dialTb s n = 2 ∧ s.lode.ageValid then y0 - fitAt s ((g.startTick + s.clk.ticks) / 2) else y0
  let user := decide ((dialCfg s n).role = 3)
  let back := g.invalid && !s.lode.coarse
  let next : Option DialGate := if (!user || dialCont s n) && !back then some (newGate s) else none
  let u := dialMod n (fun c => { c with gate := next }) s
  let v :=
    if 2 ≤ g.pts.length then
      dialResult n { value := if g.invalid then 0 else twosComp 64 y, isTime := false, n := g.pts.length
                     pull := g.pull, invalid := g.invalid } u
    else u
  if user then (if dialCont s n then v else dialEnd n v)
  else if 2 ≤ g.pts.length ∧ g.invalid = false ∧ (dialCfg s n).role = 1 then refFrequency n y v else v

/-- A gate that saw COARSE at 1 ends at the first timestamped edge of the fine time that has come back; the next gate
starts there (R103). [DESIGN CHOICE, log 31] -/
def gateRestart (n : Nat) (s : State) : State :=
  match (dialCh s n).gate with
  | some g => if g.invalid && !dialInvalid s n then gateEnd n g s else s
  | none => s

/-! ### Edges -/

/-- What a USER channel does with an edge at `t` on line `line` (R104, R105); every mode follows TB (R108). [DESIGN CHOICE, log 31] -/
def userEdge (n : Nat) (line : Bool) (t : Nat) (tLo : Nat) (s : State) : State :=
  let x := if dialTb s n = 0 then t else tLo
  match dialMode s n with
  | 1 =>
    match (dialCh s n).running, (dialCh s n).startT with
    | some _, none => dialMod n (fun c => { c with startT := some x, startBad := dialInvalid s n }) s
    | _, _ => s
  | 2 =>
    let u := gateRestart n s
    match (dialCh u n).gate with
    | some g => dialMod n (fun c => { c with gate := some (gatePoint u n x g) }) u
    | none => if dialCont u n then dialMod n (fun c => { c with gate := some (gatePoint u n x (newGate u)) }) u else u
  | _ => dialResult n { value := lodeBits x, line := line } s

/-- An edge on channel `n` ends the INTERVAL measurements that name it as their stop channel (R104). One with an invalid
timestamp at either end is invalid (R56). [DESIGN CHOICE, log 31] -/
def stopIntervals (n : Nat) (t tLo : Nat) (s : State) : State :=
  (List.range 24).foldl (fun u m =>
    match (dialCh s m).startT with
    | some a =>
      if dialMode s m = 1 ∧ dialStop s m = n ∧ (dialCh s m).running.isSome then
        let x : Int := if dialTb s m = 0 then t else tLo
        dialEnd m (dialResult m { value := twosComp 64 (satSigned 64 (x - a)), isTime := false,
                                   invalid := (dialCh s m).startBad || dialInvalid s n } u)
      else u
    | none => u) s

/-- Ticks for which a line is busy with a conversion: the whole ticks in 8 ns (R101). [DESIGN CHOICE, log 31] -/
def lineBusyTicks : Nat := 12

/-- Ticks for which both lines have been free before a check edge: those that hold 20 ns (R110). -/
def checkFreeTicks : Nat := 32

/-- The line of channel `n` that a check edge occupies now, if any: only while the channel is checked and both lines have
been free for 20 ns (R110). [DESIGN CHOICE, log 31] -/
def checkEdge (n : Nat) (s : State) : Option Bool × State :=
  let c := dialCh s n
  if c.checking.isSome ∧ max c.busy0 c.busy1 + checkFreeTicks ≤ s.clk.ticks then
    let f := takeFree s
    (Config.checkEdge f.1, f.2)
  else (none, s)

/-- The line that an input edge takes: L0 first, but not one that a check edge occupies (R101, R110). -/
def freeLine (n : Nat) (check : Option Bool) (s : State) : Option Bool :=
  let c := dialCh s n
  let now := s.clk.ticks
  if c.busy0 ≤ now ∧ check ≠ some false then some false
  else if c.busy1 ≤ now then some true
  else none

/-- A timestamp is kept for a second, for the sentence that may name it (R170). -/
def keepRecent (t now : Nat) (l : List (Nat × Nat)) : List (Nat × Nat) :=
  ((t, now) :: l.filter fun e => decide (now ≤ e.2 + ticksPerSec)).take 1024

/-- A prescaled edge with code `code` on channel `n`: the line it takes, its time on both scales, and the state with the
line taken (R101). -/
def takeLine (n code : Nat) (s : State) : Option (Bool × Nat × Nat × State) :=
  let k := checkEdge n s
  let now := s.clk.ticks
  (freeLine n k.1 s).map fun l =>
    let t := dialTime s n l.toNat code
    (l, t, dialLoTime s n l.toNat code, dialMod n (fun c => { c with
      busy0 := if l then c.busy0 else now + lineBusyTicks, busy1 := if l then now + lineBusyTicks else c.busy1
      lastT := some (t, now), recent := if dialInvalid s n then c.recent else keepRecent t now c.recent }) k.2)

/-- Whether a pulse is too narrow for a clock or pulse reference (R79): under 100 ns. -/
def isRunt (s : State) (n width : Nat) : Bool :=
  decide ((dialCfg s n).role = 1) && isClock (dialRef (dialCfg s n).source) && decide (width < 100)

/-- The channel times a sample clock. -/
def isSmp (s : State) (n : Nat) : Bool := decide ((dialCfg s n).role = 1 ∧ ((dialCfg s n).source = 7 ∨ (dialCfg s n).source = 8))

/-- The Dial reports a missing edge to a sample clock's block (R118). -/
def blockMissing (n : Nat) (s : State) : State :=
  if isSmp s n then dialMod n (fun c => { c with block := { c.block with bad := true } }) s else s

/-- A timestamp `t` of a sample clock joins its block; one that is invalid, or more than 1.5 nominal periods after the one
before it, spoils the block (R118). -/
def blockPoint (s : State) (n t : Nat) (b : SampleBlock) : SampleBlock :=
  let f := dialNom s n
  let late := match (if b.n = 0 then b.before else some b.last) with
    | some k => decide (3 * oneSec * dialPresc s n * f.2 < 2 * f.1 * (t - k))
    | none => false
  let first := if b.n = 0 then t else b.first
  let x : Int := (t : Int) - first
  { before := b.before, first := first, n := b.n + 1, sumT := b.sumT + x, sumKT := b.sumKT + b.n * x, last := t
    bad := b.bad || late || dialInvalid s n }

/-- The least-squares line through a block, as the Lode time of its first sample in 2^-16 ns and the clock's fractional
frequency in 2^-64 against `presc` nominal periods den / num of a second a step (R118). -/
def blockLine (num den presc : Nat) (b : SampleBlock) : Option (Int × Int) :=
  let n : Int := b.n
  let sk := n * (n - 1) / 2
  let skk := (n - 1) * n * (2 * n - 1) / 6
  let d := n * skk - sk * sk
  let m := n * b.sumKT - sk * b.sumT
  if b.bad ∨ d ≤ 0 ∨ m ≤ 0 then none
  else some ((b.first : Int) + roundDiv (b.sumT * d - m * sk) (n * d).toNat,
    roundDiv ((((oneSec * presc * den : Nat) : Int) * d - m * num) * 2 ^ 64) (m * num).toNat)

/-- A converted edge on a REF channel: its gate, its reference's activity, which an edge keeps whatever COARSE is (R79), and of a frequency-only REFIN a
measurement, at most 1,000 a second. With a time reference the sentence that names the edge's second forms it (R76,
R170); a SyncE reference is measured at the end of its gate. [DEDUCED, log 30] -/
def refEdge (n t : Nat) (s : State) : State :=
  let r := dialRef (dialCfg s n).source
  let w := gateRestart n s
  let u := dialMod n (fun c => { c with
    gate := some (gatePoint w n t (c.gate.getD (newGate w)))
    block := if isSmp w n then blockPoint w n t c.block else c.block }) w
  if isClock r = false then u
  else if dialInvalid s n then refMod r (fun x => { x with active := true, lastEdge := u.clk.ticks }) u
  else
    let due : Bool := match (refSt u r).lastTick with
      | some k => decide (k + ticksPerMs ≤ u.clk.ticks)
      | none => true
    let v := refMod r (fun x => { x with active := true, lastEdge := u.clk.ticks }) u
    if (refRec u r).isTime then
      refMod r (fun x => { x with
        todinBad := if x.todinPend then min (x.todinBad + 1) 3 else x.todinBad, todinPend := true }) v
    else if r < 6 ∧ due = true then measure r (edgePhase u n t) 0 v
    else v

/-! ### Self-check (R110 to R112) -/

/-- Known fractions m of a check (R110). -/
def checkFractions (mhz : Nat) : Nat :=
  if mhz = 100 ∨ mhz = 20 then 8 else if mhz = 40 then 16 else if mhz = 25 then 2 else 4

/-- Samples that a check collects at each fraction: 4,096, of DIAL_CHECK 65,536 (R110, R113). -/
def checkSamples (s : State) : Nat := if s.dial.chkRun then 65536 else 4096

/-- The samples of a check are complete: `x` holds, fraction by fraction, how often each code came (R110). -/
def checkCollected (s : State) (x : List (List (Nat × Nat))) : Bool :=
  decide (x.length = checkFractions s.cfg.str.loMHz) && x.all fun l => sumNat (l.map (·.2)) == checkSamples s

/-- The mean converted fraction of the samples at one fraction, on the LO scale in units of 2^-16 ps (R110). [DESIGN CHOICE, log 31] -/
def checkMean (n : Nat) (line1 : Bool) (temp : Int) (l : List (Nat × Nat)) : Int :=
  roundDiv (640 * (sumNat (l.map fun e => e.2 * dialFraction n line1.toNat e.1 temp) : Nat)) (sumNat (l.map (·.2)))

/-- Drift of a line from the mean converted fractions, all in units of 2^-16 ps (R110). -/
def lineDrift (mhz : Nat) (mu : List Int) : Nat :=
  let m := checkFractions mhz
  match mu with
  | [] => 0
  | m0 :: _ =>
    maxNat (((List.range m).zip mu).map fun p => (p.2 - (640 * 65536 * p.1 / m : Nat) - m0).natAbs)

/-- 3 ps, 0.5 ps and 10.5 ps in units of 2^-16 ps. -/
def ps3 : Nat := 196608
/-- 0.5 ps. -/
def psHalf : Nat := 32768
/-- 10.5 ps. -/
def ps10half : Nat := 688128

/-- The excess that drifts and staleness give (R112). -/
def excessOf (c : DialChSt) : Nat :=
  let d := max c.drift0 c.drift1
  let e := if ps3 < d then d + psHalf else 0
  if c.stale0 || c.stale1 then max ps10half e else e

/-- Puts an excess in force: a rise is reported, and the Tally takes the excess of every REF channel (R112, R145). -/
def setExcess (n e : Nat) (s : State) : State :=
  let was := (dialCh s n).excess
  let u := dialMod n (fun c => { c with excess := e }) s
  let v := if (dialCfg s n).role = 1 then
      { u with tally := { u.tally with excess := sput 0 u.tally.excess n (ceilDiv e 1000) } }
    else u
  let w := if was < e then faultEvent (80 + n) 2 0 (irqRaise 4 1 v) else v
  tallyRefresh (if termExcess s < termExcess w then bumpEpoch w else w)

/-- No check of any channel is in progress (R113). -/
def checksDone (s : State) : Bool := (List.range 24).all fun n => (dialCh s n).checking.isNone

/-- A background round ends with its last check: CHK_DONE. Of DIAL_CHECK the command's end says so (R113). -/
def roundDone (s : State) : State := if checksDone s && !s.dial.chkRun then irqRaise 4 0 s else s

/-- The channel's complete check gives an excess `e` (R112): a higher one at once, a lower one after three. -/
def judgeExcess (n e : Nat) (three : List Nat) (s : State) : State :=
  let was := (dialCh s n).excess
  if was < e then setExcess n e s
  else if three.length = 3 ∧ maxNat three < was then setExcess n (maxNat three) s
  else s

/-- A complete check of one line of channel `n` (R110 to R112). The check of the channel is complete with its second
line; until then a higher excess takes effect and a lower one does not count. -/
def checkComplete (n : Nat) (line1 : Bool) (mu : List Int) (s : State) : State :=
  let d := lineDrift s.cfg.str.loMHz mu
  let now := s.clk.ticks
  let last := if line1 then (dialCh s n).done0 else (dialCh s n).done1
  let u := dialMod n (fun c =>
    let x := if line1 then { c with drift1 := d, check1 := now, stale1 := false, done1 := true }
      else { c with drift0 := d, check0 := now, stale0 := false, done0 := true }
    if last then { x with checking := none, done0 := false, done1 := false } else x) s
  let e := excessOf (dialCh u n)
  let three := if last then (e :: (dialCh u n).lastThree).take 3 else []
  let v := if last then dialMod n (fun c => { c with lastThree := three }) u else u
  judgeExcess n e three (if last then roundDone v else v)

/-- The tick from which the time without a complete check of a line counts (R111). -/
def lastCheck (s : State) (n : Nat) (line1 : Bool) : Nat :=
  max s.dial.since (if line1 then (dialCh s n).check1 else (dialCh s n).check0)

/-- A line of channel `n` becomes stale (R111, R112); its checks are no longer consecutive. -/
def lineStale (n : Nat) (line1 : Bool) (s : State) : State :=
  let u := dialMod n (fun c => { (if line1 then { c with stale1 := true } else { c with stale0 := true }) with
    lastThree := [] }) s
  let v := faultEvent (80 + n) 3 0 (irqRaise 4 3 u)
  let e := excessOf (dialCh u n)
  if (dialCh s n).excess < e then setExcess n e v else v

/-- The check of channel `n` has not collected its samples (R111): it counts as incomplete. -/
def checkAbandon (n : Nat) (s : State) : State :=
  roundDone (dialMod n (fun c => { c with checking := none, done0 := false, done1 := false, lastThree := [] }) s)

/-- A check of both lines of channel `n` starts (R111). -/
def checkStart (n : Nat) (s : State) : State :=
  dialMod n (fun c => { c with checking := some s.clk.ticks, done0 := false, done1 := false }) s

/-- The channel takes a source. -/
def dialUsed (s : State) (n : Nat) : Bool := (dialCfg s n).role != 0

/-! ### The commands -/

/-- DIAL_TEMP_READ (R100): the sensor reads `temp` deg C. -/
def execDialTempRead (temp : Int) (s : State) : Res :=
  let u := elapseTo (nextMultiple ticksPerMs s) s
  .next { u with dial := { u.dial with temp := temp } }

/-- DIAL_BACKGROUND_CHECK (R111): every 10 s a check of each line of every channel starts. -/
def execDialBackgroundCheck (s : State) : Res :=
  let u := elapseTo (nextMultiple (10 * ticksPerSec) s) s
  .next (if u.dial.chkRun then u else (List.range 24).foldl (fun t n => checkStart n t) u)

/-- DIAL_CHECK_COMPLETE (R110, R112): a line's check has its samples at every known fraction; `mu` are their codes. With
fewer the check has not collected its samples. -/
def execDialCheckComplete (ch : DialCh) (line1 : Bool) (mu : List (List (Nat × Nat))) (s : State) : Res :=
  let c := dialCh s ch
  let due := c.checking.isSome && !(if line1 then c.done1 else c.done0) && checkCollected s mu
  .next (if due then checkComplete ch line1 (mu.map (checkMean ch line1 s.dial.temp)) s else s)

/-- DIAL_CHECK_ABANDON (R111): 1 s without the samples. -/
def execDialCheckAbandon (ch : DialCh) (s : State) : Res :=
  match (dialCh s ch).checking with
  | some t => .next (checkAbandon ch (elapseTo (t + ticksPerSec) s))
  | none => .next s

/-- DIAL_LINE_STALE (R111): 60 s without a complete check. -/
def execDialLineStale (ch : DialCh) (line1 : Bool) (s : State) : Res :=
  let c := dialCh s ch
  if (if line1 then c.stale1 else c.stale0) then .next s
  else .next (lineStale ch line1 (elapseTo (lastCheck s ch line1 + 60 * ticksPerSec) s))

/-- FREQUENCY_GATE_END (R106): the gate in progress ends: with D above 1 with its last point, and otherwise after tau_f. A
gate that has seen COARSE at 1 gives no value, and ends after tau_f too (R103). -/
def execFrequencyGateEnd (ch : DialCh) (s : State) : Res :=
  match (dialCh s ch).gate with
  | some g =>
    if gateFull s ch g then .next (gateEnd ch g s)
    else if 1 < dialSpacing s ch ∧ g.invalid = false then .next s
    else .next (gateEnd ch g (elapseTo (g.startTick + dialGateMs s ch * ticksPerMs) s))
  | none => .next s

/-- DIAL_INTERVAL_TIMEOUT (R105): 2^32 ns after the trigger. [DESIGN CHOICE, log 31] -/
def execDialIntervalTimeout (ch : DialCh) (s : State) : Res :=
  match (dialCh s ch).running with
  | some t =>
    if dialMode s ch = 1 then
      .next (dialEnd ch (dialResult ch { isTime := false, timeout := true } (elapseTo (t + ticksOfNs (2 ^ 32)) s)))
    else .next s
  | none => .next s

/-- DIAL_ARM (R105): a write of ARM = 1. -/
def execDialArm (ch : DialCh) (s : State) : Res := .next (dialTrigger ch s)

/-- DIAL_DISARM (R105): a write of ARM = 0 discards a held trigger without counting. -/
def execDialDisarm (ch : DialCh) (s : State) : Res :=
  .next (if (dialCfg s ch).role = 3 then dialMod ch (fun c => { c with held := false }) s else s)

/-- The value of RES0 to RES3 (index 0 to 3) of a latched result. -/
def dialResWord (r : DialResult) (isNew : Bool) (i : Nat) : Nat :=
  if i = 0 then (if r.isTime then bitsOf 15 0 r.value else bitsOf 31 0 r.value)
  else if i = 1 then (if r.isTime then bitsOf 47 16 r.value else bitsOf 63 32 r.value)
  else if i = 2 then (if r.isTime then bitsOf 79 48 r.value else r.n % 2 ^ 13)
  else
    (if r.isTime then bitsOf 95 80 r.value else 0) + r.seq % 256 * 2 ^ 16 + r.line.toNat * 2 ^ 24
      + r.pull.toNat * 2 ^ 25 + r.noAge.toNat * 2 ^ 26 + r.timeout.toNat * 2 ^ 27 + r.invalid.toNat * 2 ^ 30
      + isNew.toNat * 2 ^ 31

/-- DIAL_RESULT_READ (R104): a read of RES0 latches the current result and clears NEW. -/
def execDialResultRead (ch : DialCh) (s : State) : Res :=
  let c := dialCh s ch
  let u := dialMod ch (fun c => { c with latched := c.result, latchedNew := c.isNew, isNew := false }) s
  .next { u with pcie := { u.pcie with readData := dialResWord c.result c.isNew 0 } }

end Sys2Proof.Machine
end

