-- ==== Sys2Proof/Machine/Parse.lean ====
section
/-! DEFINITION. The receive parser (R181, R182), and the checksums of IPv4 and UDP. -/

namespace Sys2Proof.Machine

/-- One's-complement sum of the 16-bit words of a byte list, the last byte padded with zero. -/
def wordSum : List Nat → Nat
  | [] => 0
  | [a] => a * 256
  | a :: b :: r => a * 256 + b + wordSum r

/-- End-around carry to 16 bits. -/
def foldSum (n : Nat) : Nat := if n = 0 then 0 else (n - 1) % 65535 + 1

/-- The Internet checksum of a byte list. -/
def inetChecksum (l : List Nat) : Nat := 65535 - foldSum (wordSum l)

/-- What the parser finds in a frame. -/
structure Parsed where
  cls : Nat := 0
  vlan : Bool := false
  tci : Nat := 0
  /-- 0 no IP header, 4, 6. -/
  ipver : Nat := 0
  options : Bool := false
  l4Bad : Bool := false
  ipBad : Bool := false
  fragment : Bool := false
  trunc : Bool := false
  l3 : Nat := 0
  l4 : Nat := 0
  payload : Nat := 0
  src : Nat := 0
  dst : Nat := 0
  /-- UDP ports, with a UDP header. -/
  udp : Option (Nat × Nat) := none
  deriving DecidableEq, Repr

/-- The pseudo-header of a UDP checksum. -/
def pseudoHeader (ipver src dst len proto : Nat) : List Nat :=
  if ipver = 4 then beBytes 4 src ++ beBytes 4 dst ++ [0, proto] ++ beBytes 2 len
  else beBytes 16 src ++ beBytes 16 dst ++ beBytes 4 len ++ [0, 0, 0, proto]

/-- Whether a UDP datagram's checksum is bad; 0 over IPv4 means none. -/
def udpBad (f : List Nat) (ipver src dst l4 : Nat) : Bool :=
  let len := beAt f (l4 + 4) 2
  let ck := beAt f (l4 + 6) 2
  if ck = 0 then ipver == 6
  else foldSum (wordSum (pseudoHeader ipver src dst len 17) + wordSum (slice l4 len f)) != 65535

/-- Class of a UDP destination port (R182). -/
def udpClass (dport : Nat) : Nat :=
  if dport = 123 then 6 else if dport = 319 then 7 else if dport = 320 then 8 else 0xA

/-- The transport header of an IP packet with protocol `proto` at `l4`. -/
def parseL4 (f : List Nat) (p : Parsed) (proto l4 : Nat) (first : Bool) : Parsed :=
  let other := if p.ipver = 4 then 2 else 3
  if !first then { p with cls := other }
  else if proto = 17 then
    if 256 < l4 + 8 then { p with cls := 0, trunc := true }
    else
      let dport := beAt f (l4 + 2) 2
      { p with
        cls := udpClass dport, l4 := l4, payload := l4 + 8, udp := some (beAt f l4 2, dport)
        l4Bad := !p.fragment && udpBad f p.ipver p.src p.dst l4 }
  else if proto = 1 ∧ p.ipver = 4 then { p with cls := 4, l4 := l4 }
  else if proto = 58 ∧ p.ipver = 6 then { p with cls := 5, l4 := l4 }
  else { p with cls := other, l4 := l4 }

/-- Up to two IPv6 extension headers from hop-by-hop (0), destination options (60) and routing (43). -/
def parseExt (f : List Nat) (p : Parsed) : Nat → Nat → Nat → Parsed
  | fuel, nh, off =>
    if nh = 0 ∨ nh = 60 ∨ nh = 43 then
      match fuel with
      | 0 => { p with cls := 0, trunc := true }
      | n + 1 =>
        let len := 8 * (beAt f (off + 1) 1 + 1)
        if 256 < off + len then { p with cls := 0, trunc := true }
        else parseExt f p n (beAt f off 1) (off + len)
    else if nh = 44 then { p with cls := 3, fragment := true }
    else parseL4 f p nh off true

/-- The headers from ethertype `et`, whose payload starts at `off`. [DESIGN CHOICE, log 38] -/
def parseL3 (f : List Nat) (p : Parsed) (et off : Nat) : Parsed :=
  if et = 0x0806 then { p with cls := 1, l3 := off }
  else if et = 0x88F7 then { p with cls := if beAt f off 1 % 16 < 8 then 7 else 8, l3 := off }
  else if et = 0x8809 then { p with cls := if beAt f off 1 = 0x0A then 9 else 0, l3 := off }
  else if et = 0x0800 then
    let ihl := 4 * (beAt f off 1 % 16)
    if 256 < off + max ihl 20 then { p with l3 := off, trunc := true }
    else
      let fr := beAt f (off + 6) 2
      let q := { p with
        ipver := 4, l3 := off, options := decide (20 < ihl)
        ipBad := foldSum (wordSum (slice off ihl f)) != 65535
        fragment := decide (fr % 0x4000 ≠ 0)
        src := beAt f (off + 12) 4, dst := beAt f (off + 16) 4 }
      parseL4 f q (beAt f (off + 9) 1) (off + ihl) (decide (fr % 0x2000 = 0))
  else if et = 0x86DD then
    if 256 < off + 40 then { p with l3 := off, trunc := true }
    else
      let q := { p with ipver := 6, l3 := off, src := beAt f (off + 8) 16, dst := beAt f (off + 24) 16 }
      parseExt f q 2 (beAt f (off + 6) 1) (off + 40)
  else { p with l3 := off }

/-- Parses a frame (R181): up to two VLAN tags, 0x88A8 or 0x8100 outer and 0x8100 inner. [DESIGN CHOICE, log 38] -/
def parse (f : List Nat) : Parsed :=
  let et := beAt f 12 2
  if et = 0x88A8 ∨ et = 0x8100 then
    let p : Parsed := { vlan := true, tci := beAt f 14 2 }
    if beAt f 16 2 = 0x8100 then parseL3 f p (beAt f 20 2) 22 else parseL3 f p (beAt f 16 2) 18
  else parseL3 f {} et 14

/-- Descriptor flags (R182). -/
def descFlags (p : Parsed) (tsInvalid : Bool) : Nat :=
  p.vlan.toNat + (p.ipver == 6).toNat * 2 + p.options.toNat * 4 + p.l4Bad.toNat * 8 + p.ipBad.toNat * 16
    + tsInvalid.toNat * 32 + p.fragment.toNat * 64 + p.trunc.toNat * 128

/-- The descriptor (R182) without its store address. -/
def descriptor (p : Parsed) (f : List Nat) (tRx : Nat) (port seam rule : Nat) (tsInvalid : Bool) : List Nat :=
  beBytes 12 tRx ++ beBytes 2 f.length ++ [port, seam, p.cls, descFlags p tsInvalid] ++ beBytes 2 p.tci
    ++ [p.l3, p.l4, p.payload, rule] ++ beBytes 4 0 ++ beBytes 4 (crc32c f)

/-! ### Insertions (R187) -/

/-- The IPv4 header checksum, written at `off`; the header starts 10 bytes before it. -/
def insertIp4 (off : Nat) (f : List Nat) : List Nat :=
  let g := overlay f off [0, 0]
  let h := off - 10
  overlay g off (beBytes 2 (inetChecksum (slice h (4 * (beAt g h 1 % 16)) g)))

/-- The UDP checksum, written at `off`; the UDP header starts 6 bytes before it. 0x0000 is sent as 0xFFFF. -/
def insertUdp (off : Nat) (f : List Nat) : List Nat :=
  let g := overlay f off [0, 0]
  let p := parse g
  let l4 := off - 6
  let len := beAt g (l4 + 4) 2
  let c := 65535 - foldSum (wordSum (pseudoHeader p.ipver p.src p.dst len 17) + wordSum (slice l4 len g))
  overlay g off (beBytes 2 (if c = 0 then 0xFFFF else c))

/-- The PTP timestamp of launch instant `l` (96-bit Lode time), and its sub-nanosecond part added to
correctionField (R47, R187). -/
def insertPtp (l ts corr : Nat) (f : List Nat) : List Nat :=
  let g := overlay f ts (beBytes 10 (l / 65536))
  overlay g corr (beBytes 8 ((beAt g corr 8 + l % 65536) % 2 ^ 64))

end Sys2Proof.Machine
end

