-- ==== Sys2Proof/Machine/Wbr.lean ====
section
/-! DEFINITION. The Weighbridge's event counters and the slots of a pick (R403 to R406). -/

namespace Sys2Proof.Machine

/-- Events of kind O (R405). -/
def isOccupancy (code : Nat) : Bool := decide (0x20 ≤ code ∧ code ≤ 0x27)

/-- An event counter's selection: event, mode, ALL, INDEX and T (WBR_EVT_SEL). -/
def evtEvent (sel : Nat) : Nat := bitsOf 7 0 sel
/-- Mode of a selection. -/
def evtMode (sel : Nat) : Nat := bitsOf 9 8 sel
/-- ALL of a selection. -/
def evtAll (sel : Nat) : Bool := bitAt sel 10
/-- INDEX of a selection. -/
def evtIndex (sel : Nat) : Nat := bitsOf 19 11 sel
/-- Threshold of a selection. -/
def evtT (sel : Nat) : Nat := bitsOf 31 20 sel

/-- Adds `n` occurrences of event `code` at instance `i` to an event counter that selects it in mode COUNT. -/
def evtAdd (code i n : Nat) (m : Sparse EvtSt) (k : Nat) : Sparse EvtSt :=
  let e := sget {} m k
  if evtEvent e.sel = code ∧ evtMode e.sel = 0 ∧ (evtAll e.sel = true ∨ evtIndex e.sel = i) then
    sput {} m k { e with count := (e.count + n) % 2 ^ 64 }
  else m

/-- `n` occurrences of event `code` at instance `i` (R406). -/
def wbrEvent (code i n : Nat) (s : State) : State :=
  { s with wbr := { s.wbr with evts := (List.range 16).foldl (evtAdd code i n) s.wbr.evts } }

end Sys2Proof.Machine
end

