-- ==== Sys2Proof/Machine/Ports.lean ====
section
/-! DEFINITION. The client ports: link, receive path, launch reservations, launch buffer and transmission (R174 to R197). -/

namespace Sys2Proof.Machine

/-- Base address of a port's registers. -/
def portBase (p : Nat) : Nat := 0x01000000 + 0x10000 * p

/-- The port is enabled in the STRUCTURE applied. -/
def portEn (s : State) (p : Nat) : Bool := s.surv.structureApplied && (portCfg s p).en

/-- The reference that REFERENCES binds to a port: a SyncE recovery port (8 to 11) or a PTP-reference port (12 to
15). -/
def portRef (s : State) (p : Nat) : Option Nat :=
  (s.cfg.refs.refs.find? fun r => decide (8 ≤ r.id ∧ r.id < 16) && r.port == some p).map (·.id)

/-- PORT_CTL.DOWN: on a port that REFERENCES names as a recovery or PTP-reference port it is 0 (R197). -/
def portDown (s : State) (p : Nat) : Bool := bitAt (rfGet s (portBase p + 8)) 0 && (portRef s p).isNone

/-- The reference that a port's recovered clock is, if any (R194). -/
def portSync (s : State) (p : Nat) : Option Nat :=
  (s.cfg.refs.refs.find? fun r => decide (8 ≤ r.id ∧ r.id < 12) && r.port == some p).map (·.id)

/-- The PTP reference that a port's exchanges measure, if any (R209). -/
def portPtp (s : State) (p : Nat) : Option Nat :=
  (s.cfg.refs.refs.find? fun r => decide (12 ≤ r.id ∧ r.id < 16) && r.port == some p).map (·.id)

/-- C_in of a port for its rate and FEC mode, 2^-16 ns (R178). -/
def portCin (s : State) (p : Nat) : Nat :=
  let c := portCfg s p
  (sget (0, 0) c.cal (4 * c.speed + c.fec)).1

/-- C_out of a port for its rate and FEC mode, 2^-16 ns (R178). -/
def portCout (s : State) (p : Nat) : Nat :=
  let c := portCfg s p
  (sget (0, 0) c.cal (4 * c.speed + c.fec)).2

/-- A gallery's state. -/
def galSt (s : State) (g : Nat) : GalSt := sget {} s.gals g

/-- Changes a gallery's state. -/
def galMod (g : Nat) (f : GalSt → GalSt) (s : State) : State := { s with gals := smod {} s.gals g f }

/-- A gallery's entry in STRUCTURE. -/
def galCfg (s : State) (g : Nat) : GalCfg := sget {} s.cfg.str.gals g

/-- The home gallery of a port-seam pair (R183). -/
def homeOf (s : State) (p seam : Nat) : Option Nat :=
  (s.cfg.str.pairs.find? fun q => q.port == p && q.seam == seam).map (·.home)

/-- The gallery that receives the pair of port `p` and home gallery `h` (R231, R232). -/
def boundGal (s : State) (h p : Nat) : Option Nat :=
  let g := galSt s h
  if g.returned.contains p then some h
  else if g.moving || g.unbound then none
  else some (g.boundTo.getD h)

/-! ### Rates and the launch grid (R184, R185) -/

/-- Time of one byte at the PCS data rate, in units of 2^-16 / 25 ns. -/
def byteTime25 (speed : Nat) : Nat :=
  if speed = 0 then 1310720 else if speed = 1 then 524288 else if speed = 2 then 262144 else 131072

/-- Time of `n` bytes of a port in 2^-16 ns, rounded up. -/
def bytesFu (s : State) (p n : Nat) : Nat := ceilDiv (n * byteTime25 (portCfg s p).speed) 25

/-- First and last instant of a reservation, scaled by 25: from 8 bytes before L to n + 16 bytes after L. -/
def resvSpan (bt l n : Nat) : Nat × Nat := (25 * l - 8 * bt, 25 * l + (n + 16) * bt)

/-- Whether two spans overlap. -/
def spansOverlap (a b : Nat × Nat) : Bool := decide (a.1 < b.2 ∧ b.1 < a.2)

/-- The PCS block period of a rate (R184), in units of 2^-16 / 25 ns. -/
def blockPeriod (speed : Nat) : Nat := 8 * byteTime25 speed

/-! The raw serial stream of the line modes (R174, R177): IEEE 802.3's layouts. -/

/-- FEC lanes that share the serial lane bit by bit: 2 at 50 Gbit/s, 4 at 100 Gbit/s. [PRESUMED, log 64] -/
def rawLanes (speed : Nat) : Nat := if speed = 3 then 4 else if speed = 2 then 2 else 1

/-- Where bit `b` of a codeword of 10-bit symbols goes when its symbols are dealt to `lanes` FEC lanes. [PRESUMED, log 64] -/
def laneBit (lanes b : Nat) : Nat := lanes * (10 * (b / 10 / lanes) + b % 10) + b / 10 % lanes

/-- The 257-bit groups from a marker to the next of a line with RS-FEC, and those that the marker takes. [PRESUMED, log 64] -/
def markGroups (speed : Nat) : Nat × Nat := if speed = 3 then (81920, 5) else (20480, 1)

/-- The index in the raw serial stream of the first data bit of block `k` after a marker, codeword or block boundary
(R177): synchronisation headers, transcoding bits, parity, markers and lanes are accounted for. [PRESUMED, log 64] -/
def rawBit (speed fec k : Nat) : Nat :=
  if fec = 0 then 66 * k + 2
  else if fec = 1 then 2112 * (k / 32) + 65 * (k % 32) + 1
  else
    let m := markGroups speed
    let g := k / 4 / (m.1 - m.2) * m.1 + m.2 + k / 4 % (m.1 - m.2)
    (if fec = 2 then 5280 else 5440) * (g / 20) + laneBit (rawLanes speed) (257 * (g % 20) + 1 + 64 * (k % 4))

/-- The time, in units of 2^-16 / 25 ns, from the line's first block to block `k`: the mapping in reverse (R184). -/
def blockTime (speed fec k : Nat) : Nat :=
  let raw := rawBit speed fec k - rawBit speed fec 0
  if fec < 2 then raw * blockPeriod speed / 66
  else raw * (80 * blockPeriod speed) / (if fec = 2 then 5280 else 5440)

/-- Blocks that come between two markers, or in a codeword, and the block periods that they take with the markers. -/
def markSpan (speed fec : Nat) : Nat × Nat :=
  if fec = 0 then (1, 1) else if fec = 1 then (32, 32)
  else (4 * ((markGroups speed).1 - (markGroups speed).2), 4 * (markGroups speed).1)

/-- Launch instant of a transmitter's slot `k` (R184): the instant of its block, from a free phase of the line, C_out
later than at the ball. [DEDUCED, log 36] -/
def slotAt (n speed fec cOut k : Nat) : Nat :=
  (Config.slotPhase n % ((markSpan speed fec).2 * blockPeriod speed) + blockTime speed fec k) / 25 + cOut

/-- The launch instant of a transmitter's first slot at or after `t`. Slots rise, and a block is never further than 8
block periods from its place on an even grid between two markers; the slots count from the end of a marker, so that the
next marker comes after the blocks of the span. -/
def slotFrom (n speed fec cOut t : Nat) : Nat :=
  let m := markSpan speed fec
  let x := (25 * (t - cOut) - Config.slotPhase n % (m.2 * blockPeriod speed)) / blockPeriod speed
  let k := x / m.2 * m.1 + min (x % m.2) m.1 - 8
  (((List.range 18).map fun i => slotAt n speed fec cOut (k + i)).find? fun l => decide (t ≤ l)).getD
    (slotAt n speed fec cOut (k + 17))

/-- The launch instant of the first slot at or after `t` of a client port, or, from 64, of a haulage or twin link, which
runs 25GBASE-R (R184, R315). [DEDUCED, log 36] -/
def slotAfter (s : State) (n t : Nat) : Nat :=
  if n < 64 then slotFrom n (portCfg s n).speed (portCfg s n).fec (portCout s n) t
  else slotFrom n 1 (if (linkCfg s (n - 64)).fec then 2 else 0) (linkCfg s (n - 64)).cOut t

/-- The first slot at or after `t` whose reservation overlaps none of `l` (R185). -/
def findSlot (s : State) (bt p n : Nat) (l : List Resv) : Nat → Nat → Nat
  | 0, t => slotAfter s p t
  | fuel + 1, t =>
    let x := slotAfter s p t
    match l.find? fun r => spansOverlap (resvSpan bt x n) (resvSpan bt r.launch r.n) with
    | some r => findSlot s bt p n l fuel (ceilDiv ((resvSpan bt r.launch r.n).2 + 8 * bt) 25)
    | none => x

/-- A reservation is held from its STAMP to the end of its span (R185). -/
def resvHeld (s : State) (p : Nat) (r : Resv) : Bool :=
  r.fate != .sent || decide (25 * nowFu s < (resvSpan (byteTime25 (portCfg s p).speed) r.launch r.n).2)

/-- The reservations that a port holds. -/
def heldResvs (s : State) (p : Nat) : List Resv := (portSt s p).resvs.filter (resvHeld s p)

/-- theta_min of a port in ns, 2,000 to 20,000 (R191). -/
def thetaMin (s : State) (p : Nat) : Nat := min (max (sget 2000 s.cfg.lim.thetaMin p) 2000) 20000

/-- The launch threshold theta of a port in ns (R191). -/
def theta (s : State) (p : Nat) : Nat := min (max (portSt s p).thetaNs (thetaMin s p)) 20000

/-- Writes down the thresholds in force: an amendment of theta_min moves none of them, but for one that it leaves
below (R191). -/
def keepThetas (s : State) : State :=
  (List.range 64).foldl (fun t p =>
    if (portSt s p).thetaNs = theta s p then t else portMod p (fun q => { q with thetaNs := theta s p }) t) s

/-- The launch instant that a port grants at instant `ts` for a frame of `n` bytes requested at `req`, or none
where it refuses (R185). -/
def grantSlot (s : State) (p n req ts : Nat) : Option Nat :=
  let held := heldResvs s p
  if !(portSt s p).link || portDown s p || decide (512 ≤ held.length) then none
  else
    let l := findSlot s (byteTime25 (portCfg s p).speed) p n held held.length (max req (ts + fuOfNs (theta s p)))
    if fuOfNs 1000000 < l - ts then none else some l

/-- Adds a reservation in ascending launch instant. -/
def resvInsert (r : Resv) : List Resv → List Resv
  | [] => [r]
  | x :: l => if r.launch < x.launch then r :: x :: l else x :: resvInsert r l

/-- Takes a reservation of a port; its number is the state's `nextResv`. -/
def takeResv (p l n : Nat) (s : State) : State :=
  let r : Resv := { id := s.prt.nextResv, launch := l, epoch := s.tally.epoch, n := n }
  let held := heldResvs s p
  let t := portMod p (fun q => { q with resvs := resvInsert r held }) s
  { t with prt := { t.prt with nextResv := s.prt.nextResv + 1 } }

/-! ### Counters and theta -/

/-- A path-check failure of a port: interrupt and Minor fault (R192). [DESIGN CHOICE, log 40] -/
def portPathFault (p : Nat) (s : State) : State := faultEvent (112 + p) 1 0 (irqRaise (16 + p) 5 s)

/-- An UNDERRUN or LATE event raises theta by one step, or reports that it stands at 20,000 ns (R191). -/
def raiseTheta (p : Nat) (s : State) : State :=
  let t := portMod p (fun q => { q with thetaTick := s.clk.ticks }) s
  if 20000 ≤ theta s p then faultEvent (112 + p) 2 0 (irqRaise (16 + p) 6 t)
  else portMod p (fun q => { q with thetaNs := min (theta s p + 250) 20000 }) t

/-- Counts `n` reservations released unused. -/
def countVacant (p n : Nat) (s : State) : State := rfBump (portBase p + 0x60) 15 0 n s

/-- Marks the frame of a reservation. -/
def markTx (p id : Nat) (f : TxFrame → TxFrame) (s : State) : State :=
  portMod p (fun q => { q with tx := q.tx.map fun x => if x.resv = some id then f x else x }) s

/-- Forgets emitted frames that need nothing more: dead and released. -/
def pruneTx (p : Nat) (s : State) : State :=
  portMod p (fun q => { q with tx := q.tx.filter fun x => !(x.dead && x.released) }) s

/-- Every held reservation is released; nothing is sent (R189, R196). -/
def releaseAll (p : Nat) (s : State) : State :=
  let n := ((portSt s p).resvs.filter fun r => r.fate != .sent).length
  let t := portMod p (fun q => { q with
    resvs := [], tx := q.tx.map fun x => if x.resv.isSome then { x with dead := true } else x }) s
  pruneTx p (if n = 0 then t else countVacant p n t)

/-! ### Link -/

/-- The link of a port goes down (R196). [DESIGN CHOICE, log 40] -/
def linkDown (p : Nat) (s : State) : State :=
  let t := releaseAll p s
  if (portSt s p).link then
    irqRaise (16 + p) 1 (portMod p (fun q => { q with
      link := false, blockLock := false, amLock := false, fecLock := false
      tsValid := false, tsTick := s.clk.ticks }) t)
  else t

/-- A write of 1 to PORT_CTL.DOWN (R197). -/
def portGoDown (p : Nat) (s : State) : State :=
  if (portRef s p).isSome then s
  else
    let t := linkDown p (rfSet (portBase p + 8) 1 s)
    portMod p (fun q => { q with train := 0 }) t

/-- A write of 0 to PORT_CTL.DOWN. -/
def portGoUp (p : Nat) (s : State) : State := rfSet (portBase p + 8) 0 s

/-! ### Classifier and policers (R183, R304, R305) -/

/-- Whether a rule's prefix matches an address. A rule for any version keeps its 16 bytes; an IPv4 address is compared
with the first four of them (R304). -/
def prefixMatch (r : ClsRule) (ipver dst : Nat) : Bool :=
  if r.ipver = 0 ∧ r.plen = 0 then true
  else if ipver = 0 ∨ (r.ipver ≠ 0 ∧ r.ipver ≠ ipver) then false
  else
    let w := if ipver = 4 then 32 else 128
    let pre := if r.ipver = 0 ∧ ipver = 4 then r.dst / 2 ^ 96 else r.dst
    decide (dst / 2 ^ (w - min r.plen w) = pre / 2 ^ (w - min r.plen w))

/-- Whether a classifier rule matches a frame (R304). -/
def ruleMatch (r : ClsRule) (port : Nat) (p : Parsed) : Bool :=
  bitAt r.ports port
    && (r.vlanAny || (if r.untagged then !p.vlan else p.vlan && decide (p.tci % 4096 = r.vid)))
    && prefixMatch r p.ipver p.dst
    && (decide (r.portLo = 0 ∧ r.portHi = 0xFFFF) || match p.udp with
      | some (_, d) => decide (r.portLo ≤ d ∧ d ≤ r.portHi)
      | none => false)
    && bitAt r.classes p.cls

/-- The first rule that matches, with its index (R183). -/
def classify? (s : State) (port : Nat) (p : Parsed) : Option (Nat × ClsRule) :=
  ((List.range 256).zip s.cfg.seams.rules).find? fun e => ruleMatch e.2 port p

/-- A seam's regulators. -/
def seamSt (s : State) (n : Nat) : SeamSt := sget {} s.seam n

/-- Changes a seam's regulators. -/
def seamMod (n : Nat) (f : SeamSt → SeamSt) (s : State) : State := { s with seam := smod {} s.seam n f }

/-- Base address of a seam's registers in PF BAR0. -/
def seamBase (n : Nat) : Nat := 0x02000000 + 0x100000 * n

/-- What a policer's fill lacks of B at the present instant, in frames scaled by one second (R305). -/
def polLack (s : State) (seam i : Nat) (c : PolCfg) : Nat :=
  let st := sget (0, 0) (seamSt s seam).pol i
  st.1 - c.rate * (nowFu s - st.2)

/-- Judges a frame of class `cls` by a seam's policers: passes, or the policer that drops it (R305). [DESIGN CHOICE, log 46] -/
def police (seam cls : Nat) (s : State) : Option Nat × State :=
  match ((List.range 4).zip (seamRec s seam).policers).find? fun e => e.2.en && bitAt e.2.classes cls with
  | none => (none, s)
  | some (i, c) =>
    let lack := polLack s seam i c
    if lack + oneSec ≤ c.burst * oneSec then
      (none, seamMod seam (fun x => { x with pol := sput (0, 0) x.pol i (lack + oneSec, nowFu s) }) s)
    else (some i, seamMod seam (fun x => { x with pol := sput (0, 0) x.pol i (lack, nowFu s) }) s)

/-! ### Receive (R176 to R183) -/

/-- Whether a port's receive gate has room for a frame: 32 frames or 16 KiB (R14), in which the frame's 32-byte descriptor
counts. [DESIGN CHOICE, log 39] -/
def gateRoom (s : State) (p n : Nat) : Bool :=
  let g := (portSt s p).gate
  decide (g.length < 32) && decide (sumNat (g.map fun x => 32 + x.bytes.length) + 32 + n ≤ 16384)

/-- A frame that the classifier has given to seam `seam` by rule `rule`. -/
def frameToGate (p : Nat) (f : List Nat) (tRx : Nat) (inv : Bool) (q : Parsed) (rule seam : Nat) (s : State) : State :=
  match police seam q.cls s with
  | (some i, u) => rfBump (seamBase seam + 0x1C + 0x10 * i) 31 0 1 u
  | (none, u) =>
    match homeOf u p seam with
    | none => rfBump (portBase p + 0x38) 31 16 1 u
    | some h =>
      match boundGal u h p with
      | none => rfBump (0x01800024 + 0x40000 * h) 15 0 1 u
      | some g =>
        if gateRoom u p f.length then
          let r : RxFrame := { gal := g, desc := descriptor q f tRx p seam rule inv, bytes := f }
          rfBump (seamBase seam + 0x60) 31 0 1 (portMod p (fun x => { x with gate := x.gate ++ [r] }) u)
        else wbrEvent 0x13 p 1 (rfBump (portBase p + 0x38) 15 0 1 u)

/-- The index in its word of the bit that follows the SFD (R177): its place in the raw stream, counted from the lock. -/
def wordIndex (speed fec : Nat) (x : WordTag) : Nat := (x.lock + rawBit speed fec x.block) % Config.wordBits

/-- The instant at which a frame's timestamp bit crossed the ball (R177): the Lode time of the word's tag, less the
device's own path to it, and the bit's index in the word in unit intervals. -/
def ballTime (s : State) (n speed fec : Nat) (x : WordTag) : Nat :=
  nowFu s - x.age - Config.ballTag n + wordIndex speed fec x * x.ui / 65536

/-- The device tick of an instant of Lode time that is past. -/
def tickBefore (s : State) (t : Nat) : Nat := s.clk.ticks - ceilDiv ((nowFu s - t) * 100) 4194304

/-- A flag that last changed at tick `c` and is now `b`, as it was at tick `t`. -/
def flagAt (b : Bool) (c t : Nat) : Bool := if t < c then !b else b

/-- TS_INVALID (R182): COARSE was 1 at the timestamp point, or TS_VALID 0. -/
def tsInvalid (s : State) (p t : Nat) : Bool :=
  let k := tickBefore s t
  flagAt s.lode.coarse s.lode.coarseTick k || !flagAt (portSt s p).tsValid (portSt s p).tsTick k

/-- FRAME_RECEIVED (R176 to R183): the frame's bytes without the FCS, as the PCS has decoded them, whether its FCS is
good, whether an uncorrectable codeword hit it, and where its timestamp bit lies in the raw stream. [DESIGN CHOICE, log 37] -/
def execFrameReceived (p : PortNo) (f : List Nat) (fcsOk uncorr : Bool) (tag : WordTag) (s0 : State) : Res :=
  let s := if portEn s0 p && decide ((portCfg s0 p).fec ≠ 0) then rfBump (portBase p + 0x40) 31 0 tag.corrected s0 else s0
  if !portEn s p || !(portSt s p).link || portDown s p then .next s
  else
    let b := portBase p
    if uncorr || !fcsOk then
      let t := if uncorr then rfBump (b + 0x34) 31 24 1 s else s
      .next (if fcsOk then t else rfBump (b + 0x34) 11 0 1 t)
    else
      let s1 := rfBump (b + 0x30) 31 0 1 s
      if f.length < 60 ∨ 9212 < f.length then .next (rfBump (b + 0x34) 19 12 1 s1)
      else if beAt f 12 2 = 0x8808 then .next (rfBump (b + 0x34) 23 20 1 s1)
      else
        let q := parse f
        let s2 := if q.trunc then rfBump (b + 0x3C) 15 0 1 s1 else s1
        let tRx := ballTime s p (portCfg s p).speed (portCfg s p).fec tag - portCin s p
        let inv := tsInvalid s p tRx
        match classify? s p q with
        | none => .next (rfBump (b + 0x38) 31 16 1 s2)
        | some (i, r) => .next (frameToGate p f (lodeBits tRx) inv q i r.seam s2)

/-! ### Launch buffer (R187 to R192) -/

/-- A frame still has beats to come. -/
def txMoving (x : TxFrame) : Bool := decide (x.arrived < x.bytes.length)

/-- Launch instant of an emitted frame's reservation, if it is still held. -/
def txLaunch (q : PortSt) (x : TxFrame) : Option Nat :=
  match x.resv with
  | some id => (q.resvs.find? fun r => r.id == id).map (·.launch)
  | none => none

/-- The better of two transmit transfers (R273): earliest deadline, then frames without one in EMIT order. -/
def txBetter (q : PortSt) (a b : TxFrame) : Bool :=
  match txLaunch q a, txLaunch q b with
  | some x, some y => decide (x < y) || (x == y && decide (a.pick / 32 ≤ b.pick / 32))
  | some _, none => true
  | none, some _ => false
  | none, none => decide (a.seq ≤ b.seq)

/-- The transfer that a transmit gate grants next (R273); the calls of one pick keep their order (R263). -/
def nextTx (q : PortSt) : Option TxFrame :=
  let first := fun (x : TxFrame) => !(q.tx.any fun y => y.pick == x.pick && decide (y.seq < x.seq) && txMoving y)
  (q.tx.filter fun x => txMoving x && first x).foldl (fun b x => match b with
    | some y => if txBetter q y x then some y else some x
    | none => some x) none

/-- Bytes that a port's launch buffer holds. [DESIGN CHOICE, log 46] -/
def bufferHeld (q : PortSt) : Nat := sumNat ((q.tx.filter fun x => !x.dead && !x.vacant).map (·.arrived))

/-- Changes the emitted frame with number `seq`. -/
def txMod (p seq : Nat) (f : TxFrame → TxFrame) (s : State) : State :=
  portMod p (fun q => { q with tx := q.tx.map fun x => if x.seq = seq then f x else x }) s

/-- LAUNCH_BUFFER_ARRIVAL (R192): the next transfer of at most 512 bytes reaches the launch buffer. It needs its gallery's
outbound channel, which it holds for the command alone (R259). [DESIGN CHOICE, log 45] -/
def execLaunchBufferArrival (p : PortNo) (pathOk : Bool) (s : State) : Res :=
  let q := portSt s p
  match nextTx q with
  | none => .next s
  | some x =>
    let k := min 512 (x.bytes.length - x.arrived)
    if sget 0 s.shaft.chan (x.pick / 32) ≠ 0 then .next s
    else if x.vacant then
      let t := txMod p x.seq (fun y => { y with vacant := false, dead := true, arrived := y.arrived + k }) s
      .next (raiseTheta p (irqRaise (16 + p) 3 (rfBump (portBase p + 0x5C) 31 16 1 t)))
    else if x.dead then .next (txMod p x.seq (fun y => { y with arrived := y.arrived + k }) s)
    else if 16384 < bufferHeld q + k then .next s
    else .next (txMod p x.seq (fun y => { y with arrived := y.arrived + k, pathOk := y.pathOk && pathOk }) s)

/-- The insertions of an emitted frame (R187), in their order. -/
def insertAll (l : Option Nat) (x : TxFrame) : List Nat :=
  let f1 := match l, x.oneStep with
    | some i, some (a, b) => insertPtp (lodeBits i) a b x.bytes
    | _, _ => x.bytes
  let f2 := match x.ip4 with
    | some o => insertIp4 o f1
    | none => f1
  match x.udp with
  | some o => insertUdp o f2
  | none => f2

/-- Changes a reservation of a port. -/
def resvMod (p id : Nat) (f : Resv → Resv) (s : State) : State :=
  portMod p (fun q => { q with resvs := q.resvs.map fun r => if r.id = id then f r else r }) s

/-- Removes a reservation of a port. -/
def resvDrop (p id : Nat) (s : State) : State :=
  portMod p (fun q => { q with resvs := q.resvs.filter fun r => r.id != id }) s

/-- What happens at the deadline of reservation `r` (R187, R189). -/
def deadline (p : Nat) (r : Resv) (s : State) : State :=
  match (portSt s p).tx.find? fun x => x.resv == some r.id with
  | none => countVacant p 1 (resvDrop p r.id s)
  | some x =>
    if x.arrived = 0 then
      countVacant p 1 (resvDrop p r.id (markTx p r.id (fun y => { y with vacant := true }) s))
    else if txMoving x then
      let out := x.bytes.take x.arrived ++ List.replicate (r.n - x.arrived) 0
      let t := resvMod p r.id (fun y => { y with fate := .underrun, out := out }) s
      let u := markTx p r.id (fun y => { y with dead := true }) t
      raiseTheta p (irqRaise (16 + p) 2 (wbrEvent 0x15 p 1 (rfBump (portBase p + 0x58) 15 0 1 u)))
    else if !x.pathOk then
      let t := resvMod p r.id (fun y => { y with fate := .badPath, out := x.bytes }) s
      portPathFault p (rfBump (portBase p + 0x5C) 15 0 1 (markTx p r.id (fun y => { y with dead := true }) t))
    else
      let t := resvMod p r.id (fun y => { y with fate := .ready, out := insertAll (some r.launch) x }) s
      markTx p r.id (fun y => { y with dead := true }) t

/-- LAUNCH_DEADLINE (R187): D = L - 250 ns of the next reservation whose deadline has not come. -/
def execLaunchDeadline (p : PortNo) (s : State) : Res :=
  match (portSt s p).resvs.find? fun r => r.fate == .pending with
  | none => .next s
  | some r => .next (pruneTx p (deadline p r (elapseTo (tickOfLode (r.launch - fuOfNs 250) s) s)))

/-- The complement of an FCS (R190). -/
def complement32 (n : Nat) : Nat := 0xFFFFFFFF - n % 2 ^ 32

/-- TIMED_LAUNCH (R188, R190): the epoch and the hold are sampled, and the frame starts normally or as an abort
frame, which is counted, where it was not at its deadline, at its end (R189). [DESIGN CHOICE, log 37] -/
def execTimedLaunch (p : PortNo) (s : State) : Res :=
  match (portSt s p).resvs.find? fun r => r.fate != .sent with
  | none => .next s
  | some r =>
    if r.fate = .pending then .next s
    else
      let u := resvMod p r.id (fun y => { y with fate := .sent }) (elapseTo (tickOfLode r.launch s) s)
      let moved := r.epoch != u.tally.epoch || u.tally.hold
      let bad := r.fate != .ready || moved
      let line : LineFrame := {
        bytes := r.out, fcs := if bad then complement32 (crc32 r.out) else crc32 r.out
        launch := some r.launch, ball := r.launch - portCout u p, aborted := bad, counted := r.fate != .ready
        tick := tickOfLode r.launch s, moved := moved, busy := true }
      .next (portMod p (fun q => { q with line := line }) u)

/-- The frame on a port's line ends with a complemented FCS. -/
def lineBad (p : Nat) (s : State) : State :=
  portMod p (fun q => { q with line := { q.line with
    fcs := if q.line.aborted then q.line.fcs else complement32 q.line.fcs, aborted := true } }) s

/-- FRAME_TX_END (R189, R192): the last bit is sent; the path check and FCS_pre are confirmed, or the complemented
FCS is sent. An epoch increment or a hold in the tick of L, also one after the sampling, is a difference (R188). -/
def execFrameTxEnd (p : PortNo) (confirmed : Bool) (s : State) : Res :=
  let l := (portSt s p).line
  if !l.busy then .next s
  else
    let t := portMod p (fun q => { q with line := { q.line with busy := false } }) s
    if l.counted then .next t
    else if !confirmed then .next (portPathFault p (rfBump (portBase p + 0x5C) 15 0 1 (lineBad p t)))
    else if l.launch.isSome && (l.moved || s.tally.moves.contains l.tick) then
      .next (irqRaise (16 + p) 4 (wbrEvent 0x16 p 1 (rfBump (portBase p + 0x58) 31 16 1 (lineBad p t))))
    else if l.launch.isSome then .next (wbrEvent 0x14 p 1 (rfBump (portBase p + 0x50) 31 0 1 t))
    else .next (rfBump (portBase p + 0x54) 31 0 1 t)

/-- A best-effort frame of `n` bytes that starts now, inter-packet gap included, overlaps no reservation: it starts in
none and ends before the next begins (R186). -/
def gapFor (s : State) (p n : Nat) : Bool :=
  let bt := byteTime25 (portCfg s p).speed
  (heldResvs s p).all fun r =>
    !spansOverlap (25 * nowFu s, 25 * nowFu s + (8 + n + 16) * bt) (resvSpan bt r.launch r.n)

/-- BEST_EFFORT_SEND (R186): the first best-effort frame in EMIT order starts where the gap allows. [DESIGN CHOICE, log 40] -/
def execBestEffortSend (p : PortNo) (s : State) : Res :=
  let q := portSt s p
  match q.tx.find? fun x => x.resv.isNone && !x.dead with
  | none => .next s
  | some x =>
    if !q.link || q.line.busy || txMoving x || !gapFor s p x.bytes.length then .next s
    else
      let out := insertAll none x
      let bad := !x.pathOk
      let line : LineFrame := {
        bytes := out, fcs := if bad then complement32 (crc32 out) else crc32 out, aborted := bad, counted := bad, busy := true }
      let t := pruneTx p (portMod p (fun y => { y with line := line }) (txMod p x.seq (fun y => { y with dead := true }) s))
      .next (if bad then portPathFault p (rfBump (portBase p + 0x5C) 15 0 1 t) else t)

/-! ### The other commands -/

/-- LINK_TRAINING_DONE (R175): auto-negotiation and training end on a KR or CR port; `ok` says whether the partner
offered the configured ability and training succeeded. -/
def execLinkTrainingDone (p : PortNo) (ok : Bool) (s : State) : Res :=
  if !portEn s p || portDown s p || decide ((portCfg s p).pmd = 2) then .next s
  else if ok then .next (portMod p (fun q => { q with train := 2 }) s)
  else
    .next (faultEvent (112 + p) 3 0 (irqRaise (16 + p) 7 (linkDown p (portMod p (fun q => { q with train := 3 }) s))))

/-- PORT_LINK_UP (R175, R196): a KR or CR port comes up only after training. -/
def execPortLinkUp (p : PortNo) (s : State) : Res :=
  if !portEn s p || portDown s p || (portSt s p).link
      || (decide ((portCfg s p).pmd ≠ 2) && decide ((portSt s p).train ≠ 2)) then .next s
  else
    .next (irqRaise (16 + p) 0 (portMod p (fun q => { q with
      link := true, blockLock := true, amLock := usesAm s p, fecLock := decide ((portCfg s p).fec ≠ 0)
      tsValid := true, tsTick := s.clk.ticks }) s))

/-- PORT_LINK_DOWN (R196). -/
def execPortLinkDown (p : PortNo) (s : State) : Res := .next (linkDown p s)

/-- The status bits of PORT_PCS_FAULT: 0 hi-BER, 1 local fault, 2 remote fault, 3 block lock, 4 alignment-marker
lock, 5 FEC lock, 6 the timestamp unit's lock; `now` is the present tick. -/
def pcsSet (now kind : Nat) (bad : Bool) (q : PortSt) : PortSt :=
  if kind = 0 then { q with hiBer := bad }
  else if kind = 1 then { q with localFault := bad }
  else if kind = 2 then { q with remoteFault := bad }
  else if kind = 3 then { q with blockLock := !bad }
  else if kind = 4 then { q with amLock := !bad }
  else if kind = 5 then { q with fecLock := !bad }
  else if kind = 6 then { q with tsValid := !bad, tsTick := if q.tsValid = bad then now else q.tsTick }
  else q

/-- PORT_PCS_FAULT (R194): hi-BER raises its interrupt and Note. -/
def execPortPcsFault (p : PortNo) (kind : Nat) (s : State) : Res :=
  if !portEn s p then .next s
  else
    let t := portMod p (pcsSet s.clk.ticks kind true) s
    .next (if kind = 0 ∧ (portSt s p).hiBer = false then faultEvent (112 + p) 4 0 (irqRaise (16 + p) 8 t) else t)

/-- PCS_FAULT_CLEAR (R194): a lock comes back only with what the port's line mode has. -/
def execPcsFaultClear (p : PortNo) (kind : Nat) (s : State) : Res :=
  if !portEn s p ∨ (kind = 4 ∧ usesAm s p = false) ∨ (kind = 5 ∧ (portCfg s p).fec = 0) then .next s
  else .next (portMod p (pcsSet s.clk.ticks kind false) s)

/-- THETA_DECAY (R191): a quiet period ends. -/
def execThetaDecay (p : PortNo) (s : State) : Res :=
  if theta s p = thetaMin s p then .next s
  else
    let t := elapseTo ((portSt s p).thetaTick + s.cfg.lim.qThetaMs * ticksPerMs) s
    .next (portMod p (fun q => { q with thetaNs := max (theta s p - 250) (thetaMin s p), thetaTick := t.clk.ticks }) t)

/-- PORT_ADMIN_DOWN (R197). -/
def execPortAdminDown (p : PortNo) (s : State) : Res := .next (portGoDown p s)

/-- PORT_ADMIN_UP (R197). -/
def execPortAdminUp (p : PortNo) (s : State) : Res := .next (portGoUp p s)

end Sys2Proof.Machine
end

