-- ==== Sys2Proof/Machine/Gallery.lean ====
section
/-! DEFINITION. Galleries and dispatch: the packet store, the queues, fencing, readmission, bank swaps and the step rate (R220 to R235, R257). -/

namespace Sys2Proof.Machine

/-- Base address of a gallery's registers. -/
def galBase (g : Nat) : Nat := 0x01800000 + 0x40000 * g

/-- A pick's state. -/
def pickSt (s : State) (p : Nat) : PickSt := sget {} s.picks p

/-- Changes a pick's state. -/
def pickMod (p : Nat) (f : PickSt → PickSt) (s : State) : State := { s with picks := smod {} s.picks p f }

/-- The global numbers of a gallery's picks (R10). -/
def picksOf (g : Nat) : List Nat := (List.range 32).map fun l => 32 * g + l

/-- The seam of a gallery. -/
def galSeam (s : State) (g : Nat) : Nat := (galCfg s g).seam

/-- A bank of a gallery. -/
def bankOf (s : State) (g b : Nat) : Bank := sget {} (galSt s g).banks b

/-- The bank that a gallery has active. -/
def activeBank (s : State) (g : Nat) : Bank := bankOf s g (galSt s g).active

/-- Dispatch entry of a class in a record: an address, or 0xFFFF for DROP (R223). -/
def dispatchEntry (b : Bank) (cls : Nat) : Nat := (b.prog.dispatch[cls]?).getD 0xFFFF

/-- The watchdog limit W in steps (R227, R255). -/
def watchdogSteps (b : Bank) : Nat :=
  if b.prog.watchdog = 0 then 8192 else if b.prog.watchdog = 0xFFFF then 65536 else b.prog.watchdog

/-- Tick period of a stream in us; 0 off (R226, R255). -/
def tickPeriod (b : Bank) (k : Nat) : Nat :=
  let x := (b.prog.periods[k]?).getD 0
  if x = 0 ∧ k = 0 then 1000 else x

/-- A gallery runs items in ACTIVE and, while its tokens rise, in RAMPING (R232). -/
def galRuns (s : State) (g : Nat) : Bool := (galSt s g).phase == .active || (galSt s g).phase == .ramping

/-! ### The packet store (R221) -/

/-- The queued items of a gallery. -/
def queued (s : State) (g : Nat) : List Item :=
  let q := galSt s g
  q.qTick.map (·.2) ++ q.qCtrl ++ q.qInbox ++ q.qRx

/-- The items that the picks of a gallery hold, and those whose last beat has not left. -/
def assigned (s : State) (g : Nat) : List Item :=
  (picksOf g).filterMap (fun p => (pickSt s p).item) ++ (picksOf g).filterMap fun p => (pickSt s p).leaving

/-- Cells in use in a frame area, as (first, count): items, and the reservations of INBOX calls (R265). -/
def cellRuns (s : State) (g : Nat) : List (Nat × Nat) :=
  ((queued s g ++ assigned s g).map fun i => (i.cell, i.cells))
    ++ (s.shaft.reqs.filter fun r => r.kind == .inbox && r.dest == g && !r.denied).map fun r =>
      (r.cell, ceilDiv r.data.length 128)

/-- Free frame-area cells. -/
def freeCells (s : State) (g : Nat) : Nat := 1536 - sumNat ((cellRuns s g).map (·.2))

/-- Whether `n` cells from `c`, wrapping, meet no run in use. -/
def runFree (runs : List (Nat × Nat)) (c n : Nat) : Bool :=
  runs.all fun r => r.2 == 0 || (decide (r.2 ≤ (c + 1536 - r.1) % 1536) && decide (n ≤ (r.1 + 1536 - c) % 1536))

/-- Where `n` consecutive cells are free: the first such place from the cell after the last one placed. [DESIGN CHOICE, log 39] -/
def findCells (s : State) (g n : Nat) : Option Nat :=
  let runs := cellRuns s g
  let from' := (galSt s g).nextCell
  let cand := (from' :: runs.map fun r => (r.1 + r.2) % 1536).filter fun c => runFree runs c n
  cand.foldl (fun b c => match b with
    | some x => if (c + 1536 - from') % 1536 < (x + 1536 - from') % 1536 then some c else some x
    | none => some c) none

/-- A received frame as a work item of class Q_RX in the cells from `c`. -/
def rxItem (r : RxFrame) (c : Nat) : Item :=
  { cls := r.desc[16]?.getD 0, hdr := overlay r.desc 24 (beBytes 4 (128 * c)), frame := r.bytes
    cell := c, cells := ceilDiv r.bytes.length 128 }

/-- RX_STORE_ADMIT (R221, R222, R192): the frame at the head of a receive gate enters the packet store. `pathOk`
says whether its path check verifies. [DESIGN CHOICE, log 39] -/
def execRxStoreAdmit (p : PortNo) (pathOk : Bool) (s : State) : Res :=
  match (portSt s p).gate with
  | [] => .next s
  | r :: rest =>
    let pop := portMod p (fun q => { q with gate := rest }) s
    if !galRuns s r.gal then .next (rfBump (galBase r.gal + 0x24) 15 0 1 pop)
    else if !(pathOk && r.pathOk) then
      .next (portPathFault p (rfBump (portBase p + 0x3C) 31 16 1 pop))
    else if 256 ≤ (galSt s r.gal).qRx.length then .next s
    else
      match findCells s r.gal (ceilDiv r.bytes.length 128) with
      | none => .next s
      | some c =>
        let i := rxItem r c
        .next (galMod r.gal (fun q => { q with qRx := q.qRx ++ [i], nextCell := (c + i.cells) % 1536 }) pop)

/-! ### Assignment and end of items (R223 to R225, R237) -/

/-- A pick that holds an item. -/
def busyPick (p : PickSt) : Bool := p.item.isSome

/-- Picks of a gallery that hold items of classes 0xB to 0xD (R224). -/
def ctrlPicks (s : State) (g : Nat) : Nat :=
  ((picksOf g).filter fun p => match (pickSt s p).item with
    | some i => decide (0xB ≤ i.cls)
    | none => false).length

/-- Counts an item discarded by a DROP entry: GAL_CNT0.NO_PROGRAM, in units of 2^16. -/
def countNoProgram (g : Nat) (s : State) : State :=
  let n := (galSt s g).noProgram + 1
  if 65536 ≤ n then rfBump (galBase g + 0x20) 31 24 1 (galMod g (fun q => { q with noProgram := 0 }) s)
  else galMod g (fun q => { q with noProgram := n }) s

/-- Takes the head item of the first non-empty queue (R224). -/
def pullItem (s : State) (g : Nat) : Option (Item × State) :=
  let q := galSt s g
  let rx := match q.qRx with
    | i :: r => some (i, galMod g (fun x => { x with qRx := r }) s)
    | [] => none
  if 8 ≤ ctrlPicks s g then rx
  else
    match q.qTick, q.qCtrl, q.qInbox with
    | (_, i) :: r, _, _ => some (i, galMod g (fun x => { x with qTick := r }) s)
    | [], i :: r, _ => some (i, galMod g (fun x => { x with qCtrl := r }) s)
    | [], [], i :: r => some (i, galMod g (fun x => { x with qInbox := r }) s)
    | [], [], [] => rx

/-- The pick's state at the assignment of an item (R237, R399). [DEDUCED, log 42] -/
def startPick (b entry : Nat) (i : Item) (p : PickSt) : PickSt :=
  { p with
    phase := .running, item := some i, pc := entry, bank := b, steps := 0
    ptrs := [(0, { addr := 0, tag := 1 })], fl := 1, z := false, c := false, n := false
    stack := [], resv := [], crc := [], tainted := [], blocked := false }

/-- Gives items to pick `p` until one is not discarded (R223). -/
def assignLoop (p g : Nat) : Nat → State → State
  | 0, s => s
  | fuel + 1, s =>
    match pullItem s g with
    | none => s
    | some (i, u) =>
      let e := dispatchEntry (activeBank s g) i.cls
      if e = 0xFFFF then assignLoop p g fuel (countNoProgram g u)
      else wbrEvent 1 g 1 (pickMod p (startPick (galSt s g).active e i) u)

/-- WORK_ITEM_ASSIGN (R224): an idle pick pulls. -/
def execWorkItemAssign (pick : PickNo) (s : State) : Res :=
  let g := pick.val / 32
  let p := pickSt s pick
  if p.phase = .idle ∧ p.releasing = false ∧ galRuns s g = true then
    .next (assignLoop pick g (queued s g).length s)
  else .next s

/-- Requests of a pick whose results are to be discarded. -/
def staleReqs (p : Nat) (s : State) : State :=
  { s with shaft := { s.shaft with reqs := s.shaft.reqs.map fun r => if r.pick = p then { r with stale := true } else r } }

/-- Ungranted requests of a pick are withdrawn; granted ones complete (R227). -/
def withdrawReqs (p : Nat) (s : State) : State :=
  staleReqs p { s with shaft := { s.shaft with
    reqs := s.shaft.reqs.filter fun r => !(r.pick == p && r.sent == 0 && r.lane.isNone
      && !(s.shaft.holders.any fun h => match h.2 with
        | some x => x.req == r.id
        | none => false)) } }

/-- The item of a pick ends with its steps counted as RETIRED or WASTED (R225, R404); `leave` keeps its cells until
the last beat of its final EMIT has left. -/
def endItem (p : Nat) (retired leave : Bool) (s : State) : State :=
  let u := pickMod p (fun x => { x with
    item := none, leaving := if leave then x.item else x.leaving
    phase := if x.phase = .fenced then .fenced else .idle
    retired := if retired then x.retired + x.steps else x.retired
    wasted := if retired then x.wasted else x.wasted + x.steps
    steps := 0, resv := [], blocked := false, releasing := x.releasing || leave }) s
  staleReqs p u

/-- Counts an ended item of a pick. -/
def countEnded (p : Nat) (s : State) : State := rfBump (galBase (p / 32) + 0x1004 + 0x10 * (p % 32)) 31 0 1 s

/-- A program error of a pick (R254). -/
def programError (p : Nat) (s : State) : State := wbrEvent 2 p 1 s

/-- Changes the Survey state. -/
def survMod (f : SurvSt → SurvSt) (s : State) : State := { s with surv := f s.surv }

/-- The PROGRAMS records of an image, with their sequence numbers. -/
def programRecs (i : Image) : List (Nat × ProgramsSec) :=
  i.records.filterMap fun r => match r.payload with
    | .programsP p => some (r.seq, p)
    | _ => none

/-- Settles the RESULT of the running command. -/
def settle (res : Nat) (s : State) : State :=
  { s with mbx := { s.mbx with running := s.mbx.running.map fun r => { r with result := some res } } }

/-! ### The swaps of an amendment (R233, R234, R356) -/

/-- The PROGRAMS record of an image for a gallery, as a bank. -/
def programFor (i : Image) (g : Nat) : Option Bank :=
  ((programRecs i).find? fun r => bitAt r.2.mask g).map fun r => { prog := r.2, seq := r.1 }

/-- The amendment is complete: completion of SURVEY_AMEND, and APPLIED. -/
def amendDone (s : State) : State :=
  let u := rfBump 0x00000480 15 0 1 (survMod (fun v => { v with check := none, swaps := [] }) s)
  if s.mbx.running.map (·.code) = some 0x11 then settle 0 u else u

/-- Takes up the swaps that are left, in ascending number: a fenced gallery only takes the record into the verified
image, one in readmission is waited for, and one that loads or swaps is waited for. [DESIGN CHOICE, log 60] -/
def swapNext : Nat → State → State
  | 0, s => s
  | n + 1, s =>
    match s.surv.check with
    | none => s
    | some c =>
      if !c.applied then s else
      match s.surv.swaps with
      | [] => amendDone s
      | g :: l =>
        let q := galSt s g
        let rest := survMod (fun v => { v with swaps := l }) s
        match programFor c.image g with
        | none => swapNext n rest
        | some b =>
          if q.phase = .off then swapNext n rest
          else if q.phase = .fenced then
            swapNext n (galMod g (fun x => { x with verified := some b }) rest)
          else if q.phase = .active then
            if q.verified = some b ∧ q.loading.isNone ∧ q.swapTick.isNone then swapNext n rest
            else if q.loading.isSome || q.swapTick.isSome then s
            else galMod g (fun x => { x with loading := some b, loadTick := s.clk.ticks }) s
          else s

/-- Takes up the swaps of an amendment. -/
def swapsGo (s : State) : State := swapNext 17 s

/-! ### Fencing (R227 to R231) -/

/-- An item dropped by a fence or for an uncorrectable error: GAL_CNT0.FENCE_DROPS. -/
def countDrops (g n : Nat) (s : State) : State := rfBump (galBase g + 0x20) 23 0 n s

/-- The emitted frames of a pick that have not begun to cross its transmit gate are withdrawn. -/
def withdrawTx (p : Nat) (s : State) : State :=
  { s with prt := { s.prt with ports := smap {} (fun q => { q with
      tx := q.tx.filter fun x => !(x.pick == p && x.arrived == 0 && !x.final) }) s.prt.ports } }

/-- Stops a pick: its item is dropped (R227, R228). -/
def stopPick (p cause : Nat) (s : State) : State :=
  let had := (pickSt s p).item.isSome
  let u := pickMod p (fun x => { x with
      phase := .fenced, fenceCause := cause, testing := false, reload := false
      fencedFrom := if x.phase = .fenced then x.fencedFrom else s.clk.ticks })
    (endItem p false false (withdrawTx p (withdrawReqs p s)))
  if had then countDrops (p / 32) 1 u else u

/-- Follows the alternates from gallery `g` to the first that is ACTIVE (R231). -/
def findAlternate (s : State) (g0 : Nat) : Nat → Nat → Option Nat
  | 0, _ => none
  | fuel + 1, g =>
    let a := (galCfg s g).alt
    if a = g0 then none
    else if (galSt s a).phase = .active then some a
    else findAlternate s g0 fuel a

/-- Fences a gallery (R230). A swap that it ends lets the amendment go on with the next gallery (R234). -/
def fenceGallery (g cause : Nat) (s : State) : State :=
  let n := (queued s g).length
  let u := (picksOf g).foldl (fun t p => stopPick p 5 t) s
  let day := 86400 * ticksPerSec
  let v := galMod g (fun q => { q with
    phase := .fenced, fenceCause := cause
    fences := s.clk.ticks :: q.fences.filter fun t => decide (s.clk.ticks < t + day)
    moving := true, unbound := false, boundTo := none, returned := [], fenceTick := s.clk.ticks
    qTick := [], qCtrl := [], qInbox := [], qRx := [], swapTick := none, rampStep := 0
    -- a bank that was loading is of a record in force: it is reloaded at readmission (R234)
    verified := if q.loading.isSome then q.loading else q.verified, loading := none })
    (countDrops g n u)
  -- pairs that this gallery had received move on as well
  let w := { v with gals := smap {} (fun q =>
    if q.boundTo = some g then { q with boundTo := none, moving := true } else q) v.gals }
  swapsGo (irqRaise (96 + galSeam s g) 0 (faultEvent (194 + g) 2 0 w))

/-- Fences a pick (R227, R229), and its gallery when more than 8 of its picks are fenced (R230). -/
def fencePick (p cause : Nat) (s : State) : State :=
  let g := p / 32
  let hour := 3600 * ticksPerSec
  let u := pickMod p (fun x =>
    let f := s.clk.ticks :: x.fences.filter fun t => decide (s.clk.ticks < t + hour)
    { x with fences := f, held := x.held || decide (3 ≤ f.length) }) (stopPick p cause s)
  let v := faultEvent (194 + g) 1 p (irqRaise (80 + g) 0 u)
  if 8 < ((picksOf g).filter fun q => (pickSt v q).phase == .fenced).length then fenceGallery g 3 v else v

/-- WATCHDOG_EXPIRY (R227). -/
def execWatchdogExpiry (pick : PickNo) (s : State) : Res :=
  let p := pickSt s pick
  if p.item.isSome ∧ watchdogSteps (bankOf s (pick.val / 32) p.bank) ≤ p.steps then .next (fencePick pick 1 s)
  else .next s

/-- PICK_PARITY_ERROR (R227): registers, field pointers or local store. -/
def execPickParityError (pick : PickNo) (s : State) : Res :=
  .next (if (pickSt s pick).phase = .fenced then s else fencePick pick 2 s)

/-- Whether an item lies in a cell. -/
def inCell (i : Item) (c : Nat) : Bool := decide ((c + 1536 - i.cell) % 1536 < i.cells)

/-- STORE_UNCORRECTABLE (R221, R230): an uncorrectable error in cell `cell` of a gallery's packet store. `cell` = 2,048 + c is
an error of one bit in cell c, which is corrected and counted. [DESIGN CHOICE, log 39] -/
def execStoreUncorrectable (g : GalNo) (cell : Nat) (s : State) : Res :=
  if 2048 ≤ cell then .next (rfBump (galBase g + 0x28) 15 0 1 s) else
  let q := galSt s g
  let errs := s.clk.ticks :: q.storeErrs.filter fun t => decide (s.clk.ticks < t + ticksPerSec)
  let u := irqRaise (80 + g) 5 (rfBump (galBase g + 0x28) 31 16 1 (galMod g (fun x => { x with storeErrs := errs }) s))
  let v :=
    if 1536 ≤ cell then
      (if (pickSt u (32 * g + (cell - 1536) / 16 % 32)).phase = .fenced then u
        else fencePick (32 * g + (cell - 1536) / 16 % 32) 3 u)
    else
      let inQueue := (queued u g).any fun i => inCell i cell
      let holder := (picksOf g).find? fun p => match (pickSt u p).item with
        | some i => inCell i cell
        | none => false
      if inQueue then
        faultEvent (194 + g) 3 0 (countDrops g 1 (galMod g (fun x => { x with
          qCtrl := x.qCtrl.filter fun i => !inCell i cell
          qInbox := x.qInbox.filter fun i => !inCell i cell
          qRx := x.qRx.filter fun i => !inCell i cell }) u))
      else match holder with
        | some p => faultEvent (194 + g) 3 0 (countDrops g 1 (endItem p false false (withdrawTx p (withdrawReqs p u))))
        | none => u
  .next (if 16 < errs.length ∧ (galSt v g).phase ≠ .off ∧ (galSt v g).phase ≠ .fenced then fenceGallery g 4 v else v)

/-- PICK_SELFTEST (R229): the Foreman starts a fenced pick's self-test; a pick of a fenced gallery has none. -/
def execPickSelftest (pick : PickNo) (s : State) : Res :=
  let p := pickSt s pick
  if p.phase = .fenced ∧ p.fenceCause ≠ 5 then .next (pickMod pick (fun x => { x with testing := true }) s) else .next s

/-- The local-store image written into a pick, with N0 to N15 and the rest of local store at 0 (R257). -/
def loadImage (b : Bank) (p : PickSt) : PickSt :=
  { p with
    regs := [], loc := ((List.range b.prog.image.length).zip b.prog.image).foldl (fun m e => sput 0 m e.1 (e.2 % 16)) [] }

/-- Ticks of the last millisecond that a pick has been fenced by now (R404). -/
def fencedSpan (now : Nat) (p : PickSt) : Nat :=
  min ticksPerMs (p.fencedTicks + if p.phase = .fenced then min ticksPerMs (now - p.fencedFrom) else 0)

/-- Readmits a fenced pick: RESTARTS and PICK_BACK. A PICK_READMIT writes the local-store image (R257). -/
def readmitPick (p : Nat) (s : State) : State :=
  let u := pickMod p (fun x => { (if x.reload then loadImage (activeBank s (p / 32)) x else x) with
    phase := .idle, testing := false, held := false, reload := false, fencedTicks := fencedSpan s.clk.ticks x }) s
  irqRaise (80 + p / 32) 1 (rfBump (galBase (p / 32) + 0x1000 + 0x10 * (p % 32)) 31 16 1 u)

/-- PICK_SELFTEST_DONE (R229): a held pick comes back only by PICK_READMIT. -/
def execPickSelftestDone (pick : PickNo) (pass : Bool) (s : State) : Res :=
  let p := pickSt s pick
  if p.phase = .fenced ∧ p.testing = true then
    if pass ∧ (p.held = false ∨ p.reload = true) then .next (readmitPick pick s)
    else
      let u := pickMod pick (fun x => { x with testing := false, held := true, reload := false }) s
      .next (if pass then u else faultEvent (194 + pick.val / 32) 5 pick u)
  else .next s

/-- GALLERY_FAULT_FENCE (R230): an instruction-memory error (1) or a dispatcher or tick-generator fault (2). -/
def execGalleryFaultFence (g : GalNo) (cause : Nat) (s : State) : Res :=
  if (galSt s g).phase = .off ∨ (galSt s g).phase = .fenced then .next s else .next (fenceGallery g cause s)

/-- Rebinds the pairs of home gallery `h` (R231). -/
def rebind (h : Nat) (s : State) : State :=
  match findAlternate s h 16 h with
  | some a => irqRaise (80 + h) 2 (galMod h (fun q => { q with moving := false, boundTo := some a, unbound := false }) s)
  | none =>
    irqRaise (96 + galSeam s h) 2 (faultEvent (194 + h) 4 (galSeam s h)
      (galMod h (fun q => { q with moving := false, unbound := true }) s))

/-- REBIND_DONE (R231). -/
def execRebindDone (g : GalNo) (s : State) : Res := .next (if (galSt s g).moving then rebind g s else s)

/-! ### Readmission (R232) -/

/-- Starts the readmission of a fenced gallery. -/
def startReadmit (g : Nat) (s : State) : State :=
  if (galSt s g).phase = .fenced then
    galMod g (fun q => { q with phase := .bist, readmitTick := s.clk.ticks, rampStep := 0 }) s
  else s

/-- A gallery may be readmitted by the recovery of its fault class: fewer than three fences within 24 h. -/
def autoReadmit (s : State) (g : Nat) : Bool :=
  (galSt s g).phase == .fenced
    && decide (((galSt s g).fences.filter fun t => decide (s.clk.ticks < t + 86400 * ticksPerSec)).length < 3)

/-- READMIT_BIST_DONE (R232). A gallery that fails is fenced again, and an amendment that waited for it goes on (R234). -/
def execReadmitBistDone (g : GalNo) (pass : Bool) (s : State) : Res :=
  if (galSt s g).phase = .bist then
    .next (if pass then galMod g (fun q => { q with phase := .loading }) s
      else swapsGo (faultEvent (194 + g) 2 0 (galMod g (fun q => { q with phase := .fenced }) s)))
  else .next s

/-- READMIT_LOAD_DONE (R232, R257): the active bank and its table are reloaded from the verified record. A held pick stays
fenced (R229). -/
def execReadmitLoadDone (g : GalNo) (s : State) : Res :=
  if (galSt s g).phase = .loading then
    let b := (galSt s g).verified.getD (activeBank s g)
    let u := galMod g (fun q => { q with phase := .warming, banks := sput {} q.banks q.active b }) s
    .next ((picksOf g).foldl (fun t p => pickMod p (fun x => { loadImage b x with
      phase := if x.held then .fenced else .idle, fenceCause := if x.held then x.fenceCause else 0
      fencedTicks := if x.held then x.fencedTicks else fencedSpan s.clk.ticks x }) t) u)
  else .next s

/-- Undispatched frames of a pair at a gallery. -/
def undispatched (s : State) (g p seam : Nat) : Bool :=
  ((galSt s g).qRx.any fun i => i.hdr[14]?.getD 0 == p && i.hdr[15]?.getD 0 == seam)
    || (portSt s p).gate.any fun r => r.gal == g && r.desc[15]?.getD 0 == seam

/-- PAIR_RETURN (R232): the pair of port `p` and a seam returns to its home gallery at a frame boundary. -/
def execPairReturn (p : PortNo) (seam : SeamNo) (s : State) : Res :=
  match homeOf s p seam with
  | none => .next s
  | some h =>
    let q := galSt s h
    if q.phase = .ramping ∧ q.returned.contains p.val = false
        ∧ undispatched s (q.boundTo.getD 16) p seam = false then
      .next (galMod h (fun x => { x with returned := p.val :: x.returned }) s)
    else .next s

/-- A gallery's readmission is complete (R232). -/
def galActive (g : Nat) (s : State) : State :=
  let u := galMod g (fun q => { q with
    phase := .active, rampStep := 0, boundTo := none, unbound := false, moving := false, returned := [] }) s
  swapsGo (irqRaise (96 + galSeam s g) 1 (irqRaise (80 + g) 3 u))

/-- Every pair of home gallery `g` is at home (R232). -/
def pairsHome (s : State) (g : Nat) : Bool :=
  s.cfg.str.pairs.all fun q => q.home != g || boundGal s g q.port == some g

/-- TOKEN_RAMP_STEP (R232, R274): one of 16 steps, 6.25 ms apart, once every pair has returned; after the last the gallery is
ACTIVE, and an amendment that waited for it goes on (R234). -/
def execTokenRampStep (g : GalNo) (s : State) : Res :=
  if (galSt s g).phase = .ramping ∧ pairsHome s g = true then
    let j := (galSt s g).rampStep + 1
    .next (if 16 ≤ j then galActive g s else galMod g (fun q => { q with rampStep := j }) s)
  else .next s

/-! ### Bank swaps (R233, R234) -/

/-- A pick holds an item of the bank that is not active. -/
def holdsOld (s : State) (g p : Nat) : Bool := (pickSt s p).item.isSome && (pickSt s p).bank != (galSt s g).active

/-- BANK_LOAD_DONE (R233): the inactive bank is loaded, and this is the swap point. -/
def execBankLoadDone (g : GalNo) (s : State) : Res :=
  match (galSt s g).loading with
  | none => .next s
  | some b =>
    .next (galMod g (fun q => { q with
      banks := sput {} q.banks (1 - q.active) b, active := 1 - q.active, loading := none
      verified := some b, swapTick := some s.clk.ticks }) s)

/-- SWAP_DONE (R233): no pick holds an old-bank item. -/
def swapDone (g : Nat) (s : State) : State :=
  if (galSt s g).swapTick.isSome && !((picksOf g).any (holdsOld s g)) then
    irqRaise (80 + g) 4 (galMod g (fun q => { q with swapTick := none }) s)
  else s

/-- SWAP_DEADLINE (R233): 20 ms after the swap point, a pick still on the old bank is fenced. -/
def execSwapDeadline (g : GalNo) (s : State) : Res :=
  match (galSt s g).swapTick with
  | none => .next s
  | some t =>
    let u := elapseTo (t + 20 * ticksPerMs) s
    .next ((picksOf g).foldl (fun v p => if holdsOld v g p then fencePick p 4 v else v) u)

/-! ### Step rate (R235, R404) -/

/-- Adds slots without an item and slots of waiting to a pick (R404). -/
def addSlots (p front back : Nat) (s : State) : State :=
  pickMod p (fun x => { x with front := x.front + front, back := x.back + back }) s

/-- A measured millisecond of `steps` replica steps ends for a pick: its slots of the ticks that it was fenced are FENCED (R404). -/
def endMs (now steps : Nat) (p : PickSt) : PickSt :=
  { p with fencedSlots := p.fencedSlots + steps * fencedSpan now p / ticksPerMs, fencedTicks := 0 }

/-- STEP_RATE_MEASURE (R235): the replica's steps over the last millisecond, and for each pick the slots that it turned
without an item and those in which it waited on helpers; the slots of the time for which a pick was fenced follow the replica (R404). [DESIGN CHOICE, log 47] -/
def execStepRateMeasure (g : GalNo) (steps : Nat) (slots : List (Nat × Nat × Nat)) (s : State) : Res :=
  let u := elapseTo (tickOfLode ((nowFu s / (fuOfNs 1000000) + 1) * fuOfNs 1000000) s) s
  let v := galMod g (fun q => { q with stepRate := (steps / 1000) % 2 ^ 32 }) u
  let w := slots.foldl (fun t e => addSlots (32 * g + e.1 % 32) e.2.1 e.2.2 t) v
  .next ((picksOf g).foldl (fun t p => pickMod p (endMs w.clk.ticks steps) t) w)

end Sys2Proof.Machine
end

