-- ==== Sys2Proof/Machine/Operands.lean ====
section
/-! DEFINITION. What a pick's instruction can name: nibble registers, field pointers, and the four spaces (R237 to R240). -/

namespace Sys2Proof.Machine

/-- Nibble register N. -/
def PickSt.reg (p : PickSt) (d : Nat) : Nat := sget 0 p.regs (d % 16) % 16

/-- Writes a nibble register. -/
def PickSt.setReg (p : PickSt) (d v : Nat) : PickSt := { p with regs := sput 0 p.regs (d % 16) (v % 16) }

/-- Field pointer F. -/
def PickSt.ptr (p : PickSt) (i : Nat) : FieldPtr := sget {} p.ptrs i

/-- Writes a field pointer's address; the tag stays. -/
def PickSt.setAddr (p : PickSt) (i a : Nat) : PickSt :=
  { p with ptrs := sput {} p.ptrs i { p.ptr i with addr := a % 2 ^ 16 } }

/-- Writes a field pointer and its tag. -/
def PickSt.setPtr (p : PickSt) (i a tag : Nat) : PickSt :=
  { p with ptrs := sput {} p.ptrs i { addr := a % 2 ^ 16, tag := tag } }

/-- The bytes of the ITEM space: header, then frame (R239). -/
def itemBytes (i : Item) : List Nat := i.hdr ++ i.frame

/-- Nibbles of the ITEM space (R238). -/
def itemSize (p : PickSt) : Nat :=
  match p.item with
  | some i => 64 + 2 * i.frame.length
  | none => 0

/-- High (even) or low nibble of a byte (R238). -/
def nibOf (b a : Nat) : Nat := if a % 2 = 0 then b / 16 % 16 else b % 16

/-- A byte with one nibble replaced. -/
def setNib (b a v : Nat) : Nat := if a % 2 = 0 then b % 16 + v % 16 * 16 else b / 16 % 16 * 16 + v % 16

/-- A nibble access outside the ITEM space (R238, R254). -/
def PickSt.outside (p : PickSt) (tag a : Nat) : Bool := tag == 1 && decide (itemSize p ≤ a % 2 ^ 16)

/-- Reads a nibble: ITEM beyond its size reads 0, the other spaces wrap (R238). -/
def PickSt.nib (p : PickSt) (tag a : Nat) : Nat :=
  let x := a % 2 ^ 16
  match tag with
  | 0 => sget 0 p.loc (x % 4096) % 16
  | 1 => match p.item with
    | some i => if p.outside tag a then 0 else nibOf (((itemBytes i)[x / 2]?).getD 0) x
    | none => 0
  | 2 => sget 0 p.resp (x % 4096) % 16
  | _ => sget 0 p.result (x % 512) % 16

/-- Writes byte `k` of an item. -/
def Item.setByte (i : Item) (k b : Nat) : Item :=
  if k < 32 then { i with hdr := i.hdr.set k b } else { i with frame := i.frame.set (k - 32) b }

/-- Writes a nibble: ITEM beyond its size and RESULT bytes 128 to 255 discard it (R238, R240). -/
def PickSt.setNib (p : PickSt) (tag a v : Nat) : PickSt :=
  let x := a % 2 ^ 16
  match tag with
  | 0 => { p with loc := sput 0 p.loc (x % 4096) (v % 16) }
  | 1 => match p.item with
    | some i =>
      if p.outside tag a then p
      else { p with item := some (i.setByte (x / 2) (Machine.setNib (((itemBytes i)[x / 2]?).getD 0) x v)) }
    | none => p
  | 2 => { p with resp := sput 0 p.resp (x % 4096) (v % 16) }
  | _ => if x % 512 < 256 then { p with result := sput 0 p.result (x % 512) (v % 16) } else p

/-- Reads a byte at any nibble address: the pair of nibbles from there. -/
def PickSt.byte (p : PickSt) (tag a : Nat) : Nat := p.nib tag a * 16 + p.nib tag (a + 1)

/-- Reads `n` bytes from nibble address `a`. -/
def PickSt.bytes (p : PickSt) (tag a n : Nat) : List Nat := (List.range n).map fun k => p.byte tag (a + 2 * k)

/-- Writes bytes into a nibble map from byte `k` on, as the device does. -/
def pokeBytes (m : Sparse Nat) (k : Nat) : List Nat → Sparse Nat
  | [] => m
  | b :: r => pokeBytes (sput 0 (sput 0 m (2 * k) (b / 16 % 16)) (2 * k + 1) (b % 16)) (k + 1) r

/-- The device's write of helper results into RESULT. -/
def PickSt.pokeResult (p : PickSt) (k : Nat) (l : List Nat) : PickSt := { p with result := pokeBytes p.result k l }

/-- The device's write of crypto output into RESP. -/
def PickSt.pokeResp (p : PickSt) (k : Nat) (l : List Nat) : PickSt := { p with resp := pokeBytes p.resp k l }

/-- Whether a RESULT byte is one that an outstanding helper of the pick will write (R240). -/
def resultPending (s : State) (pick k : Nat) : Bool :=
  s.shaft.reqs.any fun r => r.pick == pick && !r.stale && match r.kind with
    | .get => decide (64 * r.slot ≤ k ∧ k < 64 * r.slot + 64) || decide (k = 200 + r.slot)
    | .crypto => decide (192 ≤ k ∧ k < 200)
    | .inbox => decide (k = 202)
    | .stamp => decide (128 ≤ k ∧ k < 192)
    | .put => false
    | .emit => false

/-- Whether `n` nibbles from `a` hold a byte that an outstanding helper will write. -/
def readWaits (s : State) (pick tag a n : Nat) : Bool :=
  tag == 3 && (List.range n).any fun k => resultPending s pick ((a + k) % 2 ^ 16 % 512 / 2)

/-- Whether any of `n` nibbles from `a` lies outside the ITEM space. [DEDUCED, log 42] -/
def rangeOutside (p : PickSt) (tag a n : Nat) : Bool := (List.range n).any fun k => p.outside tag (a + k)

/-- What an instruction does to a pick: its new state, the steps it takes, and whether it made a program error. -/
structure Did where
  p : PickSt
  steps : Nat := 1
  err : Bool := false

/-- One instruction of a pick (R242): the pick must run an item, the instruction waits while it reads a RESULT byte
that a helper will write (R240), and the program counter has moved past it before it acts. [DESIGN CHOICE, log 41] -/
def runInstr (pick : Nat) (waits : Bool) (f : PickSt → Did) (s : State) : State :=
  let p := pickSt s pick
  if p.phase ≠ .running ∨ waits = true then s
  else
    let d := f { p with pc := p.pc + 1 }
    let u := pickMod pick (fun _ => { d.p with steps := d.p.steps + d.steps }) s
    if d.err then programError pick u else u

end Sys2Proof.Machine
end

