-- ==== Sys2Proof/Machine/Session.lean ====
section
/-! DEFINITION. The session store: SipHash, the directory, records, the session cache and the channel budgets (R277 to R286, R298, R306). -/

namespace Sys2Proof.Machine

/-! ### SipHash-2-4 (R281) -/

/-- Little-endian value of a byte list. -/
def leVal : List Nat → Nat
  | [] => 0
  | b :: r => b % 256 + 256 * leVal r

/-- 64-bit addition. -/
def add64 (a b : Nat) : Nat := (a + b) % 2 ^ 64

/-- 64-bit left rotation. -/
def rotl64 (x n : Nat) : Nat := (x * 2 ^ n % 2 ^ 64) ||| (x / 2 ^ (64 - n))

/-- The four words of SipHash. -/
structure SipV where
  a : Nat
  b : Nat
  c : Nat
  d : Nat

/-- SipRound. -/
def sipRound (v : SipV) : SipV :=
  let a1 := add64 v.a v.b
  let b1 := rotl64 v.b 13 ^^^ a1
  let a2 := rotl64 a1 32
  let c1 := add64 v.c v.d
  let d1 := rotl64 v.d 16 ^^^ c1
  let a3 := add64 a2 d1
  let d2 := rotl64 d1 21 ^^^ a3
  let c2 := add64 c1 b1
  let b2 := rotl64 b1 17 ^^^ c2
  ⟨a3, b2, rotl64 c2 32, d2⟩

/-- One 64-bit message word: two compression rounds. -/
def sipWord (v : SipV) (m : Nat) : SipV :=
  let w := sipRound (sipRound { v with d := v.d ^^^ m })
  { w with a := w.a ^^^ m }

/-- Whole words of a message, then the last word with the length. -/
def sipBody (len : Nat) : Nat → SipV → List Nat → SipV
  | 0, v, l => sipWord v (leVal l + len % 256 * 2 ^ 56)
  | n + 1, v, l => if 8 ≤ l.length then sipBody len n (sipWord v (leVal (l.take 8))) (l.drop 8)
    else sipWord v (leVal l + len % 256 * 2 ^ 56)

/-- SipHash-2-4 of a message under a 128-bit key given as its 16 bytes, most significant first. [PRESUMED, log 6] -/
def sipHash (key : Nat) (msg : List Nat) : Nat :=
  let kb := beBytes 16 key
  let k0 := leVal (kb.take 8)
  let k1 := leVal (kb.drop 8)
  let v0 : SipV := ⟨k0 ^^^ 0x736f6d6570736575, k1 ^^^ 0x646f72616e646f6d, k0 ^^^ 0x6c7967656e657261, k1 ^^^ 0x7465646279746573⟩
  let v := sipBody msg.length (msg.length / 8 + 1) v0 msg
  let w := sipRound (sipRound (sipRound (sipRound { v with c := v.c ^^^ 0xff })))
  w.a ^^^ w.b ^^^ w.c ^^^ w.d

/-! ### The directory (R280 to R283) -/

/-- A directory entry. -/
def dirEnt (s : State) (g : Nat) : DirEntry := sget {} s.sess.dir g

/-- Changes a directory entry. -/
def dirMod (g : Nat) (f : DirEntry → DirEntry) (s : State) : State :=
  { s with sess := { s.sess with dir := smod {} s.sess.dir g f } }

/-- Bucket and tag of a hashed key of a seam (R281): the bucket's first global index, and the tag. -/
def bucketOf (c : SeamRec) (kind : Nat) (key : List Nat) : Nat × Nat :=
  let h := sipHash c.hashKey (kind :: key)
  (c.recBase + 8 * (h / 2 ^ 32 * (c.recCount / 8) / 2 ^ 32), h % 2 ^ 30)

/-- The eight ways of a bucket, as global indices. -/
def ways (b : Nat) : List Nat := (List.range 8).map fun w => b + w

/-- The match of a key: the lowest way with VALID and the tag (R281). -/
def dirMatch (s : State) (b tag : Nat) : Option Nat :=
  (ways b).find? fun g => (dirEnt s g).valid && (dirEnt s g).tag == tag

/-- Length of a key of each kind (R246); none for a refused kind. -/
def keyLen (kind : Nat) : Option Nat :=
  if kind = 0 then some 6 else if kind = 1 then some 18 else if kind = 2 then some 3 else none

/-- The session channels serve: enabled in STRUCTURE. -/
def sessEnabled (s : State) : Bool := s.cfg.str.sessEn

/-- What a session request resolves to (R281): refused, a record, or no record. -/
inductive Resolved where
  | denied
  | entry (g : Nat)
  | none
  deriving DecidableEq, Repr

/-- The record address of a seam's key (R281, R282), without effect on the directory. -/
def resolve (s : State) (seam kind : Nat) (key : List Nat) : Resolved :=
  let c := seamRec s seam
  match keyLen kind with
  | Option.none => .denied
  | some n =>
    if !sessEnabled s || c.recCount == 0 then .denied
    else if kind = 2 then
      let i := beVal (key.take n) % 2 ^ 21
      if c.recCount ≤ i then .denied else .entry (c.recBase + i)
    else
      let b := bucketOf c kind (key.take n)
      match dirMatch s b.1 b.2 with
      | some g => .entry g
      | Option.none => .none

/-! ### Cache and records (R285) -/

/-- A record; an entry whose VALID is clear reads as zero (R280). -/
def recordOf (s : State) (g : Nat) : List Nat :=
  let r := sget [] s.sess.recs g
  if (dirEnt s g).valid then (if r.isEmpty then List.replicate 64 0 else r) else List.replicate 64 0

/-- Stores a record; the zero record is not listed. -/
def storeRecord (g : Nat) (l : List Nat) (s : State) : State :=
  { s with sess := { s.sess with recs := sput [] s.sess.recs g (if l.all (· == 0) then [] else l) } }

/-- Cache slot of a way: bank g mod 4, set, way. [DESIGN CHOICE, log 44] -/
def cacheIx (g w : Nat) : Nat := ((g % 4) * 8192 + g / 4 % 8192) * 16 + w

/-- The cache way that holds a record. -/
def cacheWay (s : State) (g : Nat) : Option Nat :=
  (List.range 16).find? fun w => (sget {} s.sess.cache (cacheIx g w)).line == g + 1

/-- Changes a cache line. -/
def lineMod (ix : Nat) (f : CacheLine → CacheLine) (s : State) : State :=
  { s with sess := { s.sess with cache := smod {} s.sess.cache ix f } }

/-- Drops a record's line without write-back (R285). -/
def dropLine (g : Nat) (s : State) : State :=
  match cacheWay s g with
  | some w => lineMod (cacheIx g w) (fun _ => {}) s
  | none => s

/-- The way of a seam that a new line takes: an empty one, else the lowest with NRU clear; when all are set they
are cleared first. -/
def victimWay (s : State) (mask g : Nat) : Option Nat × State :=
  let l := (List.range 16).filter fun w => bitAt mask w
  let line := fun (t : State) (w : Nat) => (sget {} t.sess.cache (cacheIx g w) : CacheLine)
  match l.find? fun w => (line s w).line == 0 with
  | some w => (some w, s)
  | none =>
    let t := if l.all fun w => (line s w).nru then
        l.foldl (fun u w => lineMod (cacheIx g w) (fun x => { x with nru := false }) u) s
      else s
    (l.find? fun w => !(line t w).nru, t)

/-- A seam's access to a record's line: the state, whether it hit, and the channel accesses that it takes. A write of
a whole line needs no fill. [DESIGN CHOICE, log 44] -/
def touchLine (seam g : Nat) (write : Bool) (s : State) : State × Bool × Nat :=
  match cacheWay s g with
  | some w => (lineMod (cacheIx g w) (fun x => { x with nru := true, dirty := x.dirty || write }) s, true, 0)
  | none =>
    match victimWay s (seamRec s seam).wayMask g with
    | (none, t) => (t, false, if write then 0 else 1)
    | (some w, t) =>
      let old := sget {} t.sess.cache (cacheIx g w)
      let n := (if old.dirty then 1 else 0) + (if write then 0 else 1)
      (lineMod (cacheIx g w) (fun _ => { line := g + 1, dirty := write, nru := true }) t, false, n)

/-! ### Channel budgets (R306) -/

/-- Accesses per second of a channel: 600, 700 or 800 M. -/
def channelRate (s : State) : Nat := 600000000 + 100000000 * s.cfg.str.sessRate

/-- One access in a bucket's scale. -/
def accessUnit : Nat := 256 * 10 ^ 9

/-- What a seam's bucket on a channel lacks of 256 accesses now. -/
def bucketLack (s : State) (seam m : Nat) : Nat :=
  let b := sget (0, 0) s.sess.bucket (16 * m + seam)
  b.1 - (seamRec s seam).beta * channelRate s * (nsOfTicks s.clk.ticks - b.2)

/-- What a channel's session gate holds now: its channel serves the accesses in it at the channel's rate. -/
def gateLevel (s : State) (m : Nat) : Nat :=
  let b := sget (0, 0) s.sess.gate m
  b.1 - 256 * channelRate s * (nsOfTicks s.clk.ticks - b.2)

/-- What a channel's session gate of 128 requests lacks of room for `n` accesses (R14). [DESIGN CHOICE, log 44] -/
def gateShort (s : State) (m n : Nat) : Nat := gateLevel s m + n * accessUnit - 128 * accessUnit

/-- A seam's bucket on a channel holds less than one access (R306). -/
def bucketEmpty (s : State) (seam m : Nat) : Bool := decide (255 * accessUnit < bucketLack s seam m)

/-- One access of a seam, when its bucket holds one and the session gate has room for it. -/
def takeOne (seam m : Nat) (s : State) : Option State :=
  if bucketEmpty s seam m = true ∨ 0 < gateShort s m 1 then none
  else
    let t := { s with sess := { s.sess with
      bucket := sput (0, 0) s.sess.bucket (16 * m + seam) (bucketLack s seam m + accessUnit, nsOfTicks s.clk.ticks)
      gate := sput (0, 0) s.sess.gate m (gateLevel s m + accessUnit, nsOfTicks s.clk.ticks) } }
    some (wbrEvent 0x12 m 1 (rfBump (seamBase seam + 0x74) 31 0 1 t))

/-- Takes `n` accesses one after another until one has to wait: how many wait, and the state. -/
def takeAccess (seam m : Nat) : Nat → State → Nat × State
  | 0, s => (0, s)
  | n + 1, s => match takeOne seam m s with
    | none => (n + 1, s)
    | some t => takeAccess seam m n t

/-- An access that finds its seam's bucket below 1 is counted under WAITS (R306). -/
def countWait (seam m : Nat) (s : State) : State :=
  if bucketEmpty s seam m then rfBump (seamBase seam + 0x78) 15 0 1 s else s

/-- The tick at which a waiting access of a seam goes on. -/
def accessTick (s : State) (seam m : Nat) : Nat :=
  let rate := (seamRec s seam).beta * channelRate s
  let wait := if rate = 0 then 0 else ceilDiv (bucketLack s seam m - 255 * accessUnit) rate
  s.clk.ticks + ticksOfNs (max wait (ceilDiv (gateShort s m 1) (256 * channelRate s)))

/-- One access of a seam with its wait; `counted` says that the wait is counted already. -/
def awaitOne (seam m : Nat) (counted : Bool) (s : State) : State :=
  match takeOne seam m s with
  | some t => t
  | none =>
    let u := elapseTo (accessTick s seam m) (if counted then s else countWait seam m s)
    (takeOne seam m u).getD u

/-- `n` accesses of a seam with their waits. -/
def awaitAccess (seam m : Nat) : Nat → State → State
  | 0, s => s
  | n + 1, s => awaitAccess seam m n (awaitOne seam m false s)

/-- A request whose accesses wait in the queue of a seam and a channel. -/
def waitsAt (seam m : Nat) (r : ShReq) : Bool :=
  r.budgetWait && r.seam == seam && (match r.addr with
    | some a => decide (a % 4 = m)
    | none => false)

/-- The requests that wait in the queue of a seam and a channel, in the order in which they joined it (R306). -/
def waiters (s : State) (seam m : Nat) : List ShReq :=
  (s.shaft.reqs.filter (waitsAt seam m)).foldr (fun r l =>
    l.takeWhile (fun x => decide (x.waitNo < r.waitNo)) ++ r :: l.dropWhile (fun x => decide (x.waitNo < r.waitNo))) []

/-- The place at the end of the queues for channel accesses. -/
def nextWait (s : State) : Nat := s.shaft.reqs.foldl (fun m r => if r.budgetWait then max m (r.waitNo + 1) else m) 0

/-! ### Requests at resolution (R282, R283) -/

/-- Base address of a seam's session registers. -/
def sessSeamBase (n : Nat) : Nat := 0x01C10100 + 0x10 * n

/-- A GET at resolution: a match of kind 0x0 or 0x1 sets NRU. -/
def resolveGet (seam kind : Nat) (key : List Nat) (s : State) : Resolved × State :=
  match resolve s seam kind key with
  | .entry g =>
    if !(dirEnt s g).valid then (.none, s)
    else (.entry g, if kind = 2 then s else dirMod g (fun e => { e with nru := true }) s)
  | r => (r, s)

/-- Clears VALID of a record and drops its line. -/
def clearRecord (g : Nat) (s : State) : State := dropLine g (dirMod g (fun e => { e with valid := false }) s)

/-- The way that a new key takes in its bucket (R283): a way with VALID clear, or under EVICT the lowest with NRU
clear. -/
def newWay (s : State) (c : SeamRec) (b : Nat) : Option (Nat × Bool) × State :=
  match (ways b).find? fun g => !(dirEnt s g).valid with
  | some g => (some (g, false), s)
  | none =>
    if c.keep then (none, s)
    else
      let t := if (ways b).all fun g => (dirEnt s g).nru then
          (ways b).foldl (fun u g => dirMod g (fun e => { e with nru := false }) u) s
        else s
      (((ways b).find? fun g => !(dirEnt t g).nru).map fun g => (g, true), t)

/-- What a PUT resolves to: refused (a program error), nothing to write, or the record to write. -/
inductive PutResolved where
  | refused
  | done
  | write (g : Nat)
  deriving DecidableEq, Repr

/-- A PUT at resolution (R283): the directory is updated now, the record when its turn comes (R262). -/
def resolvePut (seam kind : Nat) (key data : List Nat) (s : State) : PutResolved × State :=
  let c := seamRec s seam
  let zero := data.all (· == 0)
  match resolve s seam kind key with
  | .denied => (.refused, s)
  | .entry g =>
    if zero then (if (dirEnt s g).valid then (.write g, clearRecord g s) else (.done, s))
    else if kind = 2 then
      (.write g, dirMod g (fun e => if e.valid then e else { e with valid := true, tag := 0 }) s)
    else (.write g, dirMod g (fun e => { e with nru := true }) s)
  | .none =>
    if zero then (.done, s)
    else
      let b := bucketOf c kind (key.take ((keyLen kind).getD 0))
      match newWay s c b.1 with
      | (none, t) => (.refused, rfBump (sessSeamBase seam + 0xC) 15 0 1 t)
      | (some (g, evicted), t) =>
        let u := dirMod g (fun _ => { valid := true, nru := true, tag := b.2 }) (if evicted then dropLine g t else t)
        (.write g, if evicted then rfBump (sessSeamBase seam + 0xC) 31 16 1 u else u)

/-- The home gallery of the pair that a pick serves: of its frame's port, or of its tick stream (R231, R232). -/
def pickHome (s : State) (pick : Nat) : Nat :=
  let g := pick / 32
  match (pickSt s pick).item with
  | some i =>
    if i.cls = 0xC then (if i.stream < 4 then g else i.stream / 4 - 1)
    else if i.cls < 0xB then (homeOf s (beAt i.hdr 14 1) (galSeam s g)).getD g
    else g
  | none => g

/-- Keeps the recent-session log of a gallery, newest first, at most 4,096 entries for the pairs of each home gallery
(R232). -/
def logSession (g home rec : Nat) (s : State) : State :=
  galMod g (fun q =>
    let l := q.sessLog.filter (· != (home, rec))
    { q with sessLog := (((home, rec) :: l).filter (·.1 == home)).take 4096 ++ l.filter (·.1 != home) }) s

/-! ### Access to a line -/

/-- Base address of a gallery's Shaft registers. -/
def shaftGal (g : Nat) : Nat := 0x01C01000 + 0x100 * g

/-- What a record's cache line or memory holds, whatever its directory entry says. -/
def rawRecord (s : State) (g : Nat) : List Nat :=
  let r := sget [] s.sess.recs g
  if r.isEmpty then List.replicate 64 0 else r

/-- The accesses of a seam that wait for a channel go on before a later one. -/
def flushWaiting (seam m : Nat) (s : State) : State :=
  (waiters s seam m).foldl (fun t r =>
    let u := awaitAccess seam m (r.need - 1) (awaitOne seam m true t)
    { u with shaft := { u.shaft with
      reqs := u.shaft.reqs.map fun x => if x.id = r.id then { x with budgetWait := false, need := 0 } else x } }) s

/-- An access to a record's line that the device itself makes for a seam, with the waits of its channel accesses (R14, R285, R306). -/
def directLine (seam g : Nat) (write : Bool) (s : State) : Bool × State :=
  let x := touchLine seam g write s
  (x.2.1, if x.2.2 = 0 then x.1 else awaitAccess seam (g % 4) x.2.2 (flushWaiting seam (g % 4) x.1))

/-! ### The commands -/

/-- An uncorrectable error in record `g`: VALID cleared, counted, Minor fault of a source (R284). -/
def recordError (src g : Nat) (s : State) : State :=
  faultEvent src 1 0 (irqRaise 10 0 (rfBump (0x01C10010 + 4 * (g % 4)) 31 24 1 (storeRecord g [] (clearRecord g s))))

/-- An uncorrectable directory entry is treated as VALID clear, rewritten as zero and counted (R284). -/
def dirError (g : Nat) (s : State) : State :=
  faultEvent 236 1 0 (irqRaise 10 0 (rfBump 0x01C10020 31 16 1 (dropLine g (dirMod g (fun _ => {}) s))))

/-- The directory entries that the lookup of a key reads (R281): the ways of its bucket, or the entry of its index. -/
def lookupSet (s : State) (seam kind : Nat) (key : List Nat) : List Nat :=
  let c := seamRec s seam
  match keyLen kind with
  | none => []
  | some n =>
    if !sessEnabled s || c.recCount == 0 then []
    else if kind = 2 then
      (if beVal (key.take n) % 2 ^ 21 < c.recCount then [c.recBase + beVal (key.take n) % 2 ^ 21] else [])
    else ways (bucketOf c kind (key.take n)).1

/-- The uncorrectable directory entries `bad` that the lookup of a key meets (R284). -/
def lookupErrors (seam kind : Nat) (key bad : List Nat) (s : State) : State :=
  (bad.filter fun g => (lookupSet s seam kind key).contains g).foldl (fun t g => dirError g t) s

/-- What SECDED finds when record `g` is read (R284). -/
def readError (e : ReadErr) (g : Nat) (s : State) : State :=
  match e.val with
  | 0 => s
  | 1 => rfBump (0x01C10010 + 4 * (g % 4)) 23 0 1 s
  | 2 => rfBump 0x01C10020 15 0 1 s
  | 3 => recordError (228 + g % 4) g s
  | 4 => recordError (232 + g % 4) g s
  | _ => dirError g s

/-- CHANNEL_TRAINING_DONE (R278). -/
def execChannelTrainingDone (m : ChanNo) (ok : Bool) (s : State) : Res :=
  if !(s.surv.structureApplied && s.cfg.str.sessEn) then .next s
  else if ok then
    .next { s with sess := { s.sess with
      trained := if bitAt s.sess.trained m then s.sess.trained else s.sess.trained + 2 ^ m.val } }
  else .next (faultEvent (228 + m) 2 0 (irqRaise 10 1 s))

/-- PATROL_SCRUB (R279, R284): the pass over a channel that comes once every 24 h, with the words corrected, the records
found uncorrectable, and the directory entries corrected and found uncorrectable. -/
def execPatrolScrub (m : ChanNo) (corr : Nat) (bad : List Nat) (dirCorr : Nat) (dirBad : List Nat) (s : State) : Res :=
  let t := elapseTo (sget 0 s.sess.scrubTick m + 86400 * ticksPerSec) s
  let u := rfBump (0x01C10010 + 4 * m.val) 23 0 corr (rfBump 0x01C10020 15 0 dirCorr { t with sess := { t.sess with
    scrubTick := sput 0 t.sess.scrubTick m t.clk.ticks } })
  let v := (bad.filter fun g => decide (g % 4 = m.val) && (dirEnt u g).valid).foldl
    (fun t g => recordError (228 + g % 4) g t) u
  .next (dirBad.foldl (fun t g => dirError g t) v)

/-- DDR_REFRESH (R279): it changes no state that the manual names. -/
def execDdrRefresh (_m : ChanNo) (s : State) : Res := .next s

/-- DDR_ACCESS_RELEASE (R14, R306): the first access of a seam that waits for a channel goes on, once the bucket holds an
access and the session gate has room; the line's next access then takes its turn. -/
def execDdrAccessRelease (m : ChanNo) (seam : SeamNo) (s : State) : Res :=
  match (waiters s seam m).head? with
  | none => .next s
  | some r =>
    let u := elapseTo (accessTick s seam m) s
    let x := takeAccess seam m r.need u
    if x.1 = r.need ∧ 0 < r.need then .next s
    else
      let v := if x.1 = 0 then x.2 else countWait seam m x.2
      .next { v with shaft := { v.shaft with
        reqs := v.shaft.reqs.map fun y => if y.id = r.id then { y with budgetWait := decide (0 < x.1), need := x.1 } else y } }

/-- Takes the records of a log into the session cache, newest first; the line fills are charged to the seam's budget and
wait for it (R232, R306). -/
def prefetch (seam : Nat) (log : List Nat) (s : State) : State := log.foldl (fun t g => (directLine seam g false t).2) s

/-- READMIT_WARM_DONE (R232): the alternate hands over its recent-session log for the moved pairs, and the records in it
are in the cache. -/
def execReadmitWarmDone (g : GalNo) (s : State) : Res :=
  if (galSt s g).phase = .warming then
    let a := (galSt s g).boundTo.getD g
    let log := ((galSt s a).sessLog.filter (·.1 == g.val)).take 4096
    let u := galMod a (fun q => { q with sessLog := q.sessLog.filter (·.1 != g.val) }) s
    .next (prefetch (galSeam s g) (log.map (·.2))
      (galMod g (fun q => { q with phase := .ramping, sessLog := log, rampStep := 0 }) u))
  else .next s

/-- Life-cycle erasure of the session store (R298). -/
def eraseSessions (s : State) : State :=
  { s with sess := { s.sess with dir := [], recs := [], cache := [] } }

end Sys2Proof.Machine
end

