-- ==== Sys2Proof/Machine/Shaft.lean ====
section
/-! DEFINITION. The Shaft: requests, ordering, arbitration inside a gallery, the lottery, quotas and settings (R258 to R275). -/

namespace Sys2Proof.Machine

/-! ### Requests -/

/-- The request with number `id`. -/
def reqOf (s : State) (id : Nat) : Option ShReq := s.shaft.reqs.find? fun r => r.id == id

/-- Changes a request. -/
def reqMod (id : Nat) (f : ShReq → ShReq) (s : State) : State :=
  { s with shaft := { s.shaft with reqs := s.shaft.reqs.map fun r => if r.id = id then f r else r } }

/-- Removes a request: it is no longer outstanding. -/
def reqDrop (id : Nat) (s : State) : State :=
  { s with shaft := { s.shaft with reqs := s.shaft.reqs.filter fun r => r.id != id } }

/-- Holder of a target. -/
def holderOf (s : State) (t : Nat) : Option Holder := sget none s.shaft.holders t

/-- Sets the holder of a target. -/
def setHolder (t : Nat) (h : Option Holder) (s : State) : State :=
  { s with shaft := { s.shaft with holders := sput none s.shaft.holders t h } }

/-- Target that a gallery's outbound channel serves, plus one. -/
def chanOf (s : State) (g : Nat) : Nat := sget 0 s.shaft.chan g

/-- Sets a gallery's outbound channel. -/
def setChan (g t : Nat) (s : State) : State := { s with shaft := { s.shaft with chan := sput 0 s.shaft.chan g t } }

/-- A group's lottery state: 0 CRYPTO, 1 SESSION, 2 MAGAZINE. -/
def groupSt (s : State) (k : Nat) : GroupSt := sget {} s.shaft.groups k

/-- Changes a group's lottery state. -/
def groupMod (k : Nat) (f : GroupSt → GroupSt) (s : State) : State :=
  { s with shaft := { s.shaft with groups := smod {} s.shaft.groups k f } }

/-- The group of a target (R268). -/
def groupOf (t : Nat) : Nat := if t < 16 then 0 else if t < 20 then 1 else 2

/-! ### Settings (R266, R269, R274) -/

/-- Class in force of a pick. -/
def pickClass (s : State) (p : Nat) : Nat :=
  let l := p % 32
  sget 0x55555555 s.shaft.classNow (2 * (p / 32) + l / 16) / 4 ^ (l % 16) % 4

/-- Tokens of a gallery as committed, in SHAFT_TOKENS's layout. -/
def tokenWord (s : State) (g : Nat) : Nat := sget 0x00101010 s.shaft.tokens g

/-- Tokens in force of a gallery in a group, with the readmission ramp (R274). -/
def tokensOf (s : State) (g k : Nat) : Nat :=
  let x := tokenWord s g / 256 ^ k % 256
  match (galSt s g).phase with
  | .off => x
  | .active => x
  | _ => x * (galSt s g).rampStep / 16

/-- SHAFT_COMMIT (R274): every shadow comes into force. -/
def commitShaft (s : State) : State :=
  let u := { s with shaft := { s.shaft with
    classNow := (List.range 32).foldl (fun m k =>
      sput 0x55555555 m k (rfGet s (shaftGal (k / 2) + 4 * (k % 2)))) s.shaft.classNow
    tokens := (List.range 16).foldl (fun m g => sput 0x00101010 m g (rfGet s (shaftGal g + 8))) s.shaft.tokens } }
  irqRaise 9 0 u

/-- SHAFT_COMMIT: a write of `v`; bit 0 commits. -/
def execShaftCommit (v : Nat) (s : State) : Res := .next (if bitAt v 0 then commitShaft s else s)

/-! ### Quotas (R271) -/

/-- A seam's quota in a group. -/
def quotaOf (s : State) (seam k : Nat) : Nat := ((seamRec s seam).quotas[k]?).getD 0

/-- Beats of a seam among the group's last 4,096. -/
def quotaUse (s : State) (seam k : Nat) : Nat :=
  sumNat (((groupSt s k).window.filter fun e => e.1 == seam).map (·.2))

/-- A seam is over quota in a group. -/
def overQuota (s : State) (seam k : Nat) : Bool := decide (16 * quotaOf s seam k < quotaUse s seam k)

/-- The first 4,096 beats of a window. -/
def trimWindow : Nat → List (Nat × Nat) → List (Nat × Nat)
  | _, [] => []
  | n, (a, b) :: r => if n = 0 then [] else if n ≤ b then [(a, n)] else (a, b) :: trimWindow (n - b) r

/-- Records `n` beats granted to a seam. -/
def pushBeats (k seam n : Nat) (s : State) : State :=
  if n = 0 then s else groupMod k (fun q => { q with window := trimWindow 4096 ((seam, n) :: q.window) }) s

/-! ### Order table (R262) -/

/-- A session request is held back: an earlier-granted one to its record is outstanding, and one of them is a PUT (R262); or a
PUT that was resolved before it is still to be written (R283). -/
def heldBackNow (s : State) (r : ShReq) : Bool :=
  (r.kind == .get || r.kind == .put) && r.addr.isSome && !r.granted
    && s.shaft.reqs.any fun x => x.id != r.id && x.addr == r.addr
      && ((x.granted && (x.kind == .put || (x.kind == .get && r.kind == .put)))
        || (x.kind == .put && decide (x.id < r.id)))

/-- Counts each request when it is first held back. -/
def markHeld (s : State) : State :=
  (s.shaft.reqs.filter fun r => !r.heldBack && heldBackNow s r).foldl (fun t r =>
    rfBump (shaftGal r.gal + 0x14) 15 0 1 (reqMod r.id (fun x => { x with heldBack := true }) t)) s

/-! ### Eligibility (R268) -/

/-- A lane's state. -/
def laneSt (s : State) (c : Nat) : LaneSt := sget {} s.cry.lanes c

/-- Changes a lane's state. -/
def laneMod (c : Nat) (f : LaneSt → LaneSt) (s : State) : State :=
  { s with cry := { s.cry with lanes := smod {} s.cry.lanes c f } }

/-- A lane's entry in SEAMS. -/
def laneCfg (s : State) (c : Nat) : LaneCfg := sget {} s.cfg.seams.lanes c

/-- A lane is in service: not fenced, not under test, and no test waits for it. -/
def laneReady (s : State) (c : Nat) : Bool :=
  let l := laneSt s c
  !l.fenced && !l.testing && !l.testDue

/-- The calls of one pick to one target take effect in issue order (R263): an earlier one to session channel `t` is still to be
accepted. -/
def behindOwn (s : State) (t : Nat) (r : ShReq) : Bool :=
  s.shaft.reqs.any fun x => x.pick == r.pick && decide (x.id < r.id) && (x.kind == .get || x.kind == .put)
    && x.doneTick.isNone && !x.denied && (match x.addr with
      | some a => decide (t = 16 + a % 4)
      | none => false)

/-- Whether a request has a transfer for target `t`, gallery channel apart. `holder` is the request whose binding of
the lane is ended by a revocation. -/
def wants (s : State) (t : Nat) (holder : Option Nat) (r : ShReq) : Bool :=
  !r.denied && r.doneTick.isNone
    && (if t < 16 then
        r.kind == .crypto && r.keyFetched && bitAt r.lanes t && !(laneCfg s t).fixed
          && (match r.lane with
            | some c => c == t
            | none => laneReady s t && ((laneSt s t).bound == 0 || holder == some ((laneSt s t).bound - 1)))
      else if t < 20 then
        (r.kind == .get || r.kind == .put) && !heldBackNow s r && !behindOwn s t r && (match r.addr with
          | some a => decide (t = 16 + a % 4)
          | none => false)
      else r.kind == .crypto && !r.keyFetched)

/-- A transfer, of which `progress` beats have been accepted, that a class-0 winner may revoke at gallery level (R267): a
transfer on its last beat is protected (R272). -/
def revocable (s : State) (t progress : Nat) : Bool :=
  match holderOf s t with
  | some h => !h.isProtected && decide (progress + 1 < h.beats) && (match reqOf s h.req with
    | some r => decide (2 ≤ r.cls) && !r.promoted
    | none => false)
  | none => false

/-- Beats accepted, by gallery, of the transfer that holds its outbound channel. -/
abbrev Progress := List Nat

/-- Beats accepted of the transfer that holds gallery `g`'s channel. -/
def Progress.at' (p : Progress) (g : Nat) : Nat := (p[g]?).getD 0

/-- Whether a gallery's channel lets a request take part (R267). -/
def chanLets (s : State) (progress : Progress) (r : ShReq) : Bool :=
  chanOf s r.gal == 0 || ((r.cls == 0 || r.promoted) && revocable s (chanOf s r.gal - 1) (progress.at' r.gal))

/-- The draw of target `t` falls in the handshake cycle of the draws before it: at the same tick, in ascending target number
(R268). [DESIGN CHOICE, log 45] -/
def sameCycle (s : State) (t : Nat) : Bool :=
  decide (s.shaft.cycleTick = s.clk.ticks) && decide (s.shaft.cycleLast ≤ t)

/-- A gallery has won a target in this cycle. -/
def wonCycle (s : State) (t g : Nat) : Bool := sameCycle s t && s.shaft.cycleWon.contains g

/-- The requests eligible for a target; `progress` gives the beats accepted of each gallery's transfer under way. -/
def eligible (s : State) (t : Nat) (holder : Option Nat) (progress : Progress) (seamOk : Nat → Bool) : List ShReq :=
  s.shaft.reqs.filter fun r =>
    wants s t holder r && chanLets s progress r && seamOk r.seam && galRuns s r.gal && !wonCycle s t r.gal

/-- Notes the winner of a draw for the rest of its cycle. -/
def noteWinner (t g : Nat) (s : State) : State :=
  { s with shaft := { s.shaft with
    cycleWon := g :: (if sameCycle s t then s.shaft.cycleWon else []), cycleTick := s.clk.ticks, cycleLast := t + 1 } }

/-! ### Arbitration inside a gallery (R266) -/

/-- Local pick numbers in round robin from after `last`. -/
def rrDist (last l : Nat) : Nat := (l + 32 - last) % 32

/-- The transfer that round robin gives among `l` after pick `last`. -/
def rrChoose (last : Nat) (l : List ShReq) : Option ShReq :=
  l.foldl (fun b r => match b with
    | some x => if rrDist last (r.pick % 32) < rrDist last (x.pick % 32) then some r else some x
    | none => some r) none

/-- A gallery's choice among its eligible transfers: promoted, then the highest class, then round robin. -/
def chooseReq (s : State) (g : Nat) (l : List ShReq) : Option (ShReq × Nat) :=
  let prom := l.filter (·.promoted)
  let k := if prom.isEmpty then (l.map (·.cls)).foldl min 3 else 0
  let c := if prom.isEmpty then l.filter fun r => r.cls == k else prom
  (rrChoose (sget 0 s.shaft.rrPick (4 * g + k)) c).map fun r => (r, k)

/-- A transfer is passed; after 32 passes it is promoted. -/
def passReq (r : ShReq) (s : State) : State :=
  let u := reqMod r.id (fun x => { x with passes := x.passes + 1 }) s
  if 32 ≤ r.passes + 1 ∧ r.promoted = false then
    irqRaise 9 3 (rfBump (shaftGal r.gal + 0x14) 31 16 1 (reqMod r.id (fun x => { x with promoted := true }) u))
  else u

/-! ### Grants and completions -/

/-- Beats of a request's next transfer to a target (R259). -/
def transferBeats (t : Nat) (r : ShReq) : Nat := if t = 20 then 1 else min 16 (r.beats - r.sent)

/-- Grants a transfer (R268, R272), whose beats count in its group's window (R271). -/
def grantReq (t : Nat) (backstop : Bool) (r : ShReq) (s : State) : State :=
  let h : Holder := { req := r.id, gal := r.gal, seam := r.seam, beats := transferBeats t r
                      isProtected := backstop || r.promoted, backstop := backstop, fetch := decide (t = 20) }
  let u := setChan r.gal (t + 1) (setHolder t (some h) (reqMod r.id (fun x => { x with
    granted := true, lane := if t < 16 then some t else x.lane }) s))
  pushBeats (groupOf t) h.seam h.beats (if t < 16 then laneMod t (fun l => { l with bound := r.id + 1 }) u else u)

/-- A lane's bound operation has sent its last input beat (R268, R292). -/
def unbindLane (c : Nat) (s : State) : State :=
  laneMod c (fun l => { l with bound := 0, testing := l.testing || l.testDue, testDue := false }) s

/-- A session request whose last beat the channel's bank has accepted: its line is touched and its channel accesses
are charged (R285, R306), or wait in the seam's queue for its budget or for the session gate (R14). The zero record has no
line (R285). -/
def sessionAccepted (r : ShReq) (s : State) : State :=
  match r.addr with
  | none => s
  | some a =>
    if r.kind = .put ∧ r.data.all (· == 0) = true then s else
    let x := touchLine r.seam a (r.kind == .put) s
    let u := if r.kind = .get then wbrEvent (if x.2.1 then 4 else 5) r.gal 1 x.1 else x.1
    let behind := u.shaft.reqs.any (waitsAt r.seam (a % 4))
    let v := if behind then (x.2.2, u) else takeAccess r.seam (a % 4) x.2.2 u
    if v.1 = 0 then v.2
    else countWait r.seam (a % 4) (reqMod r.id (fun y => { y with
      budgetWait := true, need := v.1, waitNo := nextWait v.2 }) v.2)

/-- The key that a Magazine slot holds: its first 16 bytes, or all 32 (R295). -/
def magKey (m : MagSlot) : List Nat := (beBytes 32 m.value).take (if m.len32 then 32 else 16)

/-- A Magazine slot. -/
def magSlot (s : State) (i : Nat) : MagSlot := sget {} s.cry.mag i

/-- Usage that a code asks of a Magazine slot (R296): 0 MAC, 1 ENCRYPT. -/
def codeUsage (code : Nat) : Nat :=
  if code = 0x01 ∨ code = 0x02 ∨ code = 0x07 ∨ code = 0x08 ∨ code = 0x10 then 1 else 0

/-- Codes whose key has 32 bytes. -/
def needs32 (code : Nat) : Bool := code == 0x07 || code == 0x08 || code == 0x10 || decide (0x0B ≤ code ∧ code ≤ 0x0E)

/-- R296: a slot that a call of a seam may use for a code. -/
def slotAllowed (s : State) (seam i code : Nat) : Bool :=
  let m := magSlot s i
  m.loaded && !m.device && m.owner == seam && m.bind == 0 && m.usage == codeUsage code && (m.len32 || !needs32 code)

/-- The transfer that holds a target has been accepted whole: the target and the gallery's channel are free. -/
def completeHolder (t : Nat) (s : State) : State :=
  match holderOf s t with
  | none => s
  | some h =>
    -- the call's next transfer starts with no passes (R266)
    let u := reqMod h.req (fun x => { x with passes := 0, promoted := false }) (setChan h.gal 0 (setHolder t none s))
    match reqOf u h.req with
    | none => if t < 16 then unbindLane t u else u
    | some r =>
      if h.fetch then
        -- a slot that no longer serves the call refuses the fetch (R296, R297)
        let m := magSlot u (r.op.slot.getD 4096)
        if slotAllowed u r.seam (r.op.slot.getD 4096) r.op.code then reqMod r.id (fun x => { x with
          keyFetched := true, readyTick := s.clk.ticks, op := { x.op with key := magKey m, label := m.label } }) u
        else reqMod r.id (fun x => { x with denied := true }) u
      else
        let n := r.sent + h.beats
        let v := reqMod r.id (fun x => { x with
          sent := n, doneTick := if r.beats ≤ n then some s.clk.ticks else none }) u
        let w := if t < 16 then wbrEvent 0x11 t h.beats v else v
        if n < r.beats then w
        else if t < 16 then unbindLane t w
        else sessionAccepted r w

/-- Beats discarded by a revocation, and the revocation itself, of a gallery (R272). -/
def countRevoked (g wasted : Nat) (s : State) : State :=
  wbrEvent 0x0A g wasted (wbrEvent 0x0B g 1 (rfBump (shaftGal g + 0x10) 15 0 1 s))

/-- Input beats that a lane has accepted of a transfer that is revoked (R405). -/
def laneBeats (t n : Nat) (s : State) : State := if t < 16 then wbrEvent 0x11 t n s else s

/-- A gallery-level revocation of the holder of target `t` when `progress` beats have been accepted: the beat in flight comes
to its end first, and all of them are discarded (R267, R272). -/
def revokeClass (t progress : Nat) (s : State) : State :=
  match holderOf s t with
  | none => s
  | some h =>
    let u := laneBeats t (progress + 1) (countRevoked h.gal (progress + 1) (setChan h.gal 0 (setHolder t none s)))
    match reqOf u h.req with
    | some r => passReq r u
    | none => u

/-! ### The lottery (R269, R270) -/

/-- One shift of the LFSR of polynomial x^32 + x^22 + x^2 + x + 1. -/
def lfsrShift (x : Nat) : Nat :=
  x * 2 % 2 ^ 32 + (bitAt x 31 ^^ bitAt x 21 ^^ bitAt x 1 ^^ bitAt x 0).toNat

/-- `n` shifts. -/
def lfsrShifts : Nat → Nat → Nat
  | 0, x => x
  | n + 1, x => lfsrShifts n (lfsrShift x)

/-- The non-zero seed that the entropy source gives a group's LFSR at a reset. -/
def lfsrSeed (k n : Nat) : Nat := Config.lfsrSeed k n % (2 ^ 32 - 1) + 1

/-- The next value of a group's LFSR, which State holds as the number of the reset that seeded it and the shifts since. [DESIGN CHOICE, log 45] -/
def lfsrNext (k : Nat) (s : State) : Nat × State :=
  let g := (groupSt s k).lfsr
  (lfsrShifts (g.2 + 32) (lfsrSeed k g.1), groupMod k (fun q => { q with lfsr := (g.1, g.2 + 32) }) s)

/-- The first gallery whose running sum of tokens exceeds `v`. -/
def tokenWinner (v : Nat) : List (Nat × Nat) → Nat → Nat
  | [], last => last
  | (g, k) :: r, _ => if v < k then g else tokenWinner (v - k) r g

/-- The winner of a draw among galleries `e` (ascending), whether by the backstop, and the state after it. -/
def drawWinner (k : Nat) (e : List Nat) (s : State) : Nat × Bool × State :=
  match e.find? fun g => decide (64 ≤ sget 0 (groupSt s k).loss g) with
  | some g => (g, true, s)
  | none =>
    let tk := e.map fun g => (g, tokensOf s g k)
    let total := sumNat (tk.map (·.2))
    if total = 0 then
      let last := (groupSt s k).lastWinner
      (((e.find? fun g => decide (last < g)).getD (e.headD 0)), false, s)
    else
      let x := lfsrNext k s
      (tokenWinner (x.1 % 65536 * total / 65536) tk 0, false, x.2)

/-- A gallery's loss counter in a group rises, saturating at 64 (R270, R405). -/
def lose (k g : Nat) (s : State) : State :=
  wbrEvent (7 + k) g 1 (groupMod k (fun q => { q with loss := sput 0 q.loss g (min 64 (sget 0 q.loss g + 1)) }) s)

/-- Loss counters after a draw: the winner's clears, the others' rise (R270). -/
def settleLosses (k winner : Nat) (e : List Nat) (s : State) : State :=
  e.foldl (fun t g =>
    if g = winner then groupMod k (fun q => { q with loss := sput 0 q.loss g 0, lastWinner := g }) t else lose k g t) s

/-- What a draw `d` among galleries `e` leaves: the loss counters, and the marks of a backstop grant (R270). -/
def settleDraw (k : Nat) (e : List Nat) (d : Nat × Bool × State) : State :=
  let u := settleLosses k d.1 e d.2.2
  if d.2.1 then irqRaise 9 2 (wbrEvent 0x0C d.1 1 (rfBump (shaftGal d.1 + 0x10) 31 16 1 u)) else u

/-- The requests of a gallery that its choice of request `id` passes (R266). -/
def passOthers (mine : List ShReq) (id : Nat) (s : State) : State :=
  (mine.filter fun x => x.id != id).foldl (fun u x => passReq x u) s

/-- The pick of a gallery that a class was granted to last (R266). -/
def notePick (g cls pick : Nat) (s : State) : State :=
  { s with shaft := { s.shaft with rrPick := sput 0 s.shaft.rrPick (4 * g + cls) (pick % 32 + 1) } }

/-- Draws for a free target among the eligible requests `l`; `progress` gives the beats accepted of each gallery's transfer
under way, which a class-0 winner revokes. -/
def drawFor (t : Nat) (progress : Progress) (l : List ShReq) (s : State) : State :=
  let k := groupOf t
  let e := (List.range 16).filter fun g => l.any fun r => r.gal == g
  if e.isEmpty then s
  else
    let d := drawWinner k e s
    let g := d.1
    let mine := l.filter fun r => r.gal == g
    match chooseReq d.2.2 g mine with
    | none => d.2.2
    | some (r, cls) =>
      let u := passOthers mine r.id (settleDraw k e d)
      let v := if chanOf u g = 0 then u else revokeClass (chanOf u g - 1) (progress.at' g) u
      markHeld (grantReq t d.2.1 r (noteWinner t g (notePick g cls r.pick v)))

/-- LOTTERY_DRAW (R269): target `t` frees, and draws. A later transfer of an operation bound to a lane is granted
without a draw (R268). [DESIGN CHOICE, log 45] -/
def execLotteryDraw (t : Fin 21) (progress : Progress) (s : State) : Res :=
  let u := completeHolder t s
  let bound := if t.val < 16 then (laneSt u t).bound else 0
  if bound = 0 then .next (drawFor t progress (eligible u t none progress (fun _ => true)) u)
  else match reqOf u (bound - 1) with
    | some r => .next (if chanOf u r.gal == 0 then grantReq t false r u else u)
    | none => .next (unbindLane t u)

/-- What the quota guard finds on a target: the transfer that holds it, or the operation that a lane between two of its
transfers is bound to. -/
def guarded (s : State) (t : Nat) : Option Holder :=
  match holderOf s t with
  | some h => some h
  | none =>
    if t < 16 ∧ (laneSt s t).bound ≠ 0 then
      (reqOf s ((laneSt s t).bound - 1)).map fun r => { req := r.id, gal := r.gal, seam := r.seam, beats := 0, isProtected := r.promoted }
    else none

/-- QUOTA_REVOKE (R271, R272): the quota guard looks at the holder of target `t`, of whose transfer `progress.1` beats have been
accepted and one more is in flight; `progress.2` gives the beats accepted of each gallery's transfer under way. [DESIGN CHOICE, log 45] -/
def execQuotaRevoke (t : Fin 21) (progress : Nat × Progress) (s : State) : Res :=
  let k := groupOf t
  match guarded s t with
  | none => .next s
  | some h =>
    let waiters := eligible s t (some h.req) progress.2 (fun seam => !overQuota s seam k)
    let mine := waiters.filter fun r => r.id != h.req
    let running := (holderOf s t).isSome
    let sent := if running then progress.1 + 1 else 0
    if overQuota s h.seam k && !h.isProtected && (!running || decide (sent < h.beats)) && !mine.isEmpty then
      let before := if t.val < 16 then (match reqOf s h.req with
        | some r => r.sent
        | none => 0) else 0
      let u := countRevoked h.gal (sent + before) (if running then laneBeats t sent (setChan h.gal 0 (setHolder t none s)) else s)
      let v := lose k h.gal u
      let w := if t.val < 16 then
          unbindLane t (reqMod h.req (fun x => { x with sent := 0, lane := none }) v)
        else v
      .next (drawFor t progress.2 mine (irqRaise 9 1 w))
    else .next s

end Sys2Proof.Machine
end

