-- ==== Sys2Proof/Machine/Crypto.lean ====
section
/-! DEFINITION. The crypto lanes: operations, their checks, results, and the known-answer tests (R287 to R293, R300). The algorithms themselves are standards that the manual names and does not describe. -/

namespace Sys2Proof.Machine

/-! ### Operations (R287, R288) -/

/-- A byte list brought to `n` bytes. -/
def fit (n : Nat) (l : List Nat) : List Nat := ((l ++ List.replicate n 0).take n).map (· % 256)

/-- The bytes of the segments with a role, in segment order. -/
def CryptoOp.role (o : CryptoOp) (r : Nat) : List Nat := ((o.segs.filter fun e => e.1 == r).map (·.2)).flatten

/-- The strings of associated data, in segment order. -/
def CryptoOp.adStrings (o : CryptoOp) : List (List Nat) := (o.segs.filter fun e => e.1 == 0).map (·.2)

/-- Cookies that NTS seal builds (R288). -/
def ntsCookies (lim : Nat) : Nat := (lim - 40) / 108

/-- Bytes presented to a lane: associated data and plaintext or ciphertext, without the tag that AES-SIV open takes; for NTS seal
also each cookie's 4 + 68 bytes and its field of 108 (R218). [DESIGN CHOICE, log 43] -/
def CryptoOp.work (o : CryptoOp) : Nat :=
  let n := (o.role 0).length + (o.role 1).length
  if o.code = 0x08 then n - 16 else if o.code = 0x10 then n + ntsCookies o.outLim * (72 + 108) else n

/-- Bytes of a successful output (R287). -/
def CryptoOp.outLen (o : CryptoOp) : Nat :=
  let pt := (o.role 1).length
  match o.code with
  | 0x01 => pt + 16
  | 0x02 => pt
  | 0x03 => 16
  | 0x05 => 16
  | 0x07 => pt + 16
  | 0x08 => pt - 16
  | 0x09 => 32
  | 0x0A => 48
  | 0x0B => 32
  | 0x0D => 48
  | 0x0F => o.outLim
  | 0x10 => o.outLim
  | _ => 0

/-- Codes that use a key. -/
def needsKey (code : Nat) : Bool := !(code == 0x09 || code == 0x0A || code == 0x0F)

/-- A verify tag segment of an allowed length, and a nonce of the length that the algorithm takes. -/
def segLengthsOk (o : CryptoOp) : Bool :=
  let t := (o.role 3).length
  let n := (o.role 2).length
  match o.code with
  | 0x01 => n == 12
  | 0x02 => n == 12 && t == 16
  | 0x03 => n == 12
  | 0x04 => n == 12 && t == 16
  | 0x06 => t == 16
  | 0x08 => decide (16 ≤ (o.role 1).length) && decide ((o.segs.filter fun e => e.1 == 1).length = 1)
  | 0x0C => t == 16 || t == 32
  | 0x0E => t == 16 || t == 32 || t == 48
  | 0x10 => decide (148 ≤ o.outLim ∧ (o.outLim - 40) % 108 = 0 ∧ ntsCookies o.outLim ≤ 4)
  | _ => true

/-- `n` random bytes of a lane's DRBG. -/
def drawRandom (n : Nat) (s : State) : List Nat × State :=
  let f := takeFree s
  ((List.range n).map fun i => Config.randomByte f.1 i % 256, f.2)

/-- Bytes of an extension field header. -/
def extHeader (type len : Nat) : List Nat := beBytes 2 type ++ beBytes 2 len

/-- A cookie (R213): key ID, nonce, and the sealed body. -/
def cookieBytes (key label slot0 nonce : List Nat) : List Nat :=
  label ++ nonce ++ fit 84 (sivSeal key [label, nonce] ([0x00, 0x0F, 0, 0] ++ slot0))

/-- `n` new cookies in their extension fields, each with a fresh nonce (R288). -/
def ntsFields (key label slot0 : List Nat) : Nat → State → List Nat × State
  | 0, s => ([], s)
  | n + 1, s =>
    let d := drawRandom 16 s
    let r := ntsFields key label slot0 n d.2
    (extHeader 0x0204 108 ++ cookieBytes key label slot0 d.1 ++ r.1, r.2)

/-- NTS seal (R288): the Authenticator and Encrypted Extension Fields field. -/
def ntsSeal (key label slot0 ad : List Nat) (n : Nat) (s : State) : List Nat × State :=
  let c := ntsFields key label slot0 n s
  let d := drawRandom 16 c.2
  let sealed := fit (16 + 108 * n) (sivSeal (slot0.drop 32) [ad, d.1] c.1)
  (extHeader 0x0404 (40 + 108 * n) ++ beBytes 2 16 ++ beBytes 2 (16 + 108 * n) ++ d.1 ++ sealed, d.2)

/-- Runs an operation: its output where it succeeds, or none where an authentication check fails (R287). -/
def runCrypto (label : Nat) (o : CryptoOp) (s : State) : Option (List Nat) × State :=
  let ad := o.role 0
  let pt := o.role 1
  let nonce := o.role 2
  let tag := o.role 3
  let gmac := fit 16 (gcmSeal o.key nonce ad [])
  match o.code with
  | 0x01 => (some (fit (pt.length + 16) (gcmSeal o.key nonce ad pt)), s)
  | 0x02 => ((gcmOpen o.key nonce ad pt tag).map (fit pt.length), s)
  | 0x03 => (some gmac, s)
  | 0x04 => (if gmac = tag then some [] else none, s)
  | 0x05 => (some (fit 16 (aesCmac o.key ad)), s)
  | 0x06 => (if fit 16 (aesCmac o.key ad) = tag then some [] else none, s)
  | 0x07 => (some (fit (pt.length + 16) (sivSeal o.key (o.adStrings ++ [nonce]) pt)), s)
  | 0x08 => ((sivOpen o.key (o.adStrings ++ [nonce]) pt).map (fit (pt.length - 16)), s)
  | 0x09 => (some (fit 32 (Sha.s256.digest pt)), s)
  | 0x0A => (some (fit 48 (Sha.s384.digest pt)), s)
  | 0x0B => (some (fit 32 (Sha.s256.hmac o.key ad)), s)
  | 0x0C => (if (fit 32 (Sha.s256.hmac o.key ad)).take tag.length = tag then some [] else none, s)
  | 0x0D => (some (fit 48 (Sha.s384.hmac o.key ad)), s)
  | 0x0E => (if (fit 48 (Sha.s384.hmac o.key ad)).take tag.length = tag then some [] else none, s)
  | 0x0F =>
    let d := drawRandom o.outLim s
    (some d.1, d.2)
  | _ =>
    let r := ntsSeal o.key (beBytes 4 label) o.slot0 ad (ntsCookies o.outLim) s
    (some r.1, r.2)

/-! ### The operand block and its checks (R247, R289, R296) -/

/-- Bytes of a space. -/
def spaceBytes (p : PickSt) (tag : Nat) : Nat := if tag = 1 then itemSize p / 2 else if tag = 3 then 256 else 2048

/-- The segment whose description starts at byte `k` of a block: role and bytes, or none where it is not allowed. -/
def segOf (p : PickSt) (b : List Nat) (k : Nat) : Option (Nat × List Nat) :=
  let tag := beAt b k 1
  let role := beAt b (k + 1) 1
  let off := beAt b (k + 2) 2
  let len := beAt b (k + 4) 2
  if 3 < tag ∨ 3 < role ∨ 2048 < len ∨ spaceBytes p tag < off + len then none
  else some (role, p.bytes tag (2 * off) len)

/-- The segments of a block, or none where one is not allowed. -/
def segsOf (p : PickSt) (b : List Nat) : Nat → Nat → Option (List (Nat × List Nat))
  | 0, _ => some []
  | n + 1, k => match segOf p b k, segsOf p b n (k + 8) with
    | some x, some r => some (x :: r)
    | _, _ => none

/-- The bytes of a session slot in RESULT. -/
def sessSlot (p : PickSt) (k : Nat) : List Nat := p.bytes 3 (128 * k) 64

/-- Bits of a lane mask that name lanes which are not fenced. -/
def liveLanes (s : State) (mask : Nat) : List Nat := (List.range 16).filter fun c => bitAt mask c && !(laneSt s c).fenced

/-- The lanes that may serve an operation (R290): those of its key's slot, or the seam's default mask. -/
def opLanes (s : State) (seam : Nat) (o : CryptoOp) : Nat :=
  match o.slot with
  | some i => (magSlot s i).lanes
  | none => (seamRec s seam).laneMask

/-- What a CRYPTO operation of a seam keeps to (R289, R292, R296). -/
def opOk (s : State) (seam : Nat) (o : CryptoOp) : Bool :=
  (match o.slot with
    | some i => decide (i < 4096) && slotAllowed s seam i o.code
    | none => true)
    && (o.segs.all fun e => decide (e.2.length ≤ 2048)) && decide (sumNat (o.segs.map fun e => e.2.length) ≤ 4096)
    && segLengthsOk o && decide (o.outLen ≤ o.outLim) && decide (o.outOff + o.outLen ≤ 2048)
    && !(liveLanes s (opLanes s seam o)).isEmpty

/-- A CRYPTO call's operation and lane mask, or none for DENIED (R247, R289, R290, R292, R296). -/
def cryptoCall (s : State) (p : PickSt) (seam : Nat) (b : List Nat) : Option (CryptoOp × Nat) :=
  let code := beAt b 0 1
  let src := beAt b 1 1 % 8
  let nseg := beAt b 1 1 / 16 % 4
  let slot := beAt b 2 2
  match segsOf p b nseg 4 with
  | none => none
  | some segs =>
    let o : CryptoOp := {
      code := code, slot := if needsKey code ∧ src = 0 then some slot else none
      key := if src = 0 then [] else slice (32 * ((src - 1) % 2)) 32 (sessSlot p ((src - 1) / 2))
      segs := segs, slot0 := sessSlot p 0, outOff := beAt b 28 2, outLim := beAt b 30 2 }
    if code = 0 ∨ 0x10 < code ∨ 5 ≤ src ∨ (nseg = 0 ∧ code ≠ 0x0F) ∨ (code = 0x10 ∧ src ≠ 0) ∨ opOk s seam o = false then none
    else some (o, opLanes s seam o)

/-! ### Fixed-slot lanes (R293) -/

/-- Ticks of a beat slot. -/
def slotTicks : Nat := 5

/-- The last beat of an operation of `n` beats on a fixed-slot lane: slots from number `k` on that name the seam. -/
def lastSlot (sched : List Nat) (seam : Nat) : Nat → Nat → Nat → Option Nat
  | 0, _, _ => none
  | fuel + 1, k, n =>
    if (sched[k % 16]?).getD 16 = seam then (if n ≤ 1 then some k else lastSlot sched seam fuel (k + 1) (n - 1))
    else lastSlot sched seam fuel (k + 1) n

/-- The fixed-slot lane of a request and the tick after its last input beat: its slots come after the seam's operation before it,
and after the lane's latest self-test. [DESIGN CHOICE, log 45] -/
def fixedLane (s : State) (r : ShReq) : Option (Nat × Nat) :=
  match (List.range 16).find? fun c => bitAt r.lanes c && (laneCfg s c).fixed && laneReady s c
      && (laneCfg s c).sched.contains r.seam with
  | none => none
  | some c =>
    let from' := max (max r.readyTick (laneSt s c).testEnd) (sget 0 (laneSt s c).ctx r.seam)
    match lastSlot (laneCfg s c).sched r.seam (16 * r.beats + 16) (ceilDiv from' slotTicks) r.beats with
    | some k => some (c, slotTicks * (k + 1))
    | none => none

/-- The operations of a seam that wait for slots of fixed-slot lane `c`. -/
def fixedWaiting (s : State) (c seam : Nat) : List ShReq :=
  s.shaft.reqs.filter fun r => r.kind == .crypto && r.seam == seam && !r.denied && r.keyFetched && r.lane.isNone
    && (fixedLane s r).map (·.1) == some c

/-- The tick from which the next of the operations `l` of a seam may take slots of lane `c`. -/
def fixedFree (s : State) (c seam : Nat) (l : List ShReq) : Nat :=
  max (sget 0 (laneSt s c).ctx seam) (l.foldl (fun m r => min m r.readyTick) ((l.map (·.readyTick)).headD 0))

/-- Gives the next operation of a seam its slots on a fixed-slot lane: the galleries whose operations wait when the lane's context
is free share the slots by the seam's CRYPTO tokens (R266, R269, R270, R293). -/
def fixedGrant (c seam : Nat) (s : State) : State :=
  let l := fixedWaiting s c seam
  let free := fixedFree s c seam l
  let k := l.filter fun r => decide (r.readyTick ≤ free)
  let e := (List.range 16).filter fun g => k.any fun r => r.gal == g
  if e.isEmpty then s
  else
    let d := drawWinner 0 e s
    let mine := k.filter fun r => r.gal == d.1
    match chooseReq d.2.2 d.1 mine with
    | none => s
    | some (r, cls) =>
      match fixedLane s r with
      | none => s
      | some (_, t) =>
        let u := notePick d.1 cls r.pick (passOthers mine r.id (settleDraw 0 e d))
        laneMod c (fun x => { x with ctx := sput 0 x.ctx seam t })
          (reqMod r.id (fun x => { x with lane := some c, sent := x.beats, doneTick := some t }) (wbrEvent 0x11 c r.beats u))

/-- Gives slots until request `id` has its own. -/
def fixedUntil (c seam id : Nat) : Nat → State → State
  | 0, s => s
  | n + 1, s => match reqOf s id with
    | some r => if r.lane.isSome then s else fixedUntil c seam id n (fixedGrant c seam s)
    | none => s

/-- An operation of a seam has begun to send to a fixed-slot lane: its first slot has come. -/
def fixedBegun (s : State) (c seam : Nat) : Bool :=
  let l := fixedWaiting s c seam
  !l.isEmpty && (match lastSlot (laneCfg s c).sched seam 17 (ceilDiv (max (laneSt s c).testEnd (fixedFree s c seam l)) slotTicks) 1 with
    | some k => decide (slotTicks * k ≤ s.clk.ticks)
    | none => false)

/-- Gives their slots to the operations of a seam that have begun by now. -/
def fixedStarted (c seam : Nat) : Nat → State → State
  | 0, s => s
  | n + 1, s => if fixedBegun s c seam then fixedStarted c seam n (fixedGrant c seam s) else s

/-- Gives their slots to every operation that has begun to send to fixed-slot lane `c` (R293). -/
def fixedSettle (c : Nat) (s : State) : State :=
  if !(laneCfg s c).fixed then s
  else (List.range 16).foldl (fun t n => fixedStarted c n t.shaft.reqs.length t) s

/-- The tick at which the operations that have begun on fixed-slot lane `c` have sent their last beats. -/
def fixedEnd (s : State) (c : Nat) : Nat := if (laneCfg s c).fixed then (laneSt s c).ctx.foldl (fun m e => max m e.2) 0 else 0

/-- A lane is bound to an operation (R405): it holds the binding, or sends it slot by slot. -/
def laneBound (s : State) (c : Nat) : Bool :=
  decide ((laneSt s c).bound ≠ 0) || ((laneCfg s c).fixed
    && (decide (s.clk.ticks < fixedEnd s c) || (List.range 16).any fun n => fixedBegun s c n))

/-- An operation of the same seam on the same fixed-slot lane has its last beat before this one's, and no result yet. -/
def fixedBefore (s : State) (c : Nat) (r : ShReq) : Bool :=
  s.shaft.reqs.any fun x => x.id != r.id && x.kind == .crypto && x.seam == r.seam && x.lane == some c
    && (match x.doneTick, r.doneTick with
      | some a, some b => decide (a < b)
      | _, _ => false)

/-! ### Turns (R273) -/

/-- An inbox takes transfers from sending galleries in round robin, starting after the last sender (R273): whether it is the
turn of a request's gallery. -/
def inboxTurn (s : State) (r : ShReq) : Bool :=
  let last := sget 0 s.shaft.rrInbox r.dest
  let dist := fun (g : Nat) => (g + 16 - last) % 16
  s.shaft.reqs.all fun x => x.kind != .inbox || x.dest != r.dest || decide (dist r.gal ≤ dist x.gal)

/-- The gallery to whose port a request's result, or the data of an INBOX call, comes. -/
def resultPort (r : ShReq) : Nat := if r.kind = .inbox then r.dest else r.gal

/-- The target from which it comes, with its number plus one; 0 for what takes no turn: refusals, and the results of fixed-slot
lanes, which come at their own times (R293). -/
def resultFrom (s : State) (r : ShReq) : Nat :=
  if r.denied then 0
  else match r.kind, r.addr, r.lane with
  | .get, some a, _ => 17 + a % 4
  | .crypto, _, some c => if (laneCfg s c).fixed then 0 else c + 1
  | .inbox, _, _ => 23 + r.dest
  | _, _, _ => 0

/-- A transfer from it is ready. -/
def resultReady (s : State) (r : ShReq) : Bool :=
  if r.kind = .inbox then decide (chanOf s r.gal = 0) && inboxTurn s r else r.doneTick.isSome && !r.budgetWait

/-- On a gallery port's inbound direction the targets with a transfer that is ready take turns in round robin (R273): whether
it is this one's turn. -/
def inboundTurn (s : State) (r : ShReq) : Bool :=
  let last := sget 0 s.shaft.rrIn (resultPort r)
  let dist := fun (x : ShReq) => (resultFrom s x + 37 - last) % 38
  s.shaft.reqs.all fun x => resultPort x != resultPort r || resultFrom s x == 0 || !resultReady s x || decide (dist r ≤ dist x)

/-- The target of a transfer has had its turn. -/
def tookTurn (r : ShReq) (s : State) : State :=
  { s with shaft := { s.shaft with rrIn := sput 0 s.shaft.rrIn (resultPort r) (resultFrom s r) } }

/-! ### Results (R248, R291) -/

/-- Lets a pick go on after its blocking helper call. -/
def unblock (p : Nat) (s : State) : State :=
  pickMod p (fun x => { x with blocked := false, phase := if x.phase = .wait then .running else x.phase }) s

/-- Writes the CRYPTO status (R248). -/
def cryptoStatus (p st n : Nat) (s : State) : State :=
  pickMod p (fun x => x.pokeResult 192 ([st, 0] ++ beBytes 2 n ++ [0, 0, 0, 0])) s

/-- Ends a request at its pick: dropped, and the pick goes on where the call was blocking. -/
def landReq (r : ShReq) (s : State) : State := if r.nowait then reqDrop r.id s else unblock r.pick (reqDrop r.id s)

/-- Base address of a lane's registers. -/
def laneBase (c : Nat) : Nat := 0x01D01000 + 0x40 * c

/-- Requests that an operation makes of its lane's DRBG (R287 to R289). -/
def drbgRequests (o : CryptoOp) : Nat := if o.code = 0x0F then 1 else if o.code = 0x10 then ntsCookies o.outLim + 1 else 0

/-- A lane counts an operation that it has run, and the requests of its DRBG. -/
def laneCount (c : Nat) (r : ShReq) (s : State) : State :=
  rfBump (laneBase c + 4) 31 0 1 (laneMod c (fun l => { l with drbg := (l.drbg + drbgRequests r.op) % 2 ^ 20 }) s)

/-- The result of an operation that lane `c` has taken whole. -/
def cryptoLand (c : Nat) (checkOk : Bool) (r : ShReq) (s : State) : State :=
  let u := laneCount c r s
  if !checkOk then
    let v := faultEvent (210 + c) 2 0 (irqRaise 11 2 (rfBump (laneBase c + 8) 31 16 1 u))
    if r.stale then reqDrop r.id v else landReq r (cryptoStatus r.pick 1 0 v)
  else if r.stale then reqDrop r.id u
  else
    match runCrypto r.op.label r.op u with
    | (none, v) => landReq r (cryptoStatus r.pick 1 0 v)
    | (some out, v) =>
      landReq r (cryptoStatus r.pick 0 out.length (pickMod r.pick (fun x => x.pokeResp r.op.outOff out) v))

/-- Transfers in which the result of an operation comes back (R259, R273). -/
def backTransfers (checkOk : Bool) (r : ShReq) (s : State) : Nat :=
  if checkOk then max 1 (ceilDiv ((runCrypto r.op.label r.op s).1.getD []).length 512) else 1

/-- The result of an operation whose input lane `c` has taken whole by tick `t`. Each transfer of it waits for its turn at the
gallery's port, and the last lands it (R273); a fixed-slot lane returns it exactly 400 ns after the input, in the order of the
inputs (R293). -/
def laneResult (c t : Nat) (checkOk : Bool) (r : ShReq) (s : State) : State :=
  if !(laneCfg s c).fixed then
    (if !inboundTurn s r then s
    else if r.back + 1 < backTransfers checkOk r s then reqMod r.id (fun x => { x with back := x.back + 1 }) (tookTurn r s)
    else cryptoLand c checkOk r (tookTurn r s))
  else if fixedBefore s c r then s
  else cryptoLand c checkOk r (elapseTo (t + ticksOfNs 400) s)

/-- CRYPTO_RESULT (R248, R291, R293, R300): `checkOk` says whether the input check verifies. -/
def execCryptoResult (pick : PickNo) (checkOk : Bool) (s : State) : Res :=
  match s.shaft.reqs.find? fun r => r.pick == pick.val && r.kind == .crypto with
  | none => .next s
  | some r =>
    if r.denied then
      let u := elapseTo (r.issueTick + ticksOfNs 500) s
      .next (if r.stale then reqDrop r.id u else landReq r (cryptoStatus pick 0x80 0 u))
    else
      match r.doneTick, r.lane with
      | some t, some c => .next (laneResult c t checkOk r s)
      | _, _ =>
        match (if r.keyFetched then fixedLane s r else none) with
        | none => .next s
        | some (c, _) =>
          let u := fixedUntil c r.seam r.id (fixedWaiting s c r.seam).length s
          match reqOf u r.id with
          | some x => .next (match x.doneTick with
            | some t => laneResult c t checkOk x u
            | none => u)
          | none => .next u

/-! ### Known-answer tests (R292) -/

/-- The next test instant of lane `c` (2^-16 ns) after the present one: k 10 s + c 625 ms. -/
def testInstant (c now : Nat) : Nat :=
  let per := 10 * oneSec
  let ofs := c * fuOfNs 625000000
  if now < ofs then ofs else ((now - ofs) / per + 1) * per + ofs

/-- Operations that wait for a lane's test: their mask holds no other lane in service. -/
def testWaiters (s : State) (c : Nat) : Nat :=
  (s.shaft.reqs.filter fun r => r.kind == .crypto && !r.denied && r.lane.isNone && bitAt r.lanes c
    && (List.range 16).all fun d => !bitAt r.lanes d || d == c || !laneReady s d).length

/-- An operation with lane mask `mask` is issued while the one lane of it in service is under test: its wait is counted
(R292). -/
def testWaitIssue (mask : Nat) (s : State) : State :=
  match (List.range 16).find? fun c => bitAt mask c && ((laneSt s c).testing || (laneSt s c).testDue) && !(laneSt s c).fenced with
  | some c => if (List.range 16).any fun d => bitAt mask d && laneReady s d then s
      else wbrEvent 0x10 c 1 (rfBump (laneBase c + 8) 15 0 1 s)
  | none => s

/-- LANE_SELFTEST (R292): the lane leaves eligibility; a bound operation completes first, on a fixed-slot lane those whose slots
have begun (R293). -/
def execLaneSelftest (c : LaneNo) (s : State) : Res :=
  let at' := elapseTo (tickOfLode (testInstant c (nowFu s)) s) s
  let l := laneSt at' c
  if l.stuck then .next at'
  else
    let begun := fixedSettle c at'
    let u := elapseTo (fixedEnd begun c) begun
    let n := testWaiters u c
    let v := if n = 0 then u else wbrEvent 0x10 c n (rfBump (laneBase c + 8) 15 0 n u)
    .next (laneMod c (fun x => if x.bound = 0 then { x with testing := true } else { x with testDue := true }) v)

/-- Queued operations whose masks hold only fenced lanes are refused (R292). -/
def denyFenced (s : State) : State :=
  let turn := fun (r : ShReq) =>
    if r.kind = .crypto ∧ r.lane = none ∧ (liveLanes s r.lanes).isEmpty = true then { r with denied := true } else r
  { s with shaft := { s.shaft with reqs := s.shaft.reqs.map turn } }

/-- LANE_SELFTEST_DONE (R292). -/
def execLaneSelftestDone (c : LaneNo) (pass : Bool) (s : State) : Res :=
  let l := laneSt s c
  if !l.testing then .next s
  else if pass then
    let back := l.fenced && decide (1 ≤ l.passes) && !l.stuck
    let u := laneMod c (fun x => { x with
      testing := false, testEnd := s.clk.ticks, passes := if x.fenced ∧ back = false then x.passes + 1 else 0
      fenced := x.fenced && !back }) s
    .next (if back then irqRaise 11 1 u else u)
  else
    let f := s.clk.ticks :: l.fails.filter fun t => decide (s.clk.ticks < t + 86400 * ticksPerSec)
    let u := denyFenced <| laneMod c (fun x => { x with
      testing := false, testEnd := s.clk.ticks, fenced := true, passes := 0, fails := f, stuck := x.stuck || decide (3 ≤ f.length) }) s
    .next (faultEvent (210 + c) 1 0 (irqRaise 11 0 u))

end Sys2Proof.Machine
end

