-- ==== Sys2Proof/Machine/Daylight.lean ====
section
/-! DEFINITION. Daylight: the position-hold solution and its consistency checks (R116 to R135). -/

namespace Sys2Proof.Machine

/-- An antenna's state. -/
def antSt (s : State) (a : Nat) : AntSt := sget {} s.dayl.ants a

/-- Changes an antenna's state. -/
def antMod (a : Nat) (f : AntSt → AntSt) (s : State) : State :=
  { s with dayl := { s.dayl with ants := smod {} s.dayl.ants a f } }

/-- What REFERENCES states for an antenna. -/
def antCfg (s : State) (a : Nat) : DaylCfg := (refRec s (6 + a)).dayl

/-- An antenna is in use: REFERENCES has its reference. -/
def antUsed (s : State) (a : Nat) : Bool := (refRec? s (6 + a)).isSome && (antCfg s a).inUse

/-- Base address of the antenna registers. -/
def antCntAddr (a : Nat) : Nat := 0x00800400 + 0x10 * a

/-! ### Samples and signals (R116, R117, R119) -/

/-- A 2-bit sample: bit 0 magnitude, bit 1 sign (R116). -/
def smpValue (x : Nat) : Int := if x % 4 = 0 then 1 else if x % 4 = 1 then 3 else if x % 4 = 2 then -1 else -3

/-- I and Q of a band in a sample of lanes D0 to D7 (R116). -/
def smpIq (band lanes : Nat) : Int × Int := (smpValue (lanes / 2 ^ (4 * band)), smpValue (lanes / 2 ^ (4 * band + 2)))

/-- Magnitude bits set in a band's samples. -/
def magCount (band : Nat) (l : List Nat) : Nat :=
  sumNat (l.map fun x => (decide ((smpIq band x).1.natAbs = 3)).toNat + (decide ((smpIq band x).2.natAbs = 3)).toNat)

/-- Navigation messages (R119). -/
inductive Nav where
  | lnav
  | cnav2
  | cnav
  | inav
  | fnav
  | bcnav1
  | bcnav2
  deriving DecidableEq, Repr

/-- A signal of R119. -/
structure Signal where
  /-- 0 GPS, 1 Galileo, 2 BeiDou, 3 QZSS. -/
  sys : Nat
  band : Nat
  /-- Chip rate in kcps. -/
  rate : Nat
  /-- The tracked component is a pilot. -/
  pilot : Bool
  nav : Nav

/-- The signal of a code (R119). -/
def signalOf (k : Nat) : Signal :=
  match k with
  | 0 => { sys := 0, band := 0, rate := 1023, pilot := false, nav := .lnav }
  | 1 => { sys := 0, band := 0, rate := 1023, pilot := true, nav := .cnav2 }
  | 2 => { sys := 0, band := 1, rate := 10230, pilot := true, nav := .cnav }
  | 3 => { sys := 1, band := 0, rate := 1023, pilot := true, nav := .inav }
  | 4 => { sys := 1, band := 1, rate := 10230, pilot := true, nav := .fnav }
  | 5 => { sys := 2, band := 0, rate := 1023, pilot := true, nav := .bcnav1 }
  | 6 => { sys := 2, band := 1, rate := 10230, pilot := true, nav := .bcnav2 }
  | 7 => { sys := 3, band := 0, rate := 1023, pilot := true, nav := .cnav2 }
  | _ => { sys := 3, band := 1, rate := 10230, pilot := true, nav := .cnav }

/-- The system whose time a satellite's system is treated as: QZSS as GPS. -/
def timeSys (y : Nat) : Nat := if y = 3 then 0 else y

/-- Parameters of a channel (R121): spacing in 1/40 chip, multipath pair, integration of data and pilot in ms, DLL
bandwidth in 0.01 Hz, PLL bandwidth in Hz. -/
def trackOf (c : DaylCfg) (k : Nat) : List Nat :=
  let l := sget [] c.tracking k
  if l.length = 6 then l
  else if (signalOf k).rate = 10230 then [20, 0, 20, 20, 50, 10] else [4, 1, 20, 20, 50, 10]

/-- Code discriminator (R121): double-delta with the multipath pair, otherwise E - L normalised to their sum, 2^-16. [DESIGN CHOICE, log 32] -/
def codeDisc (c : DaylCfg) (k : Nat) (o : ChanObs) : Int :=
  if (trackOf c k)[1]? = some 1 then (o.early - o.late) - roundDiv (o.veryEarly - o.veryLate) 2
  else roundDiv ((o.early - o.late) * 65536) (max (o.early + o.late).natAbs 1)

/-- Nominal carrier of a band in Hz (R116). -/
def bandHz (band : Nat) : Nat := if band = 0 then 1575420000 else 1176450000

/-- Where the carrier of a band lies in the samples, mHz (R117): its IF, moved by the departure of the mixing frequency
that the measured sample clock gives. -/
def carrierCentre (s : State) (a band : Nat) : Int :=
  let b : SmpBand := sget {} s.cfg.str.smp (2 * a + band)
  let y := match (antSt s a).line with
    | some l => l.2
    | none => 0
  let d := roundDiv (81840000000 * y * b.mixNum) (max b.mixDen 1 * 2 ^ 64)
  b.ifKHz * 1000000 + (if b.inverted then d else -d)

/-- Number of a satellite. -/
def satNo (sys sv : Nat) : Nat := 256 * sys + sv

/-! ### The orbit cache and aiding (R122) -/

/-- A satellite's place in the orbit cache. -/
def orbitSt (s : State) (k : Nat) : OrbitSt := sget {} s.dayl.orbit k

/-- A datum decoded at most `secs` seconds ago. -/
def fresh (s : State) (d : Option (Nat × Int)) (secs : Nat) : Bool :=
  match d with
  | some (_, t) => decide (s.clk.ticks ≤ t + secs * ticksPerSec)
  | none => false

/-- An ephemeris is current: in the cache, at most 4 h old, and not awaiting confirmation (R122, R134). [DEDUCED, log 33] -/
def ephCurrent (s : State) (k : Nat) : Bool := fresh s (orbitSt s k).eph 14400 && (orbitSt s k).pending.isNone

/-- The orbit cache holds an ephemeris no older than 4 h. -/
def orbitOk (s : State) : Bool := s.dayl.orbit.any fun e => fresh s e.2.eph 14400

/-- The bound of the Tally now, without a port's term. -/
def tallyNow (s : State) : Nat := boundCode s (nowFu s) 0 0

/-- Aiding level (R122): 2 time-aided, 1 orbit-aided, 0 cold. An ephemeris or almanac of any satellite counts, as it does
for ORBIT_OK. [DESIGN CHOICE, log 32] -/
def aidLevel (s : State) : Nat :=
  if tallyNow s ≤ 160000 then (if orbitOk s then 2 else 0)
  else if s.dayl.orbit.any fun e => fresh s e.2.eph 604800 || fresh s e.2.alm 604800 then 1 else 0

/-- The time that orbits are evaluated at: Lode time, or by the first decoded time-of-week in an orbit-aided or cold
start (R122). -/
def daylTime (s : State) : Nat := if aidLevel s = 2 then nowFu s else ((nowFu s : Int) + s.dayl.tod.getD 0).toNat

/-- Frequency uncertainty of Lode time in 2^-64 (R122). -/
def uFreq (s : State) : Nat :=
  if s.assay.fwOk then yInForce s * 2 ^ 16
  else ceilDiv ((if s.cfg.str.loUnc = 0 then 1000000 else s.cfg.str.loUnc) * 2 ^ 64) (10 ^ 12)

/-- Picoseconds that light takes for `mm` millimetres, rounded up. -/
def lightPs (mm : Nat) : Nat := ceilDiv (mm * 1000000000) 299792458

/-- Half-widths of a search (R122): code in 2^-16 ns, 0 for the full period, and Doppler in Hz. -/
def searchWidths (s : State) (a band : Nat) : Nat × Nat :=
  let d := ceilDiv (bandHz band * uFreq s) (2 ^ 64)
  if aidLevel s = 2 then (tallyNow s * 4096 + fuOfPs (2 * lightPs (antCfg s a).sigmaPos) + fuOfNs 1000, d + 20)
  else if aidLevel s = 1 then (0, d + 200) else (0, d + 5000)

/-! ### Channels (R120, R121) -/

/-- An antenna's position (ECEF, mm). -/
def antPos (s : State) (a : Nat) : Int × Int × Int := ((antCfg s a).posX, (antCfg s a).posY, (antCfg s a).posZ)

/-- A satellite's predicted elevation at an antenna, 0.1 degree, from its ephemeris or else its almanac. -/
def predElev (s : State) (a k : Nat) : Option Int :=
  (((orbitSt s k).eph.or (orbitSt s k).alm).map fun d => Config.satElev d.1 k (antPos s a) (daylTime s))

/-- A signal of a satellite that an antenna should follow, with what orders it (R120). -/
structure Want where
  rank : Nat
  elev : Int
  ant : Nat
  signal : Nat
  sv : Nat

/-- The order of assignment (R120): the pivot's system first, then GPS, Galileo, BeiDou; descending elevation. -/
def Want.before (x y : Want) : Bool :=
  decide (x.rank < y.rank) || (decide (x.rank = y.rank) && decide (y.elev ≤ x.elev))

/-- Inserts into an ordered list. -/
def insertWant (x : Want) : List Want → List Want
  | [] => [x]
  | y :: r => if x.before y then x :: y :: r else y :: insertWant x r

/-- What one antenna wants (R120): every enabled signal of each satellite at least 5 degrees below the mask. -/
def antWants (s : State) (a : Nat) : List Want :=
  let c := antCfg s a
  if !antUsed s a then []
  else s.dayl.orbit.flatMap fun e =>
    match predElev s a e.1 with
    | some h =>
      if c.mask - 50 ≤ h then
        ((List.range 9).filter fun k => bitAt c.signals k && decide ((signalOf k).sys = e.1 / 256)).map fun k =>
          { rank := if timeSys (e.1 / 256) = c.pivot then 0 else timeSys (e.1 / 256) + 1
            elev := h, ant := a, signal := k, sv := e.1 % 256 }
      else []
    | none => []

/-- The signals that have a channel: the first 384 in the order of R120. [DESIGN CHOICE, log 32] -/
def daylWants (s : State) : List Want := ((antWants s 0 ++ antWants s 1).foldr insertWant []).take 384

/-- A channel follows a signal. -/
def follows (c : ChanSt) (a signal sv : Nat) : Bool := c.state != 0 && c.ant == a && c.signal == signal && c.sv == sv

/-- The lowest channel that is IDLE. -/
def idleChan (l : Sparse ChanSt) : Option Nat := (List.range 384).find? fun n => (sget {} l n).state == 0

/-- A signal without a channel takes one, in SEARCH. -/
def assignWant (l : Sparse ChanSt) (w : Want) : Sparse ChanSt :=
  if l.any fun e => follows e.2 w.ant w.signal w.sv then l
  else match idleChan l with
    | some n => sput {} l n { state := 1, ant := w.ant, signal := w.signal, sv := w.sv }
    | none => l

/-- The allocation of R120: channels of signals that are no longer wanted become IDLE, but not those of a satellite that
has no predicted elevation; then every wanted signal has one. [DESIGN CHOICE, log 32] -/
def allocate (s : State) : State :=
  let ws := daylWants s
  let keep := fun (c : ChanSt) =>
    (ws.any fun w => follows c w.ant w.signal w.sv)
      || (antUsed s c.ant && (predElev s c.ant (satNo (signalOf c.signal).sys c.sv)).isNone)
  let l := smap {} (fun c => if keep c then c else {}) s.dayl.chans
  { s with dayl := { s.dayl with chans := ws.foldl assignWant l } }

/-- The channel that takes an acquired signal: the one that searches for it or has lost it, or for a satellite without a
predicted elevation an IDLE one. -/
def chanFor (s : State) (a signal sv : Nat) : Option Nat :=
  match s.dayl.chans.find? fun e => follows e.2 a signal sv with
  | some e => if e.2.state = 1 ∨ e.2.state = 6 then some e.1 else none
  | none => if (predElev s a (satNo (signalOf signal).sys sv)).isNone then idleChan s.dayl.chans else none

/-! ### The solution (R124 to R127) -/

/-- What the channels of an antenna give for one satellite. -/
structure SatObs where
  /-- The system whose time it counts in. -/
  sys : Nat
  k : Nat
  elev : Int
  cn0 : Nat
  /-- The system's time less Lode time by bands 1 and 2, 2^-16 ns. -/
  z1 : Option Int
  z2 : Option Int
  iono1 : Int
  iono2 : Int
  sigma : Nat

/-- A channel tracks: PULL_IN with an observation, TRACK, BURST or EXCLUDED. -/
def tracks (c : ChanSt) (a : Nat) : Bool := c.ant == a && decide (2 ≤ c.state ∧ c.state ≤ 5)

/-- The tracking channels of an antenna that give an observation. -/
def tracked (s : State) (a : Nat) (o : AntObs) : List (ChanSt × ChanObs) :=
  (o.chans.map fun x => (sget {} s.dayl.chans (x.n % 384), x)).filter fun e => tracks e.1 a

/-- The satellite of a channel. -/
def chanSat (c : ChanSt) : Nat := satNo (signalOf c.signal).sys c.sv

/-- The satellites tracked on an antenna. -/
def trackedSats (s : State) (a : Nat) (o : AntObs) : List Nat := ((tracked s a o).map fun e => chanSat e.1).eraseDups

/-- Delay of a band that is subtracted from its pseudoranges, 2^-16 ns (R118). -/
def pathDelay (s : State) (a band : Nat) : Int :=
  let c := antCfg s a
  fuOfPs (Config.smpDelay a + (if band = 0 then c.delay1 else c.delay2) + c.cable)

/-- A satellite's observation (R124): the system's time less Lode time is the range from the antenna's position less the
pseudorange. Of several signals in one band the lowest code counts. [DESIGN CHOICE, log 32] -/
def satObs (s : State) (a : Nat) (o : AntObs) (k : Nat) : SatObs :=
  let c := antCfg s a
  let mine := (tracked s a o).filter fun e => chanSat e.1 == k
  let strong := mine.filter fun e => decide (c.useCn0 ≤ e.2.cn0)
  let data := match (orbitSt s k).eph with
    | some d => d.1
    | none => 0
  let range := Config.satRange data k (antPos s a) (daylTime s)
  let h := Config.satElev data k (antPos s a) (daylTime s)
  let z := fun (b : Nat) =>
    (((strong.filter fun e => (signalOf e.1.signal).band == b).foldl (fun (x : Option (ChanSt × ChanObs)) e => match x with
      | some y => if e.1.signal < y.1.signal then some e else some y
      | none => some e) none).map fun e => range - (e.2.pr - pathDelay s a b))
  let cn0 := maxNat (mine.map fun e => e.2.cn0)
  let iono := fun (b : Nat) => Config.ionoDelay (sget none s.dayl.iono c.pivot) b k (antPos s a) (daylTime s)
  { sys := timeSys (k / 256), k := k, elev := h, cn0 := cn0, z1 := z 0, z2 := z 1, iono1 := iono 0, iono2 := iono 1
    sigma := Config.obsSigma cn0 h }

/-- The satellites of an antenna with their observations. -/
def satList (s : State) (a : Nat) (o : AntObs) : List SatObs := (trackedSats s a o).map (satObs s a o)

/-- A satellite's observation for the solution: system, number, value and sigma. -/
structure Obs where
  sys : Nat
  k : Nat
  z : Int
  sigma : Nat

/-- A band's pseudoranges may be used: enabled and not interfered. -/
def bandOk (s : State) (a band : Nat) : Bool :=
  (sget {} s.cfg.str.smp (2 * a + band)).en && !(if band = 0 then (antSt s a).intf1 else (antSt s a).intf2)

/-- Excluded for 600 s: three exclusions within 600 s, the last at most 600 s ago (R130). -/
def barred (s : State) (a k : Nat) : Bool :=
  let near := fun (t : Nat) => decide (s.clk.ticks < t + 600 * ticksPerSec)
  match sget [] (antSt s a).exclTicks k with
  | x :: y :: z :: _ => near x && decide (x < z + 600 * ticksPerSec) && decide (y ≤ x)
  | _ => false

/-- A candidate satellite (R124), exclusions left out. -/
def candidate (s : State) (a : Nat) (o : SatObs) : Bool :=
  decide ((antCfg s a).mask ≤ o.elev) && fresh s (orbitSt s o.k).eph 14400
    && ((bandOk s a 0 && o.z1.isSome) || (bandOk s a 1 && o.z2.isSome))

/-- No standing exclusion of its own holds a satellite out. -/
def satAdmitted (s : State) (a : Nat) (o : SatObs) : Bool :=
  (orbitSt s o.k).pending.isNone && !barred s a o.k

/-- No standing exclusion of the satellite or of its system. -/
def admitted (s : State) (a : Nat) (o : SatObs) : Bool := satAdmitted s a o && !bitAt (antSt s a).sysExcl o.sys

/-- The ionosphere-free combination (R125). -/
def ionoFree (z1 z2 : Int) : Int := roundDiv (22606 * z1 - 12606 * z2) 10000

/-- The dual-band observations. -/
def dualObs (s : State) (a : Nat) (l : List SatObs) : List Obs :=
  if bandOk s a 0 && bandOk s a 1 then
    l.filterMap fun o => match o.z1, o.z2 with
      | some x, some y => some { sys := o.sys, k := o.k, z := ionoFree x y, sigma := max o.sigma 1 }
      | _, _ => none
  else []

/-- The single-band observations: band 1, or band 2 while band 1 is interfered or not enabled (R125). [DESIGN CHOICE, log 32] -/
def singleObs (s : State) (a : Nat) (l : List SatObs) : List Obs :=
  let one := bandOk s a 0
  l.filterMap fun o => (if one then o.z1.map (· - o.iono1) else if bandOk s a 1 then o.z2.map (· - o.iono2) else none).map
    fun z => { sys := o.sys, k := o.k, z := z, sigma := max o.sigma 1 }

/-- The systems used. -/
def systems (l : List Obs) : List Nat := (List.range 3).filter fun y => l.any (·.sys == y)

/-- Enough satellites: at least s + 3. -/
def enough (l : List Obs) (more : Nat) : Bool := decide ((systems l).length + 3 + more ≤ l.length)

/-- Weight of an observation, 2^64 / sigma^2. [DESIGN CHOICE, log 32] -/
def weight (o : Obs) : Nat := 2 ^ 64 / (o.sigma * o.sigma)

/-- Weighted mean of a system's observations. [DESIGN CHOICE, log 32] -/
def sysMean (l : List Obs) (y : Nat) : Int :=
  let m := l.filter (·.sys == y)
  roundDiv (sumInt (m.map fun o => o.z * weight o)) (max 1 (sumNat (m.map weight)))

/-- Residual of an observation from its system's mean. -/
def residual (l : List Obs) (o : Obs) : Int := o.z - sysMean l o.sys

/-- The observation with the largest normalised residual. -/
def worst (l : List Obs) : Option Obs :=
  l.foldl (fun b o => match b with
    | some x => if (residual l x).natAbs ^ 2 * weight x < (residual l o).natAbs ^ 2 * weight o then some o else some x
    | none => some o) none

/-- The residual check (R130): the worst satellite is excluded while the condition holds. -/
def residualLoop (kR rMin : Nat) : Nat → List Obs → List Obs × List Nat
  | 0, l => (l, [])
  | n + 1, l =>
    if !enough l 1 then (l, [])
    else match worst l with
      | none => (l, [])
      | some o =>
        if max (kR * o.sigma) rMin < (residual l o).natAbs then
          let r := residualLoop kR rMin n (l.filter (·.k != o.k))
          (r.1, o.k :: r.2)
        else (l, [])

/-- The system whose observations give the clock: the pivot, or without it another one (R124, R130). -/
def clockSys (l : List Obs) (pivot : Nat) : Nat := if (systems l).contains pivot then pivot else (systems l).headD pivot

/-- Formal standard deviation of the clock term (R127): scaled by the variance factor above 1, at least 0.1 ns. -/
def sigmaSol (l : List Obs) (pivot : Nat) : Nat :=
  let w := max 1 (sumNat ((l.filter (·.sys == clockSys l pivot)).map weight))
  let chi := sumNat (l.map fun o => (residual l o).natAbs ^ 2 * weight o)
  let dof := l.length - (systems l).length
  -- chi / 2^64 / dof against 1
  let v := if dof ≠ 0 ∧ dof * 2 ^ 64 < chi then ceilDiv chi (w * dof) else ceilDiv (2 ^ 64) w
  max 6554 (isqrtUp v)

/-- Inter-system bias learned (R130): the mean of 24 h once 1 h exists, else the broadcast offset; and whether it is
learned. [DEDUCED, log 33] -/
def isbLearned (s : State) (a y : Nat) (o : AntObs) : Int × Bool :=
  let h := (sget [] (antSt s a).isb y).filter fun z => decide (s.clk.ticks < z.1 + 86400 * ticksPerSec)
  match h.getLast? with
  | some (t, _) =>
    if t + 3600 * ticksPerSec ≤ s.clk.ticks then (roundDiv (sumInt (h.map (·.2))) h.length, true)
    else (((o.isbBroadcast.find? (·.1 == y)).map (·.2)).getD 0, false)
  | none => (((o.isbBroadcast.find? (·.1 == y)).map (·.2)).getD 0, false)

/-- Departure of a system's bias from the learned one; 0 for the pivot. -/
def isbDev (s : State) (a : Nat) (o : AntObs) (l : List Obs) (y : Nat) : Int :=
  let p := (antCfg s a).pivot
  if y = p then 0 else sysMean l y - sysMean l p - (isbLearned s a y o).1

/-- T_sys, doubled for a pair whose biases are not learned. -/
def tSysOf (s : State) (a : Nat) (o : AntObs) (y : Nat) : Nat :=
  let c := antCfg s a
  fuOfNs c.tSys * (if y ≠ c.pivot ∧ (isbLearned s a y o).2 = false then 2 else 1)

/-- Two systems disagree. -/
def sysDisagree (s : State) (a : Nat) (o : AntObs) (l : List Obs) (x y : Nat) : Bool :=
  decide (max (tSysOf s a o x) (tSysOf s a o y) < (isbDev s a o l x - isbDev s a o l y).natAbs)

/-- Systems with at least four satellites. -/
def bigSystems (l : List Obs) : List Nat := (systems l).filter fun y => decide (4 ≤ (l.filter (·.sys == y)).length)

/-- The inter-system check: fails, and the one system that disagrees with both others (R130). [DEDUCED, log 33] -/
def sysCheck (s : State) (a : Nat) (o : AntObs) (l : List Obs) : Bool × Option Nat :=
  let b := bigSystems l
  let bad := b.any fun x => b.any fun y => sysDisagree s a o l x y
  (bad, if b.length = 3 then b.find? fun x => (b.filter (· != x)).all fun y => sysDisagree s a o l x y else none)

/-- The clock of a solution in the pivot's time; with the pivot excluded, of another system less its learned bias. -/
def clockOf (s : State) (a : Nat) (o : AntObs) (l : List Obs) : Int :=
  let p := (antCfg s a).pivot
  let y := clockSys l p
  if y = p then sysMean l p else sysMean l y - (isbLearned s a y o).1

/-- The pivot's offset from its UTC(k) at Lode time `t`, by its broadcast UTC parameters (R124). [DESIGN CHOICE, log 32] -/
def utcOf (s : State) (a t : Nat) : Option Int :=
  (sget none s.dayl.utc (antCfg s a).pivot).map fun (u : Int × Int × Nat) =>
    u.1 + roundDiv (u.2.1 * ((t : Int) - u.2.2)) (2 ^ 64)

/-! ### Alarms (R130, R132, R133) -/

/-- A failing evaluation of a check restarts the clear time. -/
def checkFailed (a : Nat) (s : State) : State := antMod a (fun x => { x with lastFail := s.clk.ticks }) s

/-- Raises a consistency alarm with cause bit `b`, or adds the cause. [DEDUCED, log 33] -/
def raiseAlarm (a b : Nat) (s : State) : State :=
  let was := antSt s a
  let u := antMod a (fun x => { x with alarm := true, causes := (if x.alarm then x.causes else 0) ||| 2 ^ b, badTick := s.clk.ticks }) s
  if was.alarm then u
  else
    let v := faultEvent (65 + a) 1 (2 ^ b) (irqRaise 7 2 (rfBump (antCntAddr a) 23 16 1 u))
    rejectNow (6 + a) (refMod (6 + a) (fun r => { r with srcAcc := false }) v)

/-- A check of one antenna: while it fails the clear time restarts, and it alarms where `now` holds. -/
def antCheck (a b : Nat) (fails now : Bool) (s : State) : State :=
  let u := if fails then checkFailed a s else s
  if fails && now then raiseAlarm a b u else u

/-! ### Per-second steps of one antenna -/

/-- A fraction of `k` magnitude bits among those of `n` samples outside [0.20, 0.45]. -/
def magOutside (k n : Nat) : Bool := decide (k * 100 < 20 * (2 * n)) || decide (45 * (2 * n) < k * 100)

/-- The sample statistics of one band (R130): new mark, seconds outside and inside. -/
def magStep (outside intf : Bool) (out ins : Nat) : Bool × Nat × Nat :=
  if outside then (intf || decide (3 ≤ out + 1), min 3 (out + 1), 0)
  else (intf && decide (ins + 1 < 10), 0, min 10 (ins + 1))

/-- The sample statistics of an antenna, over the samples it gave. -/
def statsStep (a : Nat) (o : AntObs) (s : State) : State :=
  let x := antSt s a
  let n := o.samples.length
  let k1 := magCount 0 o.samples
  let k2 := magCount 1 o.samples
  if n = 0 then s
  else
    let b1 := magStep (magOutside k1 n) x.intf1 x.out1 x.in1
    let b2 := magStep (magOutside k2 n) x.intf2 x.out2 x.in2
    let u := antMod a (fun y => { y with
      intf1 := b1.1, out1 := b1.2.1, in1 := b1.2.2, intf2 := b2.1, out2 := b2.2.1, in2 := b2.2.2
      mag1 := min (k1 * 65536 / (2 * n)) 65535, mag2 := min (k2 * 65536 / (2 * n)) 65535 }) s
    if (b1.1 && !x.intf1) || (b2.1 && !x.intf2) then irqRaise 7 4 u else u

/-- 25 dB-Hz (R121). -/
def lostCn0 : Nat := 100

/-- A tracking channel's report: C/N0 and the discriminator; an excluded satellite's channels are EXCLUDED, others TRACK or
BURST. -/
def chanReport (s : State) (a : Nat) (out : List Nat) (o : ChanObs) (c : ChanSt) : ChanSt :=
  if tracks c a then
    { c with
      cn0 := o.cn0 % 256
      disc := codeDisc (antCfg s a) c.signal o
      lowTick := if o.cn0 < lostCn0 then some (c.lowTick.getD s.clk.ticks) else none
      state := if out.contains (chanSat c) then 5 else if (antSt s a).burst then 4 else 3 }
  else c

/-- Channel reports of an antenna. -/
def chanStep (a : Nat) (o : AntObs) (out : List Nat) (s : State) : State :=
  o.chans.foldl (fun t e =>
    { t with dayl := { t.dayl with chans := smod {} t.dayl.chans (e.n % 384) (chanReport t a out e) } }) s

/-- Records exclusions of satellites at this solution. -/
def exclude (a : Nat) (ks : List Nat) (s : State) : State :=
  if ks.isEmpty then s
  else
    let u := antMod a (fun x => { x with
      exclTicks := ks.foldl (fun m k => sput [] m k ((s.clk.ticks :: sget [] m k).take 3)) x.exclTicks }) s
    irqRaise 7 5 (rfBump (antCntAddr a) 15 0 ks.length u)

/-- The carrier rates of the last tau_r seconds. -/
def rateWindow (s : State) (a : Nat) : List (Nat × Int) :=
  (antSt s a).rates.filter fun e => decide (s.clk.ticks < e.1 + max (antCfg s a).tauR 1 * ticksPerSec)

/-- Mean rate over tau_r less y_fw, 2^-64 (R130). -/
def rateDev (s : State) (a : Nat) : Int :=
  let h := rateWindow s a
  if h.isEmpty then 0 else histMean 0 h - s.lode.yFw

/-- Anchored residual of flywheel-referred offset `u` (R131), 2^-16 ns. -/
def anchoredResidual (s : State) (a : Nat) (u : Int) : Nat :=
  match (antSt s a).anchor with
  | none => 0
  | some (t, ua, y) =>
    if !s.assay.fwOk then 0
    else
      let dt := nsOfTicks (s.clk.ticks - t)
      let pred := ua + roundDiv (y * dt * 65536) (2 ^ 64)
      (u - pred).natAbs - yInForce s * dt * 65536 / 2 ^ 48 - aInForce s * dt * dt / (2 ^ 49 * 10 ^ 9)

/-- T_phi in 2^-16 ns, raised in a single-band solution (R131). -/
def tPhiOf (s : State) (a : Nat) (dual : Bool) : Nat :=
  let r := refRec s (6 + a)
  fuOfNs r.dayl.tPhi + (if dual then 0 else fuOfPs (r.uSinglePs.getD 15000 - r.uPs.getD 3000))

/-- What a second's solve gives. -/
structure Solve where
  obs : List Obs
  out : List Nat
  dual : Bool
  valid : Bool
  /-- The residual check excluded a satellite; more than one third of the candidates are excluded (R130). -/
  resid : Bool
  overExcl : Bool
  /-- The inter-system check: it fails; the system that it excludes; how many systems it compared (R130). -/
  sys : Bool × Option Nat
  sysN : Nat

/-- The solve of one antenna: its observations, exclusions, class and validity (R124, R125, R126, R130). [DESIGN CHOICE, log 32] -/
def solve (s : State) (a : Nat) (o : AntObs) : Solve :=
  let c := antCfg s a
  let x := antSt s a
  let cand := (satList s a o).filter (candidate s a)
  let adm := cand.filter (admitted s a)
  let d := dualObs s a adm
  let ok := enough d 0
  -- back to dual-band only after 10 consecutive dual-band solutions
  let dual := ok && (x.dual != some false || decide (10 ≤ x.dualRun + 1))
  let r := residualLoop c.kR (fuOfNs c.rMin) adm.length (if dual then d else singleObs s a adm)
  let gone := cand.length - adm.length + r.2.length
  -- an excluded system is still compared, so that it returns once it agrees
  let all := (if dual then dualObs s a else singleObs s a) ((cand.filter (satAdmitted s a)).filter fun z => !r.2.contains z.k)
  { obs := r.1, out := r.2 ++ (cand.filter fun z => !admitted s a z).map fun z => z.k
    dual := dual
    valid := enough r.1 0 && !decide (cand.length < 3 * gone) && !x.discarded && decide (x.cleanFrom ≤ s.clk.ticks)
      && (utcOf s a (nowFu s)).isSome
    resid := !r.2.isEmpty
    overExcl := decide (cand.length < 3 * gone)
    sys := sysCheck s a o all
    sysN := (bigSystems all).length }

/-- A new class of an antenna is an event of R21 (R126). [DEDUCED, log 33] -/
def setClass (a : Nat) (d : Bool) (s : State) : State :=
  let was := (antSt s a).dual
  let u := refMod (6 + a) (fun r => { r with dual := d }) (antMod a (fun x => { x with dual := some d }) s)
  if was.isSome && was != some d then bumpEpoch u else u

/-- Whether the data of this second would have qualified as dual-band. -/
def dualQualified (s : State) (a : Nat) (o : AntObs) : Bool :=
  enough (dualObs s a (((satList s a o).filter (candidate s a)).filter (admitted s a))) 0

/-- A valid solution's effects: class, noise, anchored residual, biases, registers, and its offer to the Assay. -/
def validStep (a : Nat) (o : AntObs) (v : Solve) (s : State) : State :=
  let c := antCfg s a
  let e := clockOf s a o v.obs - (utcOf s a (nowFu s)).getD 0 + utcOffsetAt s (nowFu s) * oneSec
  let sig := sigmaSol v.obs c.pivot
  let run := if dualQualified s a o then (antSt s a).dualRun + 1 else 0
  let s1 := setClass a v.dual (antMod a (fun x => { x with dualRun := min run 10 }) s)
  let u := flyOffset s1 s1.clk.ticks e
  let s2 := antMod a (fun x => { x with us := (u :: x.us).take 8 }) s1
  let fw := s2.assay.fwOk
  let s3 := if fw && (antSt s2 a).anchor.isNone && isQualified s2 (6 + a) then
      antMod a (fun x => { x with anchor := some (s2.clk.ticks, u, s2.lode.yFw) }) s2
    else s2
  let cd := anchoredResidual s3 a u
  let day := 86400 * ticksPerSec
  let p := sysMean v.obs c.pivot
  let isb := ((systems v.obs).filter (· != c.pivot)).foldl (fun m y =>
    sput [] m y ((s3.clk.ticks, sysMean v.obs y - p) :: (sget [] m y).filter fun z => decide (s3.clk.ticks < z.1 + day))) (antSt s3 a).isb
  let first := !(antSt s3 a).valid
  let s4 := antMod a (fun x => { x with
    valid := true, used := v.obs.length
    isb := if (systems v.obs).contains c.pivot then isb else x.isb
    sol := { e := satSigned 64 e, sigma := sig, cd := cd, rate := rateDev s3 a, sec := nowFu s3 / oneSec % 2 ^ 32 } }) s3
  let s6 := refMod (6 + a) (fun r => { r with sigmaSol := sig, cD := cd, srcRej := true, offered := some (e, s4.clk.ticks) }) s4
  if first then irqRaise 7 0 s6 else s6

/-- An invalid solution (R125, R126): the solution registers keep the last valid one. [DESIGN CHOICE, log 32] -/
def invalidStep (a : Nat) (v : Solve) (s : State) : State :=
  let was := (antSt s a).valid
  let u := antMod a (fun x => { x with
    valid := false, dualRun := 0, used := v.obs.length, badTick := s.clk.ticks, discarded := false }) s
  let w := refMod (6 + a) (fun r => { r with srcAcc := false, srcRej := false, offered := none })
    (rfBump (antCntAddr a) 31 24 1 u)
  if was then irqRaise 7 1 w else w

/-- The checks of one antenna (R130): power, inter-system, time-of-week, rate and phase. Any check that fails, an
exclusion too, restarts the clear time (R132). [DEDUCED, log 33] -/
def antChecks (a : Nat) (o : AntObs) (v : Solve) (s : State) : State :=
  let c := antCfg s a
  let stats := decide (0 < (antSt s a).out1 ∨ 0 < (antSt s a).out2)
  let s0 := if stats || v.resid || v.overExcl || v.sys.1 then checkFailed a s else s
  let power := decide (c.nP ≤ ((satList s a o).filter fun x => decide (c.cMax < x.cn0)).length)
  let s1 := antCheck a 0 power true s0
  let run := if v.sys.1 then (antSt s1 a).sysRun + 1 else 0
  let s2 := antMod a (fun x => { x with sysRun := min run 3 }) s1
  let s3 := match v.sys.2 with
    | some y =>
      if 3 ≤ run then irqRaise 7 6 (rfBump (antCntAddr a) 15 0 1 (antMod a (fun x => { x with sysExcl := x.sysExcl ||| 2 ^ y }) s2)) else s2
    | none =>
      if v.sys.1 then (if v.sysN = 2 then antCheck a 1 true (decide (3 ≤ run)) s2 else s2)
      else antMod a (fun x => { x with sysExcl := 0 }) s2
  let tow := match o.tow with
    | some d => decide (fuOfNs 1000000 < d.natAbs) && tallyNow s != unboundedCode
    | none => false
  let s4 := antCheck a 6 tow true s3
  if !s4.assay.fwOk then antMod a (fun x => { x with phaseRun := 0 }) s4
  else
    let rate := decide (c.rThr * 18446744073709551616 < (rateDev s4 a).natAbs * 10000000000000)
    let s5 := antCheck a 4 rate true s4
    let ph := v.valid && (antSt s5 a).anchor.isSome && decide (tPhiOf s5 a v.dual < (antSt s5 a).sol.cd)
    let n := if ph then (antSt s5 a).phaseRun + 1 else 0
    antCheck a 5 ph (decide (2 ≤ n)) (antMod a (fun x => { x with phaseRun := min n 2 }) s5)

/-- Mean of a list, to nearest, or 0. -/
def meanInt (l : List Int) : Int := roundDiv (sumInt l) (max l.length 1)

/-- The self-survey (R129): the mean position of the last 24 h in 4 mm, and the standard deviation of that mean in mm,
rounded up, from the spread of the positions. [DESIGN CHOICE, log 32] -/
def surveyStep (a : Nat) (p : Int × Int × Int) (s : State) : State :=
  let now := s.clk.ticks
  let h := (now, p) :: (antSt s a).nav.filter fun e => decide (now < e.1 + 86400 * ticksPerSec)
  let n := h.length
  let x := h.map (·.2.1)
  let y := h.map (·.2.2.1)
  let z := h.map (·.2.2.2)
  let hours := min (n / 3600) 24
  let u := antMod a (fun q => { q with
    nav := h
    survX := roundDiv (sumInt x) (4 * n), survY := roundDiv (sumInt y) (4 * n), survZ := roundDiv (sumInt z) (4 * n)
    survSigma := isqrtUp (ceilDiv (varNum x + varNum y + varNum z) (n * n * n)), survHours := hours }) s
  if decide (24 ≤ hours) && decide ((antSt s a).survHours < 24) then irqRaise 7 8 u else u

/-- The first decoded time-of-week gives an orbit-aided or cold start its time of day (R122); once aiding comes from Lode
time, a later such start takes its own. -/
def todStep (o : AntObs) (s : State) : State :=
  if aidLevel s = 2 then { s with dayl := { s.dayl with tod := none } }
  else if s.dayl.tod.isNone then { s with dayl := { s.dayl with tod := o.tow } } else s

/-- What the navigation solution takes of a satellite: its orbit data, its number, its pseudorange in the observation's
form, and its sigma. -/
def navObs (s : State) (o : Obs) : Nat × Nat × Int × Nat :=
  ((match (orbitSt s o.k).eph with
    | some d => d.1
    | none => 0), o.k, o.z, o.sigma)

/-- The navigation solution for position of an antenna (R129), from the satellites that its timing solution uses: there
are as many unknowns as the solution of R124 has, and three more. [DESIGN CHOICE, log 32] -/
def navSolution (s : State) (a : Nat) (l : List Obs) : Option (Int × Int × Int) :=
  if enough l 0 then some (Config.navPosition (l.map (navObs s)) (antPos s a) (daylTime s)) else none

/-- The carrier rate of a second joins those of the antenna. -/
def rateStep (a : Nat) (o : AntObs) (s : State) : State :=
  match o.rate with
  | some r => antMod a (fun x => { x with rates := histPush s.clk.ticks r 100 x.rates }) s
  | none => s

/-- One antenna's second; an antenna that gives nothing has an invalid solution. -/
def antSecond (a : Nat) (x : Option AntObs) (s : State) : State :=
  let o := x.getD {}
  if !antUsed s a then s
  else
    let s1 := rateStep a o (todStep o (antMod a (fun y => { y with trk := (trackedSats s a o).length }) (statsStep a o s)))
    let v := solve s1 a o
    let new := v.out.filter fun k => !barred s1 a k && (orbitSt s1 k).pending.isNone
      && !bitAt (antSt s1 a).sysExcl (timeSys (k / 256))
    let s2 := chanStep a o v.out (exclude a new s1)
    let s3 := if v.valid then validStep a o v s2 else invalidStep a v s2
    let s4 := antChecks a o v s3
    let s5 := match navSolution s4 a v.obs with
      | some p => if (antCfg s a).selfSurvey then surveyStep a p s4 else s4
      | none => s4
    -- the source check of R82: valid and not alarmed
    refMod (6 + a) (fun r => { r with srcAcc := v.valid && !(antSt s5 a).alarm }) s5

/-! ### Pair checks -/

/-- Angle of a fraction of a cycle in radians, scaled by 2^40, in [-pi, pi). -/
def radians (c : Nat) : Int :=
  let x : Int := if c % 2 ^ 32 < 2 ^ 31 then c % 2 ^ 32 else (c % 2 ^ 32 : Nat) - (2 ^ 32 : Int)
  Int.fdiv (x * 6746518852) (2 ^ 22)

/-- Power series with alternating signs: from x^first on, `n` terms. -/
def series (x : Int) : Nat → Nat → Int → Int
  | 0, _, _ => 0
  | n + 1, k, t => t + series x n (k + 2) (-(Int.fdiv (Int.fdiv (t * x) (2 ^ 40) * x) ((2 ^ 40 : Int) * ((k + 1) * (k + 2)))))

/-- Cosine, scaled by 2^40. -/
def cosFix (c : Nat) : Int := series (radians c) 14 0 (2 ^ 40)

/-- Sine, scaled by 2^40. -/
def sinFix (c : Nat) : Int := series (radians c) 14 1 (radians c)

/-- Residuals within T_g of the circular mean (R130): an angle lies within T of the mean direction M where its
projection on M is at least |M| cos T. [DESIGN CHOICE, log 32] -/
def geomInside (l : List Nat) (tG : Nat) : Nat :=
  let mx := sumInt (l.map cosFix)
  let my := sumInt (l.map sinFix)
  let ct := cosFix (tG * 2 ^ 32 / 100)
  (l.filter fun c =>
    let dot := cosFix c * mx + sinFix c * my
    decide (0 ≤ dot) && decide (ct * ct * (mx * mx + my * my) ≤ dot * dot)).length

/-- Surveyed baseline in mm, squared. -/
def baseline2 (s : State) : Nat :=
  let a := antCfg s 0
  let b := antCfg s 1
  (a.posX - b.posX).natAbs ^ 2 + (a.posY - b.posY).natAbs ^ 2 + (a.posZ - b.posZ).natAbs ^ 2

/-- A measured single difference of a satellite less the one that the baseline and its direction predict, 2^-32 cycle of
the band-1 carrier (R130). -/
def geomDiff (s : State) (k meas : Nat) : Nat :=
  let data := match (orbitSt s k).eph with
    | some d => d.1
    | none => 0
  let r := fun (a : Nat) => Config.satRange data k (antPos s a) (daylTime s)
  (((meas : Int) - roundDiv ((r 0 - r 1) * (bandHz 0 * 65536 : Nat)) 1000000000) % 2 ^ 32).toNat

/-- A satellite is tracked on band 1 at an antenna. -/
def onBand1 (s : State) (a k : Nat) : Bool :=
  s.dayl.chans.any fun e => tracks e.2 a && decide ((signalOf e.2.signal).band = 0) && chanSat e.2 == k

/-- The geometry check (R130): `l` gives the measured band-1 carrier differences between the antennas by satellite, 2^-32
cycle. -/
def geomCheck (l : List (Nat × Nat)) (s : State) : State :=
  let d := (l.filter fun e => onBand1 s 0 e.1 && onBand1 s 1 e.1).map fun e => geomDiff s e.1 e.2
  let on := antUsed s 0 && antUsed s 1 && decide (2000 ^ 2 ≤ baseline2 s) && decide (5 ≤ d.length)
  let bad := on && decide (2 * geomInside d (antCfg s 0).tG < d.length)
  let n := if bad then s.dayl.geomRun + 1 else 0
  let u := { s with dayl := { s.dayl with geomRun := min n 5, geomOn := on } }
  antCheck 1 2 bad (decide (5 ≤ n)) (antCheck 0 2 bad (decide (5 ≤ n)) u)

/-- The inter-antenna time check (R130). Of equal anchored residuals antenna A's counts as the larger. [DEDUCED, log 33] -/
def pairCheck (s : State) : State :=
  let a := antSt s 0
  let b := antSt s 1
  let bad := antUsed s 0 && antUsed s 1 && a.valid && b.valid && decide (fuOfNs (antCfg s 0).tAnt < (a.sol.e - b.sol.e).natAbs)
  let n := if bad then s.dayl.antRun + 1 else 0
  let u := { s with dayl := { s.dayl with antRun := min n 3 } }
  if !bad then u
  else
    let v := checkFailed 1 (checkFailed 0 u)
    if n < 3 then v
    else if !v.assay.fwOk then raiseAlarm 1 3 (raiseAlarm 0 3 v)
    else if a.sol.cd < b.sol.cd then raiseAlarm 1 3 v
    else raiseAlarm 0 3 v

/-- An antenna's samples may be used again once 1 s of clean clock has passed (R118). -/
def clearDiscard (a : Nat) (s : State) : State := antMod a (fun x => { x with discarded := decide (s.clk.ticks < x.cleanFrom) }) s

/-! ### The commands -/

/-- GNSS_SOLUTION (R124): the next whole second of Lode time: the allocation of channels, both antennas and the pair checks. -/
def execGnssSolution (oa ob : Option AntObs) (geom : List (Nat × Nat)) (s : State) : Res :=
  let u := allocate (elapseTo (tickOfLode ((nowFu s / oneSec + 1) * oneSec) s) s)
  let v := antSecond 1 ob (antSecond 0 oa u)
  .next (tallyRefresh (clearDiscard 1 (clearDiscard 0 (pairCheck (geomCheck geom v)))))

/-- The sample-time line of the block that the sample clock's REF channel has collected. -/
def blockOf (s : State) (a : Nat) : Option (Int × Int) :=
  match dialOf s 1 (7 + a) with
  | some ch => blockLine (dialNom s ch).1 (dialNom s ch).2 (dialPresc s ch) (dialCh s ch).block
  | none => none

/-- SAMPLE_TIME_FIT (R118): the end of a 10 ms block; `ok` says that the Dial reported no missing edge besides those it
has dropped. The SMP inputs are ignored until the image is applied (R417). -/
def execSampleTimeFit (a : Ant) (ok : Bool) (s : State) : Res :=
  if !s.surv.structureApplied then .next s else
  let t := elapseTo (nextMultiple (10 * ticksPerMs) s) s
  let l := blockOf t a
  let s1 := match dialOf t 1 (7 + a) with
    | some ch => dialMod ch (fun c => { c with
        block := { before := if c.block.n = 0 then c.block.before else some c.block.last } }) t
    | none => t
  if ok && !t.lode.coarse && l.isSome then
    .next (antMod a (fun x => { x with
      line := l, lost := x.lost && !decide (x.cleanFrom ≤ t.clk.ticks) }) s1)
  else
    let u := antMod a (fun x => { x with cleanFrom := t.clk.ticks + ticksPerSec, discarded := true, lost := true }) s1
    .next (if (antSt s a).lost then u else faultEvent (67 + a) 1 0 u)

/-- ACQUISITION_DONE (R122): the search on channel `n` finds a signal, and the channel takes it if it is the one that R120
gives the signal. -/
def execAcquisitionDone (n : Fin 384) (a : Ant) (signal : Fin 9) (sv cn0 : Nat) (s : State) : Res :=
  if !antUsed s a || !bitAt (antCfg s a).signals signal then .next s
  else match chanFor s a signal (sv % 256) with
    | none => .next s
    | some k => if k ≠ n.val then .next s else
      let band := (signalOf signal).band
      let w := searchWidths s a band
      .next { s with dayl := { s.dayl with
        searchCode := w.1, searchHz := w.2, searchCentre := carrierCentre s a band
        chans := sput {} s.dayl.chans n.val { state := 2, ant := a, signal := signal, sv := sv % 256, cn0 := cn0 % 256 } } }

/-- CHANNEL_LOST (R121): 2 s with C/N0 below 25 dB-Hz. -/
def execChannelLost (n : Fin 384) (s : State) : Res :=
  match (sget {} s.dayl.chans n.val).lowTick with
  | some t =>
    let u := elapseTo (t + 2 * ticksPerSec) s
    .next { u with dayl := { u.dayl with chans := smod {} u.dayl.chans n.val fun c => { c with state := 6, lowTick := none } } }
  | none => .next s

/-- BURST_WINDOW (R123): the window opens w/2 before a whole second and closes w/2 after it. -/
def execBurstWindow (a : Ant) (s : State) : Res :=
  let x := antSt s a
  if !x.burst then .next s
  else
    let h := fuOfNs ((antCfg s a).burstMs * 500000)
    let t := if x.window then (nowFu s + oneSec - h) / oneSec * oneSec + h else (nowFu s + h) / oneSec * oneSec + oneSec - h
    .next (antMod a (fun y => { y with window := !y.window }) (elapseTo (tickOfLode t s) s))

/-- The conditions of burst tracking (R123). -/
def burstAllowed (s : State) (a : Nat) : Bool :=
  let x := antSt s a
  (antCfg s a).burstEn && s.assay.fwOk && decide (s.lode.state = .locked) && !x.alarm && x.valid
    && decide (x.badTick + 60 * ticksPerSec ≤ s.clk.ticks)

/-- BURST_MODE_CHANGE (R123). -/
def execBurstModeChange (a : Ant) (s : State) : Res :=
  let b := antUsed s a && burstAllowed s a
  if b = (antSt s a).burst then .next s
  else
    let u := antMod a (fun x => { x with burst := b, window := false }) s
    .next (irqRaise 7 7 { u with dayl := { u.dayl with
      chans := smap {} (fun c => if c.ant = a.val ∧ (c.state = 3 ∨ c.state = 4) then { c with state := if b then 4 else 3 } else c)
        u.dayl.chans } })

/-- ALARM_CLEAR (R132): the clear time has passed since the last failing evaluation. -/
def execAlarmClear (a : Ant) (s : State) : Res :=
  if !(antSt s a).alarm then .next s
  else
    let u := elapseTo ((antSt s a).lastFail + (antCfg s a).clearS * ticksPerSec) s
    .next (irqRaise 7 3 (heldEnd (65 + a) 1 (antMod a (fun x => { x with
      alarm := false, causes := 0, badTick := u.clk.ticks }) u)))

/-- ANCHOR_MOVE (R131). -/
def execAnchorMove (a : Ant) (s : State) : Res :=
  match (antSt s a).anchor with
  | none => .next s
  | some (t, _, _) =>
    let u := elapseTo (t + (antCfg s a).tauAnchor * ticksPerSec) s
    let h := (antSt u a).us
    if (antSt u 0).alarm || (antSt u 1).alarm || !u.assay.fwOk || h.isEmpty then .next u
    else .next (antMod a (fun x => { x with anchor := some (u.clk.ticks, roundDiv (sumInt h) h.length, u.lode.yFw) }) u)

/-- Leap announcements decoded from at least two satellites alike (R31). [DESIGN CHOICE, log 34] -/
def leapVote (k : Nat) (v : Int × Int × Nat) (s : State) : State :=
  let u := { s with dayl := { s.dayl with votes := sput none s.dayl.votes k (some v) } }
  if 2 ≤ (u.dayl.votes.filter fun e => e.2 == some v).length then leapOffer .daylight v.1 v.2.1 v.2.2 u else u

/-- The newest cached ephemeris of GPS that has a week: its week. -/
def newestWeek (s : State) : Option Nat :=
  (((s.dayl.orbit.filter fun e => decide (e.1 / 256 = 0) && e.2.week.isSome).foldl
    (fun (b : Option (Int × Nat)) e => match b, e.2.eph, e.2.week with
      | some x, some d, some w => if x.1 < d.2 then some (d.2, w) else some x
      | none, some d, some w => some (d.2, w)
      | x, _, _ => x) none).map (·.2))

/-- The week of an ephemeris (R134): as broadcast, but the 10-bit week of LNAV is the one nearest to the 13-bit week of the
same satellite, or to that of the newest cached ephemeris; without either there is none. -/
def resolveWeek (s : State) (signal k w : Nat) : Option Nat :=
  if (signalOf signal).nav = .lnav then
    ((orbitSt s k).cnavWeek.or (newestWeek s)).map fun r => (((r : Int) - 512 + ((w : Int) - r + 512) % 1024)).toNat
  else some w

/-- EPHEMERIS_DECODED (R119, R134): navigation data of a signal: an ephemeris with its broadcast week, how far (cm) its
predicted position lies from that of the cached one and from that of the new one before it, an almanac, UTC parameters,
ionosphere data and leap data. [DEDUCED, log 33] -/
def execEphemerisDecoded (sys : Fin 9) (sv : Nat) (eph : Option (Nat × Nat)) (cached previous : Option Nat)
    (alm : Option Nat) (leap : NavData) (s : State) : Res :=
  let y := (signalOf sys).sys
  let k := satNo y (sv % 256)
  let now := s.clk.ticks
  let o := orbitSt s k
  let near := match cached with
    | some d => o.eph.isSome && decide (d ≤ 10000)
    | none => false
  let agree := match previous with
    | some d => o.pending.isSome && decide (d ≤ 100)
    | none => false
  let o1 := match eph with
    | some e =>
      match resolveWeek s sys k e.2 with
      | some w =>
        let p := if near || agree then { o with eph := some (e.1, now), pending := none, week := some w }
          else { o with pending := some e.1 }
        if (signalOf sys).nav = .cnav ∨ (signalOf sys).nav = .cnav2 then { p with cnavWeek := some w } else p
      | none => o
    | none => o
  let o2 := match alm with
    | some x => { o1 with alm := some (x, now) }
    | none => o1
  let u := { s with dayl := { s.dayl with
    orbit := sput {} s.dayl.orbit k o2
    utc := match leap.utc with
      | some x => sput none s.dayl.utc (timeSys y) (some (x.1, x.2, nowFu s))
      | none => s.dayl.utc
    iono := match leap.iono with
      | some x => sput none s.dayl.iono (timeSys y) (some x)
      | none => s.dayl.iono } }
  let v := if o.pending.isNone && o2.pending.isSome then irqRaise 7 5 u else u
  .next (match leap.leap with
    | some l => leapVote k l v
    | none => v)

/-- DAYL_SOLUTION_READ: a read of DAYL_SOL_OFS_LO latches the antenna's other solution registers. -/
def execDaylSolutionRead (a : Ant) (s : State) : Res :=
  .next { antMod a (fun x => { x with latch := x.sol }) s with
    pcie := { s.pcie with readData := twosComp 64 (antSt s a).sol.e % 2 ^ 32 } }

end Sys2Proof.Machine
end

