-- ==== Sys2Proof/Machine/Flags.lean ====
section
/-! DEFINITION. Nibble arithmetic with its carry or borrow, and the flags of nibble and field operations (R237, R241, R242). -/

namespace Sys2Proof.Machine

/-- Sum of two nibbles and a carry: result and carry out. -/
def addNib (a b : Nat) (c : Bool) : Nat × Bool := ((a + b + c.toNat) % 16, decide (16 ≤ a + b + c.toNat))

/-- Difference of two nibbles and a borrow: result and borrow out. -/
def subNib (a b : Nat) (c : Bool) : Nat × Bool := ((a + 32 - b - c.toNat) % 16, decide (a < b + c.toNat))

/-- Sets Z and N from a nibble result. -/
def PickSt.flagsZN (p : PickSt) (r : Nat) : PickSt := { p with z := decide (r % 16 = 0), n := bitAt r 3 }

/-- Sets Z, C and N. -/
def PickSt.flagsZCN (p : PickSt) (r : Nat) (c : Bool) : PickSt := { p.flagsZN r with c := c }

/-- The result of a field operation under way: the pick, whether every result nibble was 0, the carry, and the last
result nibble. -/
structure FieldAcc where
  p : PickSt
  z : Bool := true
  c : Bool := false
  r : Nat := 0

/-- The steps of a field operation on `m` nibbles, from the least significant down to the first (R241): `src` gives
the second operand's nibble, `op` the result and the carry. -/
def fieldLoop (write : Bool) (tag addr : Nat) (src : PickSt → Nat → Nat) (op : Nat → Nat → Bool → Nat × Bool) :
    Nat → FieldAcc → FieldAcc
  | 0, a => a
  | m + 1, a =>
    let r := op (a.p.nib tag (addr + m)) (src a.p m) a.c
    fieldLoop write tag addr src op m
      { p := if write then a.p.setNib tag (addr + m) r.1 else a.p, z := a.z && r.1 == 0, c := r.2, r := r.1 }

/-- A field operation on the field at pointer `i`; it starts with carry `c0`, and sets C when `setC`. -/
def fieldOp (write setC c0 : Bool) (i : Nat) (src : PickSt → Nat → Nat) (op : Nat → Nat → Bool → Nat × Bool)
    (p : PickSt) : PickSt :=
  let f := p.ptr i
  let a := fieldLoop write f.tag f.addr src op p.fl { p := p, c := c0 }
  { a.p with z := a.z, n := bitAt a.r 3, c := if setC then a.c else p.c }

/-- The field at pointer `j` as second operand. -/
def srcField (j : FieldPtr) (p : PickSt) (m : Nat) : Nat := p.nib j.tag (j.addr + m)

/-- A nibble as second operand: its value at the least significant nibble, 0 elsewhere. -/
def srcNib (fl v : Nat) (_ : PickSt) (m : Nat) : Nat := if m + 1 = fl then v else 0

/-- Advances a pointer by FL where its advance bit is set (R241). -/
def PickSt.advance (p : PickSt) (a : Bool) (i : Nat) : PickSt :=
  if a then p.setAddr i ((p.ptr i).addr + p.fl) else p

/-- Carry-less operations of the field loop. -/
def opMov (_ b : Nat) (c : Bool) : Nat × Bool := (b, c)
/-- AND. -/
def opAnd (a b : Nat) (c : Bool) : Nat × Bool := (a &&& b, c)
/-- OR. -/
def opOr (a b : Nat) (c : Bool) : Nat × Bool := (a ||| b, c)
/-- XOR. -/
def opXor (a b : Nat) (c : Bool) : Nat × Bool := (a ^^^ b, c)
/-- One bit to the left, the carry in below. -/
def opShl (a _ : Nat) (c : Bool) : Nat × Bool := ((2 * a + c.toNat) % 16, decide (8 ≤ a))

end Sys2Proof.Machine
end

