-- ==== Sys2Proof/Machine/Helpers.lean ====
section
/-! DEFINITION. The helper calls of picks: session, crypto, STAMP, EMIT, DROP, COUNT and INBOX (R185, R244 to R254, R259 to R265). -/

namespace Sys2Proof.Machine

/-! ### Issue (R244, R245, R261) -/

/-- Outstanding calls of a pick and of its gallery of one kind. -/
def outstanding (s : State) (pick : Nat) (k : ReqKind) : Nat × Nat :=
  ((s.shaft.reqs.filter fun r => r.pick == pick && r.kind == k).length,
   (s.shaft.reqs.filter fun r => r.gal == pick / 32 && r.kind == k).length)

/-- A call beyond a limit waits at issue. -/
def issueWaits (s : State) (pick : Nat) (k : ReqKind) (perPick perGal : Nat) : Bool :=
  let n := outstanding s pick k
  decide (perPick ≤ n.1) || decide (perGal ≤ n.2)

/-- The operand block of `n` bytes at a pointer. -/
def blockAt (p : PickSt) (i n : Nat) : List Nat := let f := p.ptr i; p.bytes f.tag f.addr n

/-- An operand block that lies in part outside the ITEM space: those bytes read 0, and the read is a program error (R238,
R254). -/
def blockOutside (p : PickSt) (i n : Nat) : Bool := let f := p.ptr i; rangeOutside p f.tag f.addr (2 * n)

/-- The two issue steps: the pick moves past HCALL. -/
def issued (pick : Nat) (s : State) : State :=
  pickMod pick (fun p => { p with pc := p.pc + 1, steps := p.steps + 2 }) s

/-- The issue of a call with an operand block of `n` bytes at pointer `i`. -/
def issuedBlock (pick i n : Nat) (s : State) : State :=
  let u := issued pick s
  if blockOutside (pickSt s pick) i n then programError pick u else u

/-- Holds a pick until its call completes. -/
def block (pick : Nat) (s : State) : State :=
  pickMod pick (fun p => { p with blocked := true, phase := .wait }) s

/-- Adds a request; its pick waits for it unless the call is NOWAIT or posted. [DESIGN CHOICE, log 43] -/
def pushReq (r : ShReq) (holds : Bool) (s : State) : State :=
  let q := { r with id := s.shaft.nextReq, gal := r.pick / 32, seam := galSeam s (r.pick / 32)
                    cls := pickClass s r.pick, issueTick := s.clk.ticks, home := pickHome s r.pick }
  let u := { s with shaft := { s.shaft with reqs := s.shaft.reqs ++ [q], nextReq := s.shaft.nextReq + 1 } }
  markHeld (if holds then block r.pick u else u)

/-- A pick that can issue a helper call. -/
def canIssue (s : State) (pick : Nat) : Bool := (pickSt s pick).phase == .running

/-- SESSION_GET (R246, R281, R282, R284): with the pick come the uncorrectable directory entries that its lookup meets. -/
def execSessionGet (pick : PickNo × List Nat) (i : Ptr) (nowait : Bool) (s : State) : Res :=
  if !canIssue s pick.1 || issueWaits s pick.1 .get 2 64 then .next s
  else
    let b := blockAt (pickSt s pick.1) i 22
    let u := lookupErrors (galSeam s (pick.1.val / 32)) (beAt b 1 1) (slice 4 18 b) pick.2
      (wbrEvent 3 (pick.1.val / 32) 1 (issuedBlock pick.1 i 22 s))
    let r : ShReq := { id := 0, pick := pick.1, gal := 0, seam := 0, kind := .get, slot := beAt b 0 1 % 2, nowait := nowait }
    match resolveGet (galSeam s (pick.1.val / 32)) (beAt b 1 1) (slice 4 18 b) u with
    | (.denied, v) => .next (pushReq { r with denied := true } (!nowait) v)
    | (.none, v) => .next (pushReq { r with doneTick := some s.clk.ticks } (!nowait) v)
    | (.entry g, v) => .next (pushReq { r with addr := some g } (!nowait) v)

/-- SESSION status of a slot (R246). -/
def sessStatus (pick slot st : Nat) (data : List Nat) (s : State) : State :=
  pickMod pick (fun p => (p.pokeResult (64 * slot) data).pokeResult (200 + slot) [st]) s

/-- SESSION_GET_RESULT (R246, R262, R282, R284, R300): `uncorr` says what SECDED finds in the record. [DESIGN CHOICE, log 43] -/
def execSessionGetResult (pick : PickNo) (slot : Fin 2) (uncorr : ReadErr) (s : State) : Res :=
  match s.shaft.reqs.find? fun r => r.pick == pick.val && r.kind == .get && r.slot == slot.val with
  | none => .next s
  | some r =>
    let zero := List.replicate 64 0
    if r.denied then
      let u := elapseTo (r.issueTick + ticksOfNs 400) s
      .next (if r.stale then reqDrop r.id u else landReq r (sessStatus pick slot 0x80 [] u))
    else if r.doneTick.isNone || r.budgetWait then .next s
    else match r.addr with
      | none => .next (if r.stale then reqDrop r.id s else landReq r (sessStatus pick slot 1 zero s))
      | some a =>
        if !inboundTurn s r then .next s
        else
          let v := readError uncorr a (tookTurn r s)
          let w := if uncorr.val ≤ 2 then logSession r.gal r.home a v else v
          let d := if 3 ≤ uncorr.val then zero else if r.data = [] then rawRecord s a else r.data
          .next (if r.stale then reqDrop r.id w
            else landReq r (sessStatus pick slot (if 3 ≤ uncorr.val then 1 else 0) d w))

/-- SESSION_PUT (R246, R283, R284): posted. With the pick come the uncorrectable directory entries that its lookup meets. -/
def execSessionPut (pick : PickNo × List Nat) (i : Ptr) (s : State) : Res :=
  if !canIssue s pick.1 || issueWaits s pick.1 .put 2 64 then .next s
  else
    let p := pickSt s pick.1
    let b := blockAt p i 22
    let data := sessSlot p (beAt b 0 1 % 2)
    let u := lookupErrors (galSeam s (pick.1.val / 32)) (beAt b 1 1) (slice 4 18 b) pick.2 (issuedBlock pick.1 i 22 s)
    match resolvePut (galSeam s (pick.1.val / 32)) (beAt b 1 1) (slice 4 18 b) data u with
    | (.refused, v) => .next (programError pick.1 v)
    | (.done, v) => .next v
    | (.write g, v) =>
      .next (pushReq { id := 0, pick := pick.1, gal := 0, seam := 0, kind := .put, addr := some g, data := data, beats := 2 } false v)

/-- A write of a pick that its bank has accepted and that no earlier write of the pick to the same channel comes before (R263). -/
def putReady (s : State) (pick : Nat) (r : ShReq) : Bool :=
  r.pick == pick && r.kind == .put && r.doneTick.isSome && !r.budgetWait
    && !(s.shaft.reqs.any fun x => x.pick == pick && x.kind == .put && decide (x.id < r.id)
      && x.addr.map (· % 4) == r.addr.map (· % 4))

/-- SESSION_PUT_DONE (R262, R263): the pick's oldest write that is ready is done. -/
def execSessionPutDone (pick : PickNo) (s : State) : Res :=
  match s.shaft.reqs.find? (putReady s pick) with
  | none => .next s
  | some r => match r.addr with
    | some a => .next (reqDrop r.id (logSession r.gal r.home a (storeRecord a r.data s)))
    | none => .next (reqDrop r.id s)

/-- CRYPTO (R247, R289, R296). -/
def execCrypto (pick : PickNo) (i : Ptr) (nowait : Bool) (s : State) : Res :=
  if !canIssue s pick || issueWaits s pick .crypto 1 32 then .next s
  else
    let p := pickSt s pick
    let u := wbrEvent 6 (pick.val / 32) 1 (issuedBlock pick i 32 s)
    let r : ShReq := { id := 0, pick := pick, gal := 0, seam := 0, kind := .crypto, nowait := nowait }
    match cryptoCall s p (galSeam s (pick.val / 32)) (blockAt p i 32) with
    | none => .next (pushReq { r with denied := true } (!nowait) u)
    | some (o, mask) =>
      .next (pushReq { r with op := o, lanes := mask, keyFetched := o.slot.isNone, readyTick := s.clk.ticks
                              beats := max 1 (ceilDiv o.work 32) } (!nowait) (testWaitIssue mask u))

/-! ### STAMP (R185, R249, R250) -/

/-- What a granted STAMP returns. -/
structure Stamp where
  launch : Nat
  epoch : Nat
  code : Nat
  li : Nat
  silent : Bool
  smear : Bool
  record : List Nat
  origin : Nat
  /-- Number of the port's reservation. -/
  resv : Nat

/-- A refused STAMP of a pick's seam. -/
def stampRefused (pick : Nat) (s : State) : State :=
  wbrEvent 0x0F (pick / 32) 1 (seamRefused (galSeam s (pick / 32)) s)

/-- The NTP leap indicator for an instant: set inside the leap window only (R33). -/
def leapLi (s : State) (t : Nat) : Nat := if inLeapWindow s t then (if (leapAt s t).pending = 1 then 1 else 2) else 0

/-- A STAMP call of a pick (R151, R185, R250): port, NTP carrier, reservation index, length, requested instant and
T_x, in 2^-16 ns. -/
def stampCall (pick port : Nat) (carrier idx n req tx : Nat) (s : State) : Option Stamp × State :=
  let g := pick / 32
  let seam := galSeam s g
  let s0 := wbrEvent 0x0E g 1 s
  let bad := (none, stampRefused pick s0)
  if 1 < carrier ∨ 64 ≤ port ∨ (homeOf s port seam).isNone ∨ (sget none (pickSt s pick).resv idx).isSome then bad
  else if !s.lode.svc || (seamGate s seam).stopped || s.tally.hold then bad
  else
    match grantSlot s port n req (nowFu s) with
    | none => (none, stampRefused pick (rfBump (portBase port + 0x60) 31 16 1 s0))
    | some l =>
      let ntp := carrier == 1
      let code := boundCode s l (termDpt s port) (carrierAllowance ntp)
      let c := seamRec s seam
      if c.limit < code then (none, stampRefused pick (seamStop seam s0))
      else
        let smear := c.smear && ntp && inLeapWindow s l
        let id := s.prt.nextResv
        let st : Stamp := {
          launch := l, epoch := s.tally.epoch, code := code
          li := leapLi s l
          silent := !c.smear && (inInsertedSecond s l || inInsertedSecond s tx)
          smear := smear, record := boundRecord s l code (c.smear && ntp) (hopServed s), origin := originTrace s, resv := id }
        let u := takeResv port l n s0
        (some st, pickMod pick (fun p => { p with
          resv := sput none p.resv idx (some { id := id, port := port, n := n, launch := l, epoch := s.tally.epoch }) }) u)

/-- The last good measurement as an NTP timestamp with fraction 0 (R250); a true-UTC seam names 23:59:59 for an
instant inside the inserted second. -/
def refNtp (s : State) (seam : Nat) : Nat :=
  let t := s.lode.goodTime / oneSec * oneSec
  let u := seamUtc s seam t
  let v := if !(seamRec s seam).smear && inInsertedSecond s t then u - oneSec else u
  ntpOfUtc v / 2 ^ 32 * 2 ^ 32

/-- RESULT bytes 128 to 191 of a STAMP (R250). -/
def stampBytes (s : State) (seam carrier tx : Nat) (o : Option Stamp) : List Nat :=
  match o with
  | none => 0x80 :: List.replicate 63 0
  | some t =>
    let ntp := fun (x : Nat) => if carrier = 1 then beBytes 8 x else List.replicate 8 0
    [0, t.epoch, t.li + t.silent.toNat * 4 + t.smear.toNat * 8, 0] ++ beBytes 12 (lodeBits t.launch) ++ t.record
      ++ beBytes 4 t.origin ++ ntp (ntpOfUtc (seamUtc s seam t.launch)) ++ ntp (ntpOfUtc (seamUtc s seam tx))
      ++ ntp (refNtp s seam) ++ [0, 0, 0, 0]

/-- The gallery's queue of the control gate is full: what a pick hands over waits (R14). [DESIGN CHOICE, log 51] -/
def ctrlFull (s : State) (g : Nat) : Bool := decide (64 ≤ (galSt s g).ctrlIn.length)

/-- A transfer of a gallery to the control gate waits: for its outbound channel (R259), or for room in the gate's queue (R14). [DESIGN CHOICE, log 51] -/
def gateWaits (s : State) (g : Nat) : Bool := chanOf s g != 0 || ctrlFull s g

/-- STAMP (R14, R249, R250, R259). -/
def execStamp (pick : PickNo) (i : Ptr) (s : State) : Res :=
  if !canIssue s pick || gateWaits s (pick.val / 32) then .next s
  else
    let b := blockAt (pickSt s pick) i 28
    let m := beAt b 1 1
    let tx := ofLodeBits (beAt b 16 12)
    let req := if bitAt m 7 then 0 else ofLodeBits (beAt b 4 12)
    let r := stampCall pick (beAt b 0 1) (m % 16) (m / 64 % 2) (beAt b 2 2) req tx (issuedBlock pick i 28 s)
    let out := stampBytes s (galSeam s (pick.val / 32)) (m % 16) tx r.1
    .next (pickMod pick (fun p => p.pokeResult 128 out) r.2)

/-! ### EMIT, DROP, COUNT (R251, R252) -/

/-- What an EMIT asks. -/
structure EmitReq where
  n : Nat
  port : Nat
  final : Bool
  timed : Bool
  idx : Nat := 0
  bytes : List Nat
  ip4 : Option Nat := none
  udp : Option Nat := none
  oneStep : Option (Nat × Nat) := none

/-- Bytes of the ITEM space from a byte offset; beyond the frame they read 0 (R238). -/
def itemSlice (p : PickSt) (off n : Nat) : List Nat :=
  let l := match p.item with
    | some i => itemBytes i
    | none => []
  (List.range n).map fun k => (l[off + k]?).getD 0

/-- The EMIT that an operand block asks (R251). -/
def emitOf (p : PickSt) (b : List Nat) : EmitReq :=
  let f := beAt b 3 1
  let item := bitAt f 5
  let n := beAt b 0 2
  let od := bitAt f 6 && item
  let desc := match p.item with
    | some i => i.hdr
    | none => []
  { n := n, port := beAt b 2 1, final := bitAt f 0, timed := bitAt f 1, idx := beAt b 14 1 % 2
    bytes := if item then itemSlice p (beAt b 4 2) n else p.bytes 2 (2 * beAt b 4 2) n
    ip4 := if bitAt f 2 then some (if od then beAt desc 20 1 + 10 else beAt b 6 2) else none
    udp := if bitAt f 3 then some (if od then beAt desc 21 1 + 6 else beAt b 8 2) else none
    oneStep := if bitAt f 4 then some (beAt b 10 2, beAt b 12 2) else none }

/-- The module of a record that holds an address. -/
def moduleAt (b : Bank) (a : Nat) : Option ProgModule := b.prog.modules.find? fun m => decide (m.first ≤ a ∧ a ≤ m.last)

/-- A program may address the control gate: its dispatch classes include CONTROL or those of `ptp-ref` and `esmc`
(R251). -/
def mayControl (s : State) (pick : Nat) : Bool :=
  let p := pickSt s pick
  let b := bankOf s (pick / 32) p.bank
  match moduleAt b p.pc with
  | none => false
  | some m => [7, 8, 9, 0xB].any fun c => decide (m.first ≤ dispatchEntry b c ∧ dispatchEntry b c ≤ m.last)

/-- Whether an EMIT keeps the rules of R251, with the insertion offsets inside the frame's first 1,023 bytes (R187). -/
def emitOk (s : State) (pick : Nat) (e : EmitReq) : Bool :=
  let inside := fun (o : Option Nat) (k : Nat) => match o with
    | some x => decide (x + k ≤ min e.n 1023)
    | none => true
  decide (0 < e.n ∧ e.n ≤ 9212) && (decide (e.port < 64) || (e.port == 0x80 && mayControl s pick && !e.timed))
    && inside e.ip4 2 && inside e.udp 2 && inside (e.oneStep.map (·.1)) 10 && inside (e.oneStep.map (·.2)) 8
    && (!e.timed || match sget none (pickSt s pick).resv e.idx with
      | some r => r.port == e.port && r.n == e.n
      | none => false)

/-- Hands a frame to the transmit gate of its port (R251); a timed frame takes its reservation. -/
def handFrame (pick : Nat) (e : EmitReq) (s : State) : State :=
  let h := if e.timed then sget none (pickSt s pick).resv e.idx else none
  let held := match h with
    | some r => (portSt s e.port).resvs.any fun x => x.id == r.id && x.fate != .sent
    | none => true
  let late := match h with
    | some r => !held && decide (r.launch ≤ nowFu s + fuOfNs 250)
    | none => false
  let x : TxFrame := {
    seq := s.prt.nextTx, pick := pick, bytes := e.bytes, final := e.final, resv := h.map (·.id)
    ip4 := e.ip4, udp := e.udp, oneStep := if e.timed then e.oneStep else none
    vacant := late, dead := !held && !late }
  let u := portMod e.port (fun q => { q with tx := q.tx ++ [x] }) s
  let v := { u with prt := { u.prt with nextTx := s.prt.nextTx + 1 } }
  if e.timed then pickMod pick (fun p => { p with resv := sput none p.resv e.idx none }) v else v

/-- An EMIT to the control gate: one of a single transfer is in the gate's queue; a longer one sends its first 512 bytes, and
the pick waits as for a transmit gate (R225, R259). [DESIGN CHOICE, log 45] -/
def controlEmit (pick : Nat) (e : EmitReq) (s : State) : State :=
  if e.n ≤ 512 then
    let u := galMod (pick / 32) (fun q => { q with ctrlIn := q.ctrlIn ++ [e.bytes] }) s
    if e.final then countEnded pick (endItem pick true false u) else u
  else
    let r : ShReq := {
      id := 0, pick := pick, gal := 0, seam := 0, kind := .emit, data := e.bytes, slot := e.final.toNat
      beats := ceilDiv e.n 32, sent := 16, granted := true }
    if e.final then pushReq r false (countEnded pick (endItem pick true true s)) else pushReq r true s

/-- The effect of an EMIT after its issue steps (R251); `ok` says whether it keeps the rules. [DESIGN CHOICE, log 46] -/
def emitEffect (ok : Bool) (pick : Nat) (e : EmitReq) (s : State) : State :=
  if !ok then
    let u := programError pick (if e.timed then
        pickMod pick (fun p => { p with resv := sput none p.resv e.idx none }) s
      else s)
    if e.final then countEnded pick (endItem pick true false u) else u
  else if e.port = 0x80 then controlEmit pick e s
  else
    let u := handFrame pick e s
    if e.final then countEnded pick (endItem pick true true u) else block pick u

/-- The EMIT of a block reads its frame beyond the ITEM space: a program error, and those bytes are 0 (R238, R254). -/
def emitOutside (p : PickSt) (b : List Nat) : Bool := bitAt (beAt b 3 1) 5 && decide (itemSize p < 2 * (beAt b 4 2 + beAt b 0 2))

/-- EMIT (R251). An EMIT to a full control-gate queue waits (R14), and one to the control gate for the gallery's outbound
channel (R259). -/
def execEmit (pick : PickNo) (i : Ptr) (s : State) : Res :=
  if !canIssue s pick then .next s
  else
    let p := pickSt s pick
    let b := blockAt p i 16
    let e := emitOf p b
    let ok := emitOk s pick e
    if e.port = 0x80 ∧ gateWaits s (pick.val / 32) = true ∧ ok = true then .next s
    else
      let u := issuedBlock pick i 16 s
      .next (emitEffect ok pick e (if ok && emitOutside p b then programError pick u else u))

/-- A pick whose frame has crossed its gate goes on: to its next item after a final EMIT, else past its call (R225, R244). -/
def released (pick : Nat) (final : Bool) (s : State) : State :=
  if final then pickMod pick (fun q => { q with releasing := false, leaving := none }) s else unblock pick s

/-- The next transfer of a pick's long EMIT to the control gate (R14, R259); with the last, the frame is in the gate's queue. -/
def controlRelease (pick : Nat) (s : State) : State :=
  match s.shaft.reqs.find? fun r => r.pick == pick && r.kind == .emit with
  | none => s
  | some r =>
    if chanOf s r.gal ≠ 0 then s
    else if r.sent + 16 < r.beats then reqMod r.id (fun x => { x with sent := x.sent + 16 }) s
    else if ctrlFull s r.gal then s
    else released pick (decide (r.slot = 1)) (reqDrop r.id (galMod r.gal (fun q => { q with ctrlIn := q.ctrlIn ++ [r.data] }) s))

/-- EMIT_RELEASE (R225, R245): the last beat of the pick's oldest frame crosses the transmit gate; without one, the next transfer
of its frame to the control gate does. -/
def execEmitRelease (pick : PickNo) (s : State) : Res :=
  match (List.range 64).find? fun p => (portSt s p).tx.any fun x => x.pick == pick.val && !x.released && !txMoving x with
  | none => .next (controlRelease pick s)
  | some p =>
    match (portSt s p).tx.find? fun x => x.pick == pick.val && !x.released && !txMoving x with
    | none => .next s
    | some x =>
      let u := pruneTx p (txMod p x.seq (fun y => { y with released := true }) s)
      .next (released pick x.final u)

/-- DROP (R252). -/
def execDrop (pick : PickNo) (s : State) : Res :=
  .next (if canIssue s pick then countEnded pick (endItem pick true false (issued pick s)) else s)

/-- Adds 1 to a program counter of a gallery, and to its seam's sum (R220, R252). -/
def countAt (g i : Nat) (s : State) : State :=
  rfBump (seamBase (galSeam s g) + 0x800 + 4 * i) 31 0 1
    (galMod g (fun q => { q with pcnt := sput 0 q.pcnt i (satAdd 32 (sget 0 q.pcnt i) 1) }) s)

/-- COUNT (R252). -/
def execCount (pick : PickNo) (k : Fin 64) (s : State) : Res :=
  .next (if canIssue s pick then countAt (pick.val / 32) k (issued pick s) else s)

/-! ### INBOX (R252, R265) -/

/-- INBOX status. -/
def inboxStatus (pick st : Nat) (s : State) : State := pickMod pick (fun p => p.pokeResult 202 [st]) s

/-- Free Q_INBOX entries of a gallery, those reserved left out. -/
def inboxRoom (s : State) (g : Nat) : Nat :=
  16 - ((galSt s g).qInbox.length + (s.shaft.reqs.filter fun r => r.kind == .inbox && r.dest == g).length)

/-- INBOX (R252, R265). -/
def execInbox (pick : PickNo) (i : Ptr) (s : State) : Res :=
  if !canIssue s pick || issueWaits s pick .inbox 1 32 then .next s
  else
    let p := pickSt s pick
    let b := blockAt p i 8
    let d := beAt b 0 1
    let n := beAt b 2 2
    let off := beAt b 4 2
    let g := pick.val / 32
    let u := issuedBlock pick i 8 s
    if 16 ≤ d ∨ n = 0 ∨ 2048 < n ∨ 2048 < off + n ∨ ((galCfg s d).used = true ∧ galSeam s d ≠ galSeam s g) then
      .next (inboxStatus pick 0x80 u)
    else if (galSt s d).phase ≠ .active ∨ inboxRoom s d = 0 then .next (wbrEvent 0x0D g 1 (inboxStatus pick 1 u))
    else match findCells s d (ceilDiv n 128) with
      | none => .next (wbrEvent 0x0D g 1 (inboxStatus pick 1 u))
      | some c =>
        let v := galMod d (fun q => { q with nextCell := (c + ceilDiv n 128) % 1536 }) u
        .next (pushReq { id := 0, pick := pick, gal := 0, seam := 0, kind := .inbox, data := p.bytes 2 (2 * off) n
                         dest := d, cell := c, beats := ceilDiv n 32 } true v)

/-- The work item of an INBOX call (R222, R265). -/
def inboxItem (r : ShReq) : Item :=
  { cls := 0xD, cell := r.cell, cells := ceilDiv r.data.length 128, frame := r.data
    hdr := List.replicate 12 0 ++ beBytes 2 r.data.length ++ [r.gal, r.seam, 0xD] ++ List.replicate 7 0
      ++ beBytes 4 (128 * r.cell) ++ List.replicate 4 0 }

/-- INBOX_DATA_LANDED (R259, R265, R222): a transfer of at most 16 beats lands; with the last, the item is queued, and status
0x00 is returned. A transfer waits for the gallery's outbound channel, for its turn at the inbox and for the inbox's turn at
the gallery's port (R273). A destination fenced in the meantime has no queue to take it. [DESIGN CHOICE, log 45] -/
def execInboxDataLanded (pick : PickNo) (s : State) : Res :=
  match s.shaft.reqs.find? fun r => r.pick == pick.val && r.kind == .inbox with
  | none => .next s
  | some r =>
    if chanOf s r.gal ≠ 0 ∨ inboxTurn s r = false ∨ inboundTurn s r = false then .next s
    else
      let t := tookTurn r s
      let u := { t with shaft := { t.shaft with rrInbox := sput 0 t.shaft.rrInbox r.dest (r.gal + 1) } }
      if r.sent + 16 < r.beats then .next (reqMod r.id (fun x => { x with sent := x.sent + 16, granted := true }) u)
      else
        let v := if galRuns s r.dest then galMod r.dest (fun q => { q with qInbox := q.qInbox ++ [inboxItem r] }) u else u
        .next (if r.stale then reqDrop r.id v else landReq r (inboxStatus pick 0 v))

end Sys2Proof.Machine
end

