-- ==== Sys2Proof/Machine/Calls.lean ====
section
/-! DEFINITION. What the standard programs do through helpers: their steps, and their session, crypto, STAMP and EMIT calls, which cross the Shaft as any pick's do (R217, R244 to R254, R258 to R273). -/

namespace Sys2Proof.Machine

/-! ### Steps (R217, R227) -/

/-- The bank that a pick's item runs in. -/
def pickBank (s : State) (pick : Nat) : Bank := bankOf s (pick / 32) (pickSt s pick).bank

/-- The ID of the module that a pick's program counter is in; 0 for none. -/
def pickModule (s : State) (pick : Nat) : Nat :=
  ((moduleAt (bankOf s (pick / 32) (pickSt s pick).bank) (pickSt s pick).pc).map (·.id)).getD 0

/-- A standard program takes steps for an outcome: a free number up to the limit `most` of R217, or below the watchdog's limit
where the table names none (R227, R404). [DESIGN CHOICE, log 47] -/
def progSteps (pick : Nat) (most : Option Nat) (s : State) : State :=
  let f := takeFree s
  let left := watchdogSteps (pickBank s pick) - 1 - (pickSt s pick).steps
  let n := match most with
    | some m => min m left
    | none => left
  pickMod pick (fun p => { p with steps := p.steps + Config.programSteps f.1 % (n + 1) }) f.2

/-- The limit of R217 for a drop at an index of R219; `esmc` has one for every PDU. -/
def dropLimit (s : State) (pick : Nat) (idx : Option Nat) : Option Nat :=
  if pickModule s pick = 5 then some 400
  else if idx = some 3 then some 180
  else if idx = some 8 ∨ idx = some 16 then some 120
  else none

/-- Ends an item without a frame, counted at an index of R219, within a limit of steps. -/
def progDropIn (pick : Nat) (most idx : Option Nat) (s : State) : State :=
  let u := progSteps pick most s
  countEnded pick (endItem pick true false (match idx with
    | some i => countAt (pick / 32) i u
    | none => u))

/-- Ends an item without a frame, counted at an index of R219. -/
def progDrop (pick : Nat) (idx : Option Nat) (s : State) : State := progDropIn pick (dropLimit s pick idx) idx s

/-- An EMIT of a standard program, whose outcome has the limit `most`; a final one ends its item. -/
def emitCall (pick : Nat) (most : Option Nat) (e : EmitReq) (s : State) : State :=
  emitEffect (emitOk s pick e) pick e (if e.final then progSteps pick most s else s)

/-! ### Waiting -/

/-- A call of a standard program has to wait: it stays outstanding. -/
def stall (pick : Nat) (s : State) : State := pushReq { id := 0, pick := pick, gal := 0, seam := 0, kind := .stamp } false s

/-- Serves an item by a standard program. A program whose work leaves a call outstanding waits for it: the item waits, with
nothing of the work done but the count of a wait for the one lane under test (R292), until its command comes again. [DESIGN CHOICE, log 47] -/
def served (f : State → State) (s : State) : State :=
  let u := f s
  if s.shaft.reqs.length < u.shaft.reqs.length then
    match (u.shaft.reqs.drop s.shaft.reqs.length).find? (·.kind == .crypto) with
    | some r => testWaitIssue r.lanes s
    | none => s
  else u

/-! ### Transfers (R259, R268 to R271) -/

/-- The draws of a program's call fall in a handshake cycle of their own. [DESIGN CHOICE, log 45] -/
def newCycle (s : State) : State := { s with shaft := { s.shaft with cycleLast := 38 } }

/-- The next transfer of request `id` goes to target `t`: by a draw, or at once to the lane bound to it (R268). Where the target
or the gallery's channel is taken, or the draw goes to another, the request stays outstanding. -/
def callTransfer (t id : Nat) (s : State) : State :=
  match reqOf s id with
  | none => s
  | some r =>
    if (holderOf s t).isSome || chanOf s r.gal != 0 then s
    else if t < 16 ∧ (laneSt s t).bound = id + 1 then completeHolder t (grantReq t false r s)
    else
      let u := newCycle s
      let v := drawFor t [] (eligible u t none [] (fun _ => true)) u
      if (holderOf v t).map (·.req) = some id then completeHolder t v else v

/-- The transfers of request `id` to target `t`, at most `n`. -/
def callSends (t id : Nat) : Nat → State → State
  | 0, s => s
  | n + 1, s => match reqOf s id with
    | some r => if r.doneTick.isSome then s else callSends t id n (callTransfer t id s)
    | none => s

/-! ### Session calls (R246, R262, R281 to R285, R306) -/

/-- A session request to record `g` reaches its channel's bank, with the waits of the line's accesses. -/
def callAccess (g id : Nat) (s : State) : State :=
  let u := callSends (16 + g % 4) id 1 s
  match reqOf u id with
  | some r => if r.budgetWait then flushWaiting r.seam (g % 4) u else u
  | none => u

/-- The answer of a GET that finds no record. -/
def noRecord : List Nat := List.replicate 64 0

/-- A program's GET: status and record (R282). -/
def sessGetNow (pick seam kind : Nat) (key : List Nat) (s : State) : Nat × List Nat × State :=
  if issueWaits s pick .get 2 64 then (1, noRecord, stall pick s)
  else
    let id := s.shaft.nextReq
    match resolveGet seam kind key (wbrEvent 3 (pick / 32) 1 s) with
    | (.denied, t) => (0x80, noRecord, t)
    | (.none, t) => (1, noRecord, t)
    | (.entry g, t) =>
      let u := callAccess g id (pushReq {
        id := 0, pick := pick, gal := 0, seam := 0, kind := .get, addr := some g, nowait := true } false t)
      match reqOf u id with
      | none => (1, noRecord, u)
      | some r =>
        if r.doneTick.isNone || !inboundTurn u r then (1, noRecord, u)
        else (0, rawRecord u g, reqDrop id (logSession r.gal r.home g (tookTurn r u)))

/-- A program's PUT. One that is refused is a program error (R246, R283). -/
def sessPutNow (pick seam kind : Nat) (key data : List Nat) (s : State) : State :=
  if issueWaits s pick .put 2 64 then stall pick s
  else
    let id := s.shaft.nextReq
    match resolvePut seam kind key data s with
    | (.refused, t) => programError pick t
    | (.done, t) => t
    | (.write g, t) =>
      let u := callAccess g id (pushReq {
        id := 0, pick := pick, gal := 0, seam := 0, kind := .put, addr := some g, data := data, beats := 2 } false t)
      match reqOf u id with
      | none => u
      | some r => if r.doneTick.isNone then u else reqDrop id (logSession r.gal r.home g (storeRecord g data u))

/-- The errors that SECDED finds, in a seam's range, in what a program's session calls read (R284). [DESIGN CHOICE, log 47] -/
def memErrors (seam : Nat) (l : List (Nat × ReadErr)) (s : State) : State :=
  let c := seamRec s seam
  (l.filter fun e => decide (c.recBase ≤ e.1 ∧ e.1 < c.recBase + c.recCount)).foldl (fun t e => readError e.2 e.1 t) s

/-! ### Crypto calls (R247, R289 to R293, R297) -/

/-- The lane that a program's operation goes to: the lowest of its mask that is free. [DESIGN CHOICE, log 47] -/
def callLane (s : State) (r : ShReq) : Option Nat :=
  (List.range 16).find? fun c => (holderOf s c).isNone && wants s c none r

/-- The input of a program's operation, once its key is fetched, goes to a lane. -/
def callInput (id : Nat) (s : State) : State :=
  match reqOf s id with
  | none => s
  | some r =>
    if !r.keyFetched || r.denied then s
    else match fixedLane s r, callLane s r with
      | some (c, _), _ => fixedUntil c r.seam id (fixedWaiting s c r.seam).length s
      | none, some c => callSends c id r.beats s
      | none, none => s

/-- The result of a program's operation on lane `c`; its input check verifies (R291). [DESIGN CHOICE, log 47] -/
def callLand (c : Nat) (r : ShReq) (s : State) : Option (List Nat) × State :=
  let x := runCrypto r.op.label r.op (laneCount c r s)
  (x.1, reqDrop r.id x.2)

/-- The result of a program's request, which stays outstanding where it is not ready. -/
def callResult (id : Nat) (s : State) : Option (List Nat) × State :=
  match reqOf s id with
  | none => (none, s)
  | some r =>
    if r.denied then (none, reqDrop id s)
    else match r.doneTick, r.lane with
      | some t, some c =>
        if (laneCfg s c).fixed then
          (if fixedBefore s c r then (none, s) else callLand c r (elapseTo (t + ticksOfNs 400) s))
        else if inboundTurn s r then callLand c r (tookTurn r s)
        else (none, s)
      | _, _ => (none, s)

/-- A program's CRYPTO call: its output, none where it is DENIED or its authentication check fails. -/
def callCrypto (pick : Nat) (o : CryptoOp) (s : State) : Option (List Nat) × State :=
  let seam := galSeam s (pick / 32)
  let u := wbrEvent 6 (pick / 32) 1 s
  if issueWaits s pick .crypto 1 32 then (none, stall pick s)
  else if !opOk s seam o then (none, u)
  else
    let id := s.shaft.nextReq
    let v := pushReq {
      id := 0, pick := pick, gal := 0, seam := 0, kind := .crypto, nowait := true, op := o, lanes := opLanes s seam o
      keyFetched := o.slot.isNone, readyTick := s.clk.ticks, beats := max 1 (ceilDiv o.work 32) } false
      (testWaitIssue (opLanes s seam o) u)
    callResult id (callInput id (if o.slot.isSome then callTransfer 20 id v else v))

/-! ### STAMP (R14, R249, R250) -/

/-- A program's STAMP; it waits as a pick's call does (R14, R259). -/
def callStamp (pick port : Nat) (carrier idx n req tx : Nat) (s : State) : Option Stamp × State :=
  if gateWaits s (pick / 32) then (none, stall pick s) else stampCall pick port carrier idx n req tx s

end Sys2Proof.Machine
end

