-- ==== Sys2Proof/Machine/Proto.lean ====
section
/-! DEFINITION. What the standard programs share: the item they serve, frames, and NTP, NTS, neigh and ESMC (R199 to R201, R210 to R216, R219). A standard program's work on an item is done in one step, with its helper calls completed; where one has to wait, the item does. -/

namespace Sys2Proof.Machine

/-! ### The item served -/

/-- A record holds the standard program with an ID. -/
def bankRuns (b : Bank) (id : Nat) : Bool := b.prog.modules.any (·.id == id)

/-- A frame that a pick's standard program serves. -/
structure RxReq where
  pick : Nat
  seam : Nat
  port : Nat
  cls : Nat
  flags : Nat
  tRx : Nat
  f : List Nat
  q : Parsed

/-- The frame that a running pick holds. -/
def rxReq (s : State) (pick : Nat) : Option RxReq :=
  let p := pickSt s pick
  match p.item with
  | some i =>
    if p.phase = .running ∧ i.cls < 0xB then
      some { pick := pick, seam := beAt i.hdr 15 1, port := beAt i.hdr 14 1 % 64, cls := i.cls, flags := beAt i.hdr 17 1
             tRx := ofLodeBits (beAt i.hdr 0 12), f := i.frame, q := parse i.frame }
    else none
  | none => none

/-- The descriptor's TS_INVALID (R182). -/
def RxReq.invalid (r : RxReq) : Bool := bitAt r.flags 5

/-! ### Frames -/

/-- A free field of a frame. [PRESUMED, log 48] -/
def wireField (k : Nat) (s : State) : Nat := Config.wireField k s.prt.nextTx

/-- Where a message goes: IP version (0 Ethernet), the bytes up to the ethertype, addresses and UDP ports. -/
structure Wire where
  ver : Nat
  l2 : List Nat
  src : Nat := 0
  dst : Nat := 0
  sport : Nat := 0
  dport : Nat := 0

/-- Offset of the payload of a message. -/
def Wire.at' (w : Wire) : Nat := w.l2.length + (if w.ver = 4 then 28 else if w.ver = 6 then 48 else 0)

/-- Length of a frame with a payload of `n` bytes (R176: 64 bytes with the FCS). -/
def Wire.len (w : Wire) (n : Nat) : Nat := max 60 (w.at' + n)

/-- Pads a frame to 60 bytes. -/
def pad60 (l : List Nat) : List Nat := l ++ List.replicate (60 - l.length) 0

/-- An IP header without its checksum. [PRESUMED, log 48] -/
def ipHeader (s : State) (ver proto src dst len : Nat) : List Nat :=
  if ver = 4 then
    [0x45, wireField 0 s % 256] ++ beBytes 2 (20 + len) ++ beBytes 2 (wireField 1 s) ++ beBytes 2 (wireField 2 s % 2 * 0x4000)
      ++ [wireField 3 s % 256, proto, 0, 0] ++ beBytes 4 src ++ beBytes 4 dst
  else
    beBytes 4 (6 * 2 ^ 28 + wireField 4 s % 2 ^ 28) ++ beBytes 2 len ++ [proto, wireField 5 s % 256]
      ++ beBytes 16 src ++ beBytes 16 dst

/-- The frame that carries a payload; checksums are left to the port. -/
def Wire.frame (w : Wire) (s : State) (payload : List Nat) : List Nat :=
  if w.ver = 0 then pad60 (w.l2 ++ payload)
  else
    let udp := beBytes 2 w.sport ++ beBytes 2 w.dport ++ beBytes 2 (8 + payload.length) ++ [0, 0] ++ payload
    pad60 (w.l2 ++ ipHeader s w.ver 17 w.src w.dst udp.length ++ udp)

/-- The EMIT of a payload, with the insertions of the port's checksums (R187). -/
def Wire.emit (w : Wire) (s : State) (port : Nat) (timed : Bool) (idx : Nat) (payload : List Nat) : EmitReq :=
  let f := w.frame s payload
  { n := f.length, port := port, final := true, timed := timed, idx := idx, bytes := f
    ip4 := if w.ver = 4 then some (w.l2.length + 10) else none
    udp := if w.ver = 0 then none else some (w.at' - 2) }

/-- Whether a frame was sent to a group address. -/
def RxReq.multicast (r : RxReq) : Bool := bitAt (beAt r.f 0 1) 0

/-- The way back to a request's sender, with the request's VLAN tags. [DESIGN CHOICE, log 49] -/
def replyWire (s : State) (r : RxReq) : Wire :=
  let c := seamRec s r.seam
  let own := if r.q.ipver = 4 then c.ip4 else c.ip6
  { ver := r.q.ipver, l2 := slice 6 6 r.f ++ beBytes 6 c.mac ++ slice 12 (r.q.l3 - 12) r.f
    src := if r.multicast then own else r.q.dst, dst := r.q.src
    sport := (r.q.udp.getD (0, 0)).2, dport := (r.q.udp.getD (0, 0)).1 }

/-- Hands a frame of an item that is to go on, to its port. -/
def sendMore (pick : Nat) (e : EmitReq) (s : State) : State :=
  if !emitOk s pick e then programError pick s
  else
    let u := handFrame pick { e with final := false } s
    portMod e.port (fun q => { q with tx := q.tx.map fun x => if x.seq = s.prt.nextTx then { x with released := true } else x }) u

/-- Payload of a request's UDP datagram. -/
def RxReq.data (r : RxReq) : List Nat := slice r.q.payload (beAt r.f (r.q.l4 + 4) 2 - 8) r.f

/-! ### NTP (R210 to R212) -/

/-- Extension fields as (type, whole field), with what is left over. -/
def extFields : Nat → List Nat → List (Nat × List Nat) × List Nat
  | 0, l => ([], l)
  | n + 1, l =>
    let len := beAt l 2 2
    if l.length < 4 ∨ len < 16 ∨ len % 4 ≠ 0 ∨ l.length < len then ([], l)
    else
      let r := extFields n (l.drop len)
      ((beAt l 0 2, l.take len) :: r.1, r.2)

/-- Extension fields of a request, each at least 16 bytes long (R210). -/
def RxReq.exts (r : RxReq) : List (Nat × List Nat) × List Nat := extFields r.data.length (r.data.drop 48)

/-- Whether a request carries an extension field of a type. -/
def RxReq.hasExt (r : RxReq) (t : Nat) : Bool := r.exts.1.any (·.1 == t)

/-- The header checks of R210: the index of the first that fails. [DESIGN CHOICE, log 49] -/
def ntpCheck (r : RxReq) : Option Nat :=
  let d := r.data
  let b := beAt d 0 1
  let rest := r.exts.2.length
  if b % 8 ≠ 3 ∨ (b / 8 % 8 ≠ 3 ∧ b / 8 % 8 ≠ 4) then some 8
  else if d.length < 48 then some 16
  else if rest = 20 ∨ rest = 24 ∨ rest = 4 then some 8
  else if rest ≠ 0 then some 16
  else none

/-- Stratum of a response (R211). -/
def ntpStratum (s : State) (st : Stamp) : Nat :=
  if bitAt (beAt st.record 6 1) 6 then 16
  else if s.cfg.str.role = .headframe then 1 else beAt st.record 7 1 + 1

/-- Reference ID of a response (R211). -/
def ntpRefId (s : State) (st : Stamp) : List Nat :=
  let k := ntpStratum s st
  let c := st.origin / 2 ^ 28
  if k = 16 then [0x4E, 0x4F, 0x4E, 0x45]
  else if k = 1 ∧ c < 2 then [0x47, 0x4E, 0x53, 0x53]
  else if k = 1 ∧ c = 2 then [0x50, 0x50, 0x53, 0]
  else if k = 1 ∧ c = 3 then [0x50, 0x54, 0x50, 0]
  else beBytes 4 st.origin

/-- Root dispersion in the 16.16 short format (R211): a code is 62.5 ps. -/
def ntpDispersion (code : Nat) : Nat := min (ceilDiv (code * 65536) 16000000000) 0xFFFFFFFF

/-- The 48-byte header of a response (R211). [PRESUMED, log 48] -/
def ntpHeader (s : State) (r : RxReq) (st : Stamp) : List Nat :=
  let d := r.data
  let c := seamRec s r.seam
  let li := if bitAt (beAt st.record 6 1) 6 then 3 else st.li
  let poll := clampInt c.pollLo c.pollHi (signedOf 8 (beAt d 2 1))
  [li * 64 + beAt d 0 1 / 8 % 8 * 8 + 4, ntpStratum s st, twosComp 8 poll, 0xE0, 0, 0, 0, 0]
    ++ beBytes 4 (ntpDispersion st.code) ++ ntpRefId s st ++ beBytes 8 (refNtp s r.seam) ++ slice 40 8 d
    ++ beBytes 8 (ntpOfUtc (seamUtc s r.seam r.tRx)) ++ beBytes 8 (ntpOfUtc (seamUtc s r.seam st.launch))

/-- Whether a response carries the bound field (R212). -/
def wantsBound (s : State) (r : RxReq) : Bool :=
  let c := seamRec s r.seam
  c.boundAlways || r.hasExt c.boundType

/-- The bound extension field (R212). -/
def boundField (s : State) (r : RxReq) (st : Stamp) : List Nat :=
  if wantsBound s r then beBytes 2 (seamRec s r.seam).boundType ++ [0, 24] ++ st.record ++ beBytes 4 st.origin else []

/-- The STAMP of a response of `n` bytes with the checks of R219 after it: the stamp, or the index that drops the
request. -/
def respStamp (r : RxReq) (carrier n : Nat) (s : State) : (Stamp ⊕ Nat) × State :=
  let x := callStamp r.pick r.port carrier 0 n 0 r.tRx s
  match x.1 with
  | none => (.inr 1, x.2)
  | some st =>
    if carrier = 1 ∧ st.silent = true then (.inr 9, x.2)
    else if fuOfNs ((seamRec s r.seam).aMaxUs * 1000) < st.launch - r.tRx then (.inr 2, x.2)
    else (.inl st, x.2)

/-- ntp-srv on a request (R210, R211). [DESIGN CHOICE, log 47] -/
def ntpServe (r : RxReq) (s : State) : State :=
  match ntpCheck r with
  | some i => progDrop r.pick (some i) s
  | none =>
    if r.invalid then progDrop r.pick (some 3) s
    else
      let w := replyWire s r
      match respStamp r 1 (w.len (48 + if wantsBound s r then 24 else 0)) s with
      | (.inr i, u) => progDrop r.pick (some i) u
      | (.inl st, u) =>
        emitCall r.pick (some 1800) (w.emit u r.port true 0 (ntpHeader s r st ++ boundField s r st)) (countAt (r.pick / 32) 0 u)

/-- NTP_REQUEST: ntp-srv serves the class-0x6 item of a pick, unless nts-srv takes it (R199). -/
def execNtpRequest (pick : PickNo) (s : State) : Res :=
  match rxReq s pick with
  | none => .next s
  | some r =>
    let b := pickBank s pick
    if r.cls ≠ 6 ∨ (pickModule s pick ≠ 3 ∧ pickModule s pick ≠ 4) ∨ bankRuns b 3 = false
        ∨ (bankRuns b 4 = true ∧ r.hasExt 0x0104 = true) then .next s
    else .next (served (ntpServe r) s)

/-! ### NTS (R213 to R215) -/

/-- The Unique Identifier, the associated data, the nonce and the ciphertext of an NTS request, with its cookie and
the number of its placeholders; none where a field is missing or does not fit. -/
structure NtsReq where
  uid : List Nat
  ad : List Nat
  nonce : List Nat
  ct : List Nat
  cookie : List Nat
  holders : Nat

/-- Reads the NTS fields of a request: the Authenticator is the last field. -/
def ntsReq (r : RxReq) : Option NtsReq :=
  let e := r.exts.1
  match e.find? (·.1 == 0x0104), e.find? (·.1 == 0x0204), e.getLast? with
  | some u, some c, some a =>
    let nl := beAt a.2 4 2
    let cl := beAt a.2 6 2
    let np := (nl + 3) / 4 * 4
    if a.1 ≠ 0x0404 ∨ c.2.length ≠ 108 ∨ a.2.length < 8 + np + cl ∨ cl < 16 ∨ nl = 0 then none
    else some { uid := u.2, ad := r.data.take (r.data.length - a.2.length), nonce := slice 8 nl a.2
                ct := slice (8 + np) cl a.2, cookie := c.2.drop 4, holders := (e.filter (·.1 == 0x0304)).length }
  | _, _, _ => none

/-- The operation that verifies a request's Authenticator under a C2S key (R214): AES-SIV open. -/
def ntsVerifyOp (n : NtsReq) (c2s : List Nat) : CryptoOp :=
  { code := 0x08, key := c2s, segs := [(0, n.ad), (2, n.nonce), (1, n.ct)], outLim := 2048 }

/-- The slot of the cookie key that a cookie's key ID names (R213). -/
def cookieSlot (s : State) (seam : Nat) (k : List Nat) : Option Nat :=
  let c := seamRec s seam
  [c.cookieCur, c.cookiePrev].find? fun i => (magSlot s i).label == beAt k 0 4 && slotAllowed s seam i 0x08

/-- The operation that opens a cookie under the key in a slot (R213). -/
def cookieOp (slot : Nat) (k : List Nat) : CryptoOp :=
  { code := 0x08, slot := some slot, segs := [(0, k.take 4), (2, slice 4 16 k), (1, slice 20 84 k)], outLim := 68 }

/-- The keys in a cookie, C2S then S2C (R213). -/
def openCookie (pick seam : Nat) (k : List Nat) (s : State) : Option (List Nat) × State :=
  match cookieSlot s seam k with
  | none => (none, s)
  | some i =>
    let a := callCrypto pick (cookieOp i k) s
    (a.1.map fun b => fit 64 (b.drop 4), a.2)

/-- Session key of a request's source: kind and key bytes (R286). -/
def srcKey (r : RxReq) : Nat × List Nat :=
  let sp := beBytes 2 (r.q.udp.getD (0, 0)).1
  if r.q.ipver = 4 then (0, beBytes 4 r.q.src ++ sp) else (1, beBytes 16 r.q.src ++ sp)

/-- The NTS NAK, or its drop beyond the seam's rate (R215). It is sent without a STAMP. A true-UTC seam does not answer where
T_rx or the present lies in an inserted second (R34). [DESIGN CHOICE, log 49] -/
def ntsNak (r : RxReq) (uid : List Nat) (s : State) : State :=
  let sec := nowFu s / oneSec
  let st := seamSt s r.seam
  let n := if st.nakSec = sec then st.nakN else 0
  if !(seamRec s r.seam).smear && (inInsertedSecond s r.tRx || inInsertedSecond s (nowFu s)) then progDrop r.pick (some 9) s
  else if (seamRec s r.seam).nakRate ≤ n then progDropIn r.pick (some 180) (some 7) s
  else
    let u := countAt (r.pick / 32) 6 (seamMod r.seam (fun x => { x with nakSec := sec, nakN := n + 1 }) s)
    let v := beAt r.data 0 1 / 8 % 8
    let hdr := [leapLi s (nowFu s) * 64 + v * 8 + 4, 0, wireField 8 s % 256, wireField 9 s % 256]
      ++ beBytes 4 (wireField 10 s) ++ beBytes 4 (wireField 11 s) ++ [0x4E, 0x54, 0x53, 0x4E] ++ List.replicate 32 0
    emitCall r.pick none ((replyWire s r).emit u r.port false 0 (hdr ++ uid)) u

/-- The operation that seals a response with `k` new cookies (R215, R288): NTS seal under the seam's current cookie key. -/
def ntsSealOp (slot : Nat) (keys ad : List Nat) (k : Nat) : CryptoOp :=
  { code := 0x10, slot := some slot, segs := [(0, ad)], slot0 := keys, outLim := 40 + 108 * k }

/-- New cookies that a response carries: one, and one for each placeholder, up to four (R215). -/
def newCookies (n : NtsReq) : Nat := min 4 (n.holders + 1)

/-- Steps that a response may take (R217): on the fast path 110 more for each further cookie. -/
def ntsLimit (fast : Bool) (k : Nat) : Nat := if fast then 3600 + 110 * (k - 1) else 4400

/-- A verified request's response (R215). A seal that is DENIED drops it. -/
def ntsRespond (r : RxReq) (n : NtsReq) (fast : Bool) (keys : List Nat) (s : State) : State :=
  let k := newCookies n
  let w := replyWire s r
  match respStamp r 1 (w.len (48 + n.uid.length + (if wantsBound s r then 24 else 0) + 40 + 108 * k)) s with
  | (.inr i, u) => progDrop r.pick (some i) u
  | (.inl st, u) =>
    let ad := ntpHeader s r st ++ n.uid ++ boundField s r st
    match callCrypto r.pick (ntsSealOp (seamRec s r.seam).cookieCur keys ad k) u with
    | (none, v) => progDrop r.pick none v
    | (some x, v) =>
      emitCall r.pick (some (ntsLimit fast k)) (w.emit v r.port true 0 (ad ++ x)) (countAt (r.pick / 32) 0 v)

/-- The miss path (R214). [DESIGN CHOICE, log 49] -/
def ntsMiss (r : RxReq) (n : NtsReq) (s : State) : State :=
  match openCookie r.pick r.seam n.cookie (countAt (r.pick / 32) 5 s) with
  | (none, u) => ntsNak r n.uid u
  | (some keys, u) =>
    match callCrypto r.pick (ntsVerifyOp n (keys.take 32)) u with
    | (some _, v) => ntsRespond r n false keys (sessPutNow r.pick r.seam (srcKey r).1 (srcKey r).2 keys v)
    | (none, v) => progDrop r.pick (some 4) v

/-- The fast path of a request with a session record, else the miss path (R214). -/
def ntsPaths (r : RxReq) (n : NtsReq) (s : State) : State :=
  match sessGetNow r.pick r.seam (srcKey r).1 (srcKey r).2 s with
  | (0, keys, u) =>
    match callCrypto r.pick (ntsVerifyOp n (keys.take 32)) u with
    | (some _, v) => ntsRespond r n true keys v
    | (none, v) => ntsMiss r n v
  | (_, _, u) => ntsMiss r n u

/-- nts-srv on a request (R214); `ecc` are the memory errors that its session calls meet (R284). -/
def ntsServe (r : RxReq) (ecc : List (Nat × ReadErr)) (s : State) : State :=
  match ntpCheck r, ntsReq r with
  | some i, _ => progDrop r.pick (some i) s
  | none, none => progDrop r.pick (some 16) s
  | none, some n =>
    if r.invalid then progDrop r.pick (some 3) s else ntsPaths r n (memErrors r.seam ecc s)

/-- NTS_REQUEST: nts-srv serves the class-0x6 item of a pick (R199). With the pick come the memory errors that its session
calls meet (R284). -/
def execNtsRequest (pick : PickNo × List (Nat × ReadErr)) (s : State) : Res :=
  match rxReq s pick.1 with
  | none => .next s
  | some r =>
    let b := pickBank s pick.1
    if r.cls ≠ 6 ∨ (pickModule s pick.1 ≠ 3 ∧ pickModule s pick.1 ≠ 4) ∨ bankRuns b 4 = false
        ∨ (bankRuns b 3 = true ∧ r.hasExt 0x0104 = false) then .next s
    else .next (served (ntsServe r pick.2) s)

/-! ### ESMC (R195, R216) -/

/-- The QL that a port advertises (R195). -/
def txQl (s : State) (p : Nat) : Nat :=
  let one := s.cfg.str.ssmOption != 2
  let own := match portSync s p with
    | some n => s.cfg.refs.flywheel == some n
    | none => false
  let held := decide (s.lode.state = .holdover ∨ s.lode.state = .acquire)
  if s.lode.coarse || decide (s.lode.state = .invalid ∨ s.lode.state = .free) || own then 0xF
  else if s.lode.state = .locked ∨ s.lode.state = .pull then (if one then 2 else 1)
  else if held && s.lode.fwClass == 2 then (if one then 2 else 1)
  else if held && (s.lode.fwClass == 1 || s.lode.fwClass == 3) then (if one then 4 else 7)
  else (if one then 0xB else 0xA)

/-- The gallery whose `esmc` serves a port. -/
def esmcGal (s : State) (p : Nat) : Option Nat :=
  (s.cfg.str.pairs.filter (·.port == p)).findSome? fun q => match boundGal s q.home p with
    | some g => if galRuns s g && bankRuns (activeBank s g) 5 then some g else none
    | none => none

/-- An ESMC PDU (R216). -/
def esmcPdu (mac ql : Nat) (event : Bool) : List Nat :=
  pad60 ([0x01, 0x80, 0xC2, 0, 0, 2] ++ beBytes 6 mac ++ [0x88, 0x09, 0x0A, 0x00, 0x19, 0xA7, 0, 1,
    if event then 0x18 else 0x10, 0, 0, 0, 1, 0, 4, ql % 16])

/-- Ticks of a port's PDUs in the second that ends now. -/
def esmcRecent (s : State) (p : Nat) : List Nat := (portSt s p).esmcTicks.filter fun t => decide (s.clk.ticks < t + ticksPerSec)

/-- Sends an ESMC PDU best-effort. An event PDU reports the change of QL; an information PDU between the change and its event leaves
the event still due (R216). [DESIGN CHOICE, log 51] -/
def esmcSend (p g : Nat) (event : Bool) (s : State) : State :=
  let ql := txQl s p
  let f := esmcPdu (seamRec s (galSeam s g)).mac ql event
  let u := portMod p (fun q => { q with
    qlSent := if event then ql else q.qlSent, esmcEvent := if event then false else q.esmcEvent
    esmcTicks := s.clk.ticks :: esmcRecent s p
    tx := q.tx ++ [{ seq := s.prt.nextTx, pick := 32 * g, bytes := f, final := false, released := true }] }) s
  { u with prt := { u.prt with nextTx := s.prt.nextTx + 1 } }

/-- ESMC_INFO_PDU (R216): the next whole second; an event PDU that was held back takes its place. -/
def execEsmcInfoPdu (p : PortNo) (s : State) : Res :=
  let u := elapseTo (nextMultiple ticksPerSec s) s
  match esmcGal u p with
  | none => .next u
  | some g =>
    if portEn u p && (portCfg u p).synceTx && decide ((esmcRecent u p).length < 10) then
      .next (esmcSend p g (portSt u p).esmcEvent u)
    else .next u

/-- ESMC_EVENT_PDU (R216): the port's QL differs from the one last sent. A full queue of the control gate drops the report
(R14). -/
def execEsmcEventPdu (p : PortNo) (s : State) : Res :=
  match esmcGal s p with
  | none => .next s
  | some g =>
    if !portEn s p || !(portCfg s p).synceTx || txQl s p == (portSt s p).qlSent then .next s
    else if 64 ≤ (galSt s g).qCtrl.length then .next (faultEvent (256 + g) 1 0 s)
    else if (esmcRecent s p).length < 10 then .next (esmcSend p g true s)
    else .next (portMod p (fun q => { q with esmcEvent := true }) s)

/-- ESMC_PDU_RECEIVED (R216): the QL goes to the Assay on the ports of IDs 8 to 11; on others the PDU is dropped.
What goes to the Assay crosses the control gate, for which the pick waits (R14, R259). -/
def execEsmcPduReceived (pick : PickNo) (s : State) : Res :=
  match rxReq s pick with
  | none => .next s
  | some r =>
    if r.cls ≠ 9 ∨ pickModule s pick ≠ 5 then .next s
    else
      let b := r.f.drop r.q.l3
      if beAt b 1 3 ≠ 0x0019A7 ∨ beAt b 4 2 ≠ 1 ∨ beAt b 6 1 / 16 ≠ 1 ∨ beAt b 10 3 ≠ 0x010004 then
        .next (progDrop pick (some 16) s)
      else match portSync s r.port with
        | some n => if gateWaits s (pick / 32) then .next s else .next (progDrop pick none (qlDelivered n (beAt b 13 1 % 16) (!bitAt (beAt b 6 1) 3) s))
        | none => .next (progDrop pick (some 15) s)

/-! ### neigh (R199) -/

/-- An untimed reply of `neigh`. -/
def neighSend (r : RxReq) (f : List Nat) (ip4 : Option Nat) (s : State) : State :=
  emitCall r.pick none { n := f.length, port := r.port, final := true, timed := false, bytes := f, ip4 := ip4 } s

/-- The descriptor flags of a frame that `neigh` counts as malformed, as in the worked example of the ICMPv4 echo reply:
truncated, a fragment, a bad IP checksum. -/
def RxReq.flagged (r : RxReq) : Bool := bitAt r.flags 7 || bitAt r.flags 6 || bitAt r.flags 4

/-- Swaps `n` bytes at two places of a list. -/
def swapBytes (a b n : Nat) (l : List Nat) : List Nat := overlay (overlay l a (slice b n l)) b (slice a n l)

/-- A 16-bit sum with end-around carry. -/
def endAround (a b : Nat) : Nat := (a + b) % 65536 + (a + b) / 65536

/-- An echo request edited in place, as in the worked example: the reply's type, the checksum moved by `d`, and its MACs
swapped. -/
def echoEdit (r : RxReq) (type d : Nat) : List Nat :=
  swapBytes 0 6 6 (overlay r.f r.q.l4 ([type, beAt r.f (r.q.l4 + 1) 1] ++ beBytes 2 (endAround (beAt r.f (r.q.l4 + 2) 2) d)))

/-- The ICMPv4 echo reply of the worked example: TTL 64, and the addresses swapped. -/
def echo4 (r : RxReq) : List Nat := swapBytes (r.q.l3 + 12) (r.q.l3 + 16) 4 (overlay (echoEdit r 0 0x0800) (r.q.l3 + 8) [0x40])

/-- The ICMPv6 echo reply, in the same way. [DESIGN CHOICE, log 49] -/
def echo6 (r : RxReq) : List Nat := swapBytes (r.q.l3 + 8) (r.q.l3 + 24) 16 (overlay (echoEdit r 129 0xFEFF) (r.q.l3 + 7) [0x40])

/-- An ARP reply. -/
def arpReply (c : SeamRec) (r : RxReq) : List Nat :=
  let a := r.f.drop r.q.l3
  slice 6 6 r.f ++ beBytes 6 c.mac ++ slice 12 (r.q.l3 - 12) r.f
    ++ [0, 1, 8, 0, 6, 4, 0, 2] ++ beBytes 6 c.mac ++ beBytes 4 c.ip4 ++ slice 8 10 a

/-- An ICMP body with its checksum at bytes 2 and 3. -/
def icmpSum (pseudo body : List Nat) : List Nat := overlay body 2 (beBytes 2 (inetChecksum (pseudo ++ body)))

/-- The neighbour advertisement that answers a solicitation; one from the unspecified address is answered to all nodes. [PRESUMED, log 48] -/
def neighAdvert (s : State) (c : SeamRec) (r : RxReq) : List Nat :=
  let l2 := slice 6 6 r.f ++ beBytes 6 c.mac ++ slice 12 (r.q.l3 - 12) r.f
  let any := decide (r.q.src = 0)
  let dst := if any then 0xFF020000000000000000000000000001 else r.q.src
  let body := [136, 0, 0, 0, if any then 0x20 else 0x60, 0, 0, 0] ++ beBytes 16 c.ip6 ++ [2, 1] ++ beBytes 6 c.mac
  let h := overlay (ipHeader s 6 58 c.ip6 dst 32) 7 [255]
  let m := if any then [0x33, 0x33, 0, 0, 0, 1] ++ l2.drop 6 else l2
  m ++ h ++ icmpSum (pseudoHeader 6 c.ip6 dst 32 58) body

/-- `neigh` on an ARP frame. -/
def neighArp (c : SeamRec) (r : RxReq) (s : State) : State :=
  let a := r.f.drop r.q.l3
  if beAt a 0 6 ≠ 0x000108000604 ∨ a.length < 28 then progDrop r.pick (some 16) s
  else if beAt a 6 2 = 1 ∧ beAt a 24 4 = c.ip4 ∧ c.ip4 ≠ 0 then neighSend r (pad60 (arpReply c r)) none s
  else progDrop r.pick none s

/-- `neigh` on an ICMPv4 frame: the worked example of the pick programs, for the seam's address (R199). -/
def neighEcho4 (c : SeamRec) (r : RxReq) (s : State) : State :=
  if beAt r.f r.q.l4 2 = 0x0800 ∧ r.q.dst = c.ip4 then neighSend r (echo4 r) (some (r.q.l3 + 10)) s
  else progDrop r.pick none s

/-- `neigh` on an ICMPv6 frame. A short message, a bad checksum, and a solicitation that has crossed a router are malformed. [DESIGN CHOICE, log 49] -/
def neighIcmp6 (c : SeamRec) (r : RxReq) (s : State) : State :=
  let b := r.f.drop r.q.l4
  let ns := decide (beAt b 0 1 = 0x87)
  if bitAt r.flags 3 || decide (b.length < (if ns then 24 else 8))
      || (ns && (beAt r.f (r.q.l3 + 7) 1 != 255 || beAt b 1 1 != 0)) then progDrop r.pick (some 16) s
  else if ns = true ∧ beAt b 8 16 = c.ip6 ∧ c.ip6 ≠ 0 then neighSend r (pad60 (neighAdvert s c r)) none s
  else if beAt b 0 2 = 0x8000 ∧ r.q.dst = c.ip6 then neighSend r (echo6 r) none s
  else progDrop r.pick none s

/-- NEIGH_REPLY (R199): ARP requests, neighbour solicitations and echo requests for the seam's addresses. -/
def execNeighReply (pick : PickNo) (s : State) : Res :=
  match rxReq s pick with
  | none => .next s
  | some r =>
    let c := seamRec s r.seam
    if pickModule s pick ≠ 6 ∨ (r.cls ≠ 1 ∧ r.cls ≠ 4 ∧ r.cls ≠ 5) then .next s
    else if r.flagged then .next (progDrop pick (some 16) s)
    else .next (if r.cls = 1 then neighArp c r s else if r.cls = 4 then neighEcho4 c r s else neighIcmp6 c r s)

end Sys2Proof.Machine
end

