-- ==== Sys2Proof/Machine/Haul.lean ====
section
/-! DEFINITION. The haulage unit's transmit side: slots, keys, bodies, launch, requests and repeats (R314 to R324, R326, R331, R332). -/

namespace Sys2Proof.Machine

/-! ### Links, slots and keys -/

/-- A link's state. -/
def hlink (s : State) (k : Nat) : HLinkSt := sget {} s.haul.links k

/-- Changes a link's state. -/
def hlinkMod (k : Nat) (f : HLinkSt → HLinkSt) (s : State) : State :=
  { s with haul := { s.haul with links := smod {} s.haul.links k f } }

/-- Base address of a link's registers. -/
def haulBase (k : Nat) : Nat := if k < 16 then 0x01401000 + 0x100 * k else 0x01402000 + 0x100 * (k - 16)

/-- A link sends (R314): a configured transmit link, or a twin link. -/
def hTx (s : State) (k : Nat) : Bool := if 16 ≤ k then s.cfg.twin.present && (linkCfg s k).tx else s.cfg.haul.present && (linkCfg s k).tx

/-- A link receives. -/
def hRx (s : State) (k : Nat) : Bool := if 16 ≤ k then s.cfg.twin.present && (linkCfg s k).rx else s.cfg.haul.present && (linkCfg s k).rx

/-- One millisecond in 2^-16 ns. -/
def fuMs : Nat := 65536000000

/-- The slot of a Lode time (R316), not reduced modulo 2^40. -/
def slotOf (t : Nat) : Nat := t / fuMs

/-- A keyframe slot (R316): ceil(62.5 j) ms within the second. -/
def keySlot (slot : Nat) : Bool := (List.range 16).any fun j => decide (slot % 1000 = (125 * j + 1) / 2)

/-- The keys of the haulage authenticator: label and bytes (R323). -/
def haulKeys (s : State) : List (Nat × List Nat) :=
  (s.cry.mag.filter fun e => e.2.device && e.2.bind == 1 && e.2.loaded).map fun e => (e.2.label, magKey e.2)

/-- The entry with the highest label. -/
def topKey (l : List (Nat × List Nat)) : Option (Nat × List Nat) :=
  l.foldl (fun b e => match b with
    | some x => if x.1 < e.1 then some e else b
    | none => some e) none

/-- The entry with the lowest label. -/
def lowKey (l : List (Nat × List Nat)) : Option (Nat × List Nat) :=
  l.foldl (fun b e => match b with
    | some x => if e.1 < x.1 then some e else b
    | none => some e) none

/-- Low byte of the highest haulage label that the device holds loaded (R318). -/
def newestKey (s : State) : Nat := ((topKey (haulKeys s)).map (·.1)).getD 0 % 256

/-- The key that a link sends under (R324). -/
def sendKey (s : State) (k : Nat) : Option (Nat × List Nat) :=
  let l := haulKeys s
  match (hlink s k).peerKey with
  | none => lowKey l
  | some p => match topKey (l.filter fun e => decide (e.1 % 256 ≤ p)) with
    | some e => some e
    | none => lowKey l

/-- The nonce of R323. -/
def haulNonce (sender slot type reps link : Nat) : List Nat :=
  beBytes 4 sender ++ beBytes 5 (slot % 2 ^ 40) ++ [type * 16 + reps, link, 0]

/-- The GMAC tag of a frame whose last 16 bytes are the tag's place (R323). -/
def haulTag (key : List Nat) (nonce frame : List Nat) : List Nat :=
  fit 16 (gcmSeal key nonce (frame.take (frame.length - 16)) [])

/-- Payload length of a frame type, tag included (R319 to R322); 0 for an invalid type. -/
def haulLen (type : Nat) : Nat :=
  if type = 1 ∨ type = 3 then 112 else if type = 2 then 84 else if type = 4 ∨ type = 5 then 48
  else if type = 8 then 116 else 0

/-- The common header (R318). -/
def haulHeader (s : State) (k type keyNo seq : Nat) : List Nat :=
  let flags := match s.haul.twin.state with
    | .lead => 1
    | .follow => 2
    | _ => 0
  [0x10 + type, keyNo % 256] ++ beBytes 2 (haulLen type) ++ beBytes 4 s.cfg.haul.streamId
    ++ beBytes 4 s.cfg.haul.senderId ++ beBytes 4 (seq % 2 ^ 32) ++ [k, flags, newestKey s, 0]

/-- The Ethernet header of a link (R314, R315). -/
def haulEth (s : State) (k : Nat) : List Nat :=
  beBytes 6 (linkCfg s k).dmac ++ beBytes 6 (linkCfg s k).smac ++ beBytes 2 s.cfg.haul.etype

/-! ### Who may send (R23, R331, R332) -/

/-- The units transmit: Lode time is seeded, the TBPLL holds time and the LO is present (R73, R75, R332). -/
def unitsSend (s : State) : Bool := s.lode.seeded && !s.lode.coarse && s.lode.loOk

/-- Haulage frames may leave (R331, R23). -/
def haulSends (s : State) : Bool :=
  unitsSend s && decide (boundCode s (nowFu s) 0 0 ≠ unboundedCode)
    && !(decide (s.cfg.str.role = .face) && decide (4 ≤ hopServed s))
    && (match s.haul.twin.state with
      | .none => true
      | .lead => true
      | .follow => true
      | _ => false)

/-- KEY, DELTA, KEY_REPEAT and TWIN frames may leave on a link (R23, R331). -/
def linkSends (s : State) (k : Nat) : Bool := if 16 ≤ k then unitsSend s else haulSends s

/-- A frame of slot `slot` may leave a link: it is up, and no slot of the type repeats (R332). -/
def slotFree (s : State) (k type slot : Nat) : Bool :=
  (hlink s k).up && decide (sget 0 (hlink s k).sentMax type < slot + 1)

/-! ### Bodies (R317) -/

/-- The origin trace word and leap state that frames carry. -/
def leapWord (s : State) : LeapWord := { offset := s.leap.offset, pending := s.leap.pending, instant := s.leap.instant }

/-- The leap fields of KEY and TWIN frames (R319). -/
def leapBytes (s : State) : List Nat :=
  beBytes 2 (twosComp 16 s.leap.offset) ++ [twosComp 8 s.leap.pending, 0] ++ beBytes 6 s.leap.instant ++ [0, 0]

/-- The type of the next KEY or DELTA frame of a link (R316). -/
def nextType (s : State) (k slot : Nat) : Nat :=
  let l := hlink s k
  if 16 ≤ k then 8
  else if l.firstKey || l.sent.isEmpty || keySlot slot || l.lastOrigin != originTrace s || l.lastLeap != leapWord s then 1
  else 2

/-- EMITTING of a TWIN frame (R322): haulage is being sent. -/
def twinRole (s : State) : Nat :=
  (match s.haul.twin.state with
    | .claim => 1
    | .lead => 3
    | _ => 0) + (if haulSends s then 4 else 0)

/-- A body (R319, R320, R322): every field that is not inserted at launch. -/
def haulBody (s : State) (k type slot : Nat) : List Nat :=
  let l := hlink s k
  let z := fun (n : Nat) => List.replicate n 0
  let h := haulHeader s k type (((sendKey s k).map (·.1)).getD 0) slot
  let e := beBytes 4 ((l.echo.map (·.1)).getD 0xFFFFFFFF)
  if type = 1 then h ++ z 48 ++ leapBytes s ++ e ++ z 28
  else if type = 2 then h ++ beBytes 4 ((l.sent.map (·.seq)).headD 0) ++ z 32 ++ e ++ z 24
  else h ++ z 40 ++ e ++ z 12 ++ [twinRole s, s.cfg.twin.seniority % 256, 0, 0] ++ beBytes 8 s.otp.serial
    ++ leapBytes s ++ z 16

/-- Passes a CONTROL item to the haulage gallery (R14, R222, R231): a full queue drops it. So does a frame area without
room, and while the gallery is unbound the item goes nowhere and is not counted. [DESIGN CHOICE, log 53] -/
def toControl (link t : Nat) (frame : List Nat) (s : State) : State :=
  let g := s.cfg.haul.gallery
  match boundGal s g 64 with
  | none => s
  | some a =>
    let drop := faultEvent (256 + a) 1 0 s
    if !galRuns s a || decide (64 ≤ (galSt s a).qCtrl.length) then drop
    else match findCells s a (ceilDiv frame.length 128) with
      | none => drop
      | some c =>
        let i : Item := {
          cls := 0xB
          hdr := beBytes 12 (if t = 0 then 0 else lodeBits t) ++ beBytes 2 frame.length ++ [link, galSeam s a, 0xB] ++ List.replicate 7 0
            ++ beBytes 4 (128 * c) ++ List.replicate 4 0
          frame := frame, cell := c, cells := ceilDiv frame.length 128 }
        galMod a (fun q => { q with qCtrl := q.qCtrl ++ [i], nextCell := (c + i.cells) % 1536 }) s

/-- HAUL_BODY_ISSUE (R317): the body of the next slot that is at least 500 us ahead. Where nothing may be sent, or no key is
there to send under, the first frame after it is a keyframe (R316). [DESIGN CHOICE, log 53] -/
def execHaulBodyIssue (link : LinkNo) (s : State) : Res :=
  let k := link.val
  let slot := slotOf (nowFu s + fuMs / 2 + fuMs - 1)
  let type := nextType s k slot
  if !hTx s k then .next s
  else if !linkSends s k then .next (hlinkMod k (fun l => { l with firstKey := true }) s)
  else match sendKey s k with
    | some key =>
      if slotFree s k type slot then
        let b : HBody := { slot := slot, type := type, key := key.1, echo := (hlink s k).echo }
        .next (hlinkMod k (fun l => { l with
          body := some b, echo := if k < 16 then none else l.echo
          lastOrigin := originTrace s, lastLeap := leapWord s }) (toControl k 0 (haulBody s k type slot) s))
      else .next s
    | none => .next (hlinkMod k (fun l => { l with firstKey := true }) s)

/-- What the control plane takes from one gallery's EMITs to 0x80 (R317): an 8-byte release, or a frame of a body. [DESIGN CHOICE, log 53] -/
def ctrlDeliver (f : List Nat) (s : State) : State :=
  if f.length = 8 then
    let mark := fun (c : HCopy) => if c.type = beAt f 1 1 ∧ c.seq = beAt f 4 4 then { c with released := true } else c
    let markHeld := fun (d : HDelta) => if beAt f 1 1 = 2 ∧ d.seq = beAt f 4 4 then { d with released := true } else d
    if beAt f 0 1 < 18 then
      hlinkMod (beAt f 0 1) (fun l => { l with copies := l.copies.map mark, held := l.held.map markHeld }) s
    else s
  else
    let k := beAt f 30 1
    match (hlink s k).body with
    | some b =>
      if b.frame.isNone ∧ f.length = 14 + haulLen b.type ∧ beAt f 14 1 = 0x10 + b.type
          ∧ beAt f 22 4 = s.cfg.haul.senderId ∧ beAt f 26 4 = b.slot % 2 ^ 32 then
        hlinkMod k (fun l => { l with body := some { b with frame := some f } }) s
      else s
    | none => s

/-- Takes every frame that picks have handed to the control plane (R251). -/
def ctrlDrain (s : State) : State :=
  let fs := (s.gals.map fun e => e.2.ctrlIn).flatten
  fs.foldl (fun t f => ctrlDeliver f t) { s with gals := smap {} (fun q => { q with ctrlIn := [] }) s.gals }

/-- A CONTROL item that a pick holds in `haul`. -/
def haulItem (s : State) (pick : Nat) : Option Item :=
  match (pickSt s pick).item with
  | some i => if (pickSt s pick).phase = .running ∧ i.cls = 0xB ∧ pickModule s pick = 7 then some i else none
  | none => none

/-- EMIT to the control gate by `haul`; it waits as any EMIT does (R14, R259). -/
def haulEmit (pick : Nat) (f : List Nat) (s : State) : State :=
  if gateWaits s (pick / 32) then s
  else ctrlDrain (emitCall pick none { n := f.length, port := 0x80, final := true, timed := false, bytes := f } s)

/-- HAUL_BODY (R317): a body has no stamp-point time in its header. [DESIGN CHOICE, log 53] -/
def execHaulBody (pick : PickNo) (s : State) : Res :=
  match haulItem s pick with
  | some i =>
    if beAt i.hdr 0 12 = 0 then .next (haulEmit pick (haulEth s (beAt i.hdr 14 1) ++ i.frame) s) else .next s
  | none => .next s

/-- HAUL_RELEASE (R317): `haul` checks version, type, length and stream ID, and releases the copy by an 8-byte EMIT, or
ends the item as malformed (R219). -/
def execHaulRelease (pick : PickNo) (s : State) : Res :=
  match haulItem s pick with
  | some i =>
    let type := beAt i.frame 14 1 % 16
    if beAt i.hdr 0 12 = 0 then .next s
    else if beAt i.frame 14 1 / 16 = 1 ∧ haulLen type ≠ 0 ∧ beAt i.frame 16 2 = haulLen type
        ∧ i.frame.length = 14 + haulLen type ∧ beAt i.frame 18 4 = s.cfg.haul.streamId then
      .next (haulEmit pick ([beAt i.hdr 14 1, type, 0, 0] ++ slice 26 4 i.frame) s)
    else .next (progDrop pick (some 16) s)
  | none => .next s

/-- A slot goes without its frame: VACANT (R317). -/
def haulVacant (k : Nat) (s : State) : State :=
  irqRaise 8 7 (rfBump (haulBase k + 0x34) 15 0 1 (hlinkMod k (fun l => { l with body := none }) s))

/-- HAUL_BODY_DEADLINE (R317): 50 us before the slot, a body that has not come back is given up. -/
def execHaulBodyDeadline (link : LinkNo) (s : State) : Res :=
  match (hlink s link).body with
  | some b =>
    let u := ctrlDrain (elapseTo (tickOfLode (b.slot * fuMs - fuOfNs 50000) s) s)
    .next (match (hlink u link).body with
      | some c => if c.frame.isNone then haulVacant link u else u
      | none => u)
  | none => .next s

/-! ### Launch (R315, R319, R320, R322, R323) -/

/-- r at Lode time `t` (R65). -/
def rTime (s : State) (t : Nat) : Int :=
  if s.lode.pullOn then
    pullRem s.lode.pullFrom s.lode.pullSlope (nsOfTicks (s.clk.ticks - s.lode.pullTick) + (t - nowFu s) / 65536)
  else s.lode.rFrozen

/-- Pull remainder and rate of the selected copy; 0 for another reference. -/
def rxPull (s : State) : Int × Int :=
  if isUpstream s.assay.selRef then ((refSt s s.assay.selRef).rRx, (refSt s s.assay.selRef).rRate) else (0, 0)

/-- The rate of change of r_tx in units of 2^-64 (R319). -/
def rRateTx (s : State) (t : Nat) : Int :=
  let r := rTime s t
  let own : Int :=
    if s.lode.pullOn && r != 0 then roundDiv ((if r < 0 then 1 else -1) * (s.lode.pullSlope : Int) * 2 ^ 64) (10 ^ 12) else 0
  own + (rxPull s).2

/-- The fields that the unit writes at launch, at t1 (R319, R320, R322). -/
def insertLaunch (b : HBody) (key1 t1 : Nat) (f : List Nat) (s : State) : List Nat :=
  let code := boundCode s t1 0 0
  let rec' := boundRecord s t1 code false (hopSent s)
  let org := beBytes 4 (originTrace s)
  let rtx := beBytes 8 (twosComp 64 (rTime s t1 + (rxPull s).1))
  let t4 := fun (t : Nat) => beBytes 12 (lodeBits t)
  if b.type = 2 then
    let g := overlay (overlay f 38 (beBytes 8 (twosComp 64 ((t1 : Int) - key1)) ++ rec' ++ rtx)) 74
      (match b.echo with
        | some (_, t) => beBytes 8 (twosComp 64 ((t : Int) - key1))
        | none => List.replicate 8 0)
    g
  else if b.type = 1 then
    overlay (overlay f 34 (beBytes 12 (lodeBits t1) ++ rec' ++ org ++ rtx ++ beBytes 8 (twosComp 64 (rRateTx s t1)))) 98
      (match b.echo with
        | some (_, t) => t4 t
        | none => List.replicate 12 0)
  else
    overlay (overlay f 34 (beBytes 12 (lodeBits t1) ++ rec' ++ org ++ rtx)) 78
      (match b.echo with
        | some (_, t) => t4 t
        | none => List.replicate 12 0)

/-- Writes the tag of a frame. -/
def withTag (key : List Nat) (nonce f : List Nat) : List Nat := f.take (f.length - 16) ++ haulTag key nonce f

/-- Records a frame that leaves a link. -/
def haulSent (k type slot t1 : Nat) (f : List Nat) (s : State) : State :=
  rfBump (haulBase k + 0x30) 31 0 1 (hlinkMod k (fun l => { l with
    line := f, lineFcs := crc32 f, lineTime := t1, txKey := beAt f 15 1, sentMax := sput 0 l.sentMax type (slot + 1) }) s)

/-! ### Requests and repeats (R321, R326) -/

/-- A DELAY_REQ or KEY_REQ of a slot (R321). -/
def haulRequest (s : State) (k type slot want : Nat) (key : Nat × List Nat) : List Nat :=
  withTag key.2 (haulNonce s.cfg.haul.senderId slot type 0 k)
    (haulEth s k ++ haulHeader s k type key.1 slot ++ beBytes 4 want ++ List.replicate 24 0)

/-- The next slot whose instant plus `d` lies after the present time. [DESIGN CHOICE, log 53] -/
def slotAhead (s : State) (d : Nat) : Nat := slotOf (nowFu s + fuMs - d)

/-- HAUL_DELAY_REQ_SEND (R321): a DELAY_REQ on every receive link, at a slot instant plus 500 us. -/
def execHaulDelayReqSend (s : State) : Res :=
  let slot := slotAhead s (fuMs / 2)
  let u := elapseTo (tickOfLode (slot * fuMs + fuMs / 2) s) s
  .next ((List.range 16).foldl (fun t k =>
    match sendKey t k with
    | some key =>
      if hRx t k && unitsSend t && slotFree t k 4 slot then
        let t3 := slotAfter t (64 + k) (slot * fuMs + fuMs / 2)
        hlinkMod k (fun l => { l with reqs := ((slot % 2 ^ 32, t3) :: l.reqs).take 32 })
          (haulSent k 4 slot t3 (haulRequest t k 4 slot 0 key) t)
      else t
    | none => t) u)

/-- KEY_REQ_SEND (R326): at a slot instant plus 250 us, at most once per 10 ms. -/
def execKeyReqSend (link : LinkNo) (s : State) : Res :=
  let k := link.val
  match (hlink s k).held with
  | [] => .next s
  | h :: _ =>
    let u0 := elapseTo (match (hlink s k).keyReqTick with
      | some t => t + 10 * ticksPerMs
      | none => s.clk.ticks) s
    let slot := slotAhead u0 (fuMs / 4)
    let u := elapseTo (tickOfLode (slot * fuMs + fuMs / 4) u0) u0
    match sendKey u k with
    | some key =>
      if k < 16 ∧ hRx u k = true ∧ unitsSend u = true ∧ slotFree u k 5 slot = true then
        let t := slotAfter u (64 + k) (slot * fuMs + fuMs / 4)
        .next (rfBump (haulBase k + 0x2C) 23 16 1 (hlinkMod k (fun l => { l with keyReqTick := some u.clk.ticks })
          (haulSent k 5 slot t (haulRequest u k 5 slot h.keySeq key) u)))
      else .next u
    | none => .next u

/-- The KEY_REPEAT number `n` of a stored KEY frame (R320, R323, R326). -/
def keyRepeat (s : State) (k n : Nat) (e : HSent) (key : List Nat) : List Nat :=
  let f := overlay (overlay e.frame 14 [0x13]) 31 [n * 16 + beAt e.frame 31 1 % 16, newestKey s]
  withTag key (haulNonce s.cfg.haul.senderId (slotOf e.t1) 3 n k) f

/-- KEY_REPEAT_SEND (R326): the answer to a KEY_REQ. -/
def execKeyRepeatSend (link : LinkNo) (s : State) : Res :=
  let k := link.val
  let l := hlink s k
  match l.want with
  | none => .next s
  | some (q, _) =>
    let s0 := hlinkMod k (fun x => { x with want := none }) s
    let recent := l.repTicks.filter fun t => decide (s.clk.ticks < t + ticksPerSec)
    match l.sent.find? fun e => e.seq == q with
    | some e =>
      match (haulKeys s).find? fun x => x.1 == e.key with
      | some key =>
        if e.reps < 15 ∧ recent.length < 100 ∧ hTx s k = true ∧ linkSends s k = true ∧ l.up = true
            ∧ l.repBar < slotOf e.t1 + 1 then
          let t := slotAfter s (64 + k) (nowFu s)
          let f := keyRepeat s k (e.reps + 1) e key.2
          let bump := fun (y : HSent) => if y.seq = q then { y with reps := y.reps + 1 } else y
          let u := rfBump (haulBase k + 0x30) 31 0 1 (rfBump (haulBase k + 0x34) 23 16 1 s0)
          .next (hlinkMod k (fun x => { x with
            line := f, lineFcs := crc32 f, lineTime := t, repTicks := s.clk.ticks :: recent
            sentMax := sput 0 x.sentMax 3 (max (sget 0 x.sentMax 3) (slotOf e.t1 + 1))
            sent := x.sent.map bump }) u)
        else .next s0
      | none => .next s0
    | none => .next s0

/-! ### Link events -/

/-- HAUL_LINK_UP (R316): the first frame is a keyframe. -/
def execHaulLinkUp (link : LinkNo) (s : State) : Res :=
  .next (if s.surv.structureApplied && (hTx s link || hRx s link) then
      hlinkMod link (fun l => { l with up := true, firstKey := true }) s
    else s)

end Sys2Proof.Machine
end

