-- ==== Sys2Proof/Machine/Twin.lean ====
section
/-! DEFINITION. The twin states: claims, contests, loss of the peer and the follower's conditions (R333 to R337). -/

namespace Sys2Proof.Machine

/-- Changes the twin unit. -/
def twinMod (f : TwinSt → TwinSt) (s : State) : State := { s with haul := { s.haul with twin := f s.haul.twin } }

/-- States in which ID 32 is in the time list (R336). -/
def TwinState.listed : TwinState → Bool
  | .join => true
  | .follow => true
  | .hush => true
  | _ => false

/-- Enters a twin state (R333, R337): LEAD_CHANGES, the interrupt, and HUSH's held Major fault. A
twin that leads has no lead's leap state any more (R31). [DEDUCED, log 56] -/
def twinGo (new : TwinState) (s : State) : State :=
  let old := s.haul.twin.state
  if old = new then s else
  let u := twinMod (fun t => { t with
    state := new, joinTick := s.clk.ticks, claimSeen := false, run := 0, okSince := none }) s
  let v := if old = .lead ∨ new = .lead then rfBump 0x01400014 15 0 1 u else u
  let w := if old = .hush then heldEnd 192 5 v else v
  let x := if new = .hush then faultEvent 192 5 0 w else w
  irqRaise 8 2 (if new = .lead ∧ s.leap.upRef = 32 then leapUpstreamLost x else x)

/-- d-bar that the deadline for the peer's frames counts: the larger of T0 and T1, 0 without one (R333). [DEDUCED, log 56] -/
def twinDelay (s : State) : Nat :=
  let d := fun (k : Nat) => if (hlink s k).accepted = 16 then (hlink s k).dBar.toNat else 0
  max (d 16) (d 17)

/-- The latest slot whose deadline has come: d-bar + 100 us after its instant. -/
def dueSlot (s : State) : Nat := slotOf (nowFu s - twinDelay s - fuOfNs 100000)

/-- No valid TWIN frame for the latest slot has arrived by its deadline (R333). -/
def peerMissing (s : State) : Bool :=
  match s.haul.twin.peerSlot with
  | some p => decide (p < dueSlot s)
  | none => true

/-- The peer is lost (R333, R335). -/
def peerLost (s : State) : Bool := peerMissing s && !s.haul.twin.canary

/-- The lag condition of FOLLOW (R333). -/
def lagOk (s : State) : Bool :=
  !(refSt s 32).good.er.isEmpty && decide (termLag s ≤ fuOfNs s.cfg.twin.tauTwNs)

/-- Every FOLLOW condition holds (R333, R337). -/
def followOk (s : State) : Bool :=
  let t := s.haul.twin
  t.peerLead && decide (s.assay.selRef = 32) && (s.lode.state == .locked || s.lode.state == .pull) && lagOk s && t.seqOk

/-- Evaluates the FOLLOW conditions: a follower that fails one while the peer is not lost enters HUSH; the second of R333
runs in JOIN while the lag is inside its limit, and in HUSH while all hold. -/
def twinEval (s : State) : State :=
  match s.haul.twin.state with
  | .follow => if followOk s || peerLost s then s else twinGo .hush s
  | .join => twinMod (fun t => { t with okSince := if lagOk s then some (t.okSince.getD s.clk.ticks) else none }) s
  | .hush => twinMod (fun t => { t with okSince := if followOk s then some (t.okSince.getD s.clk.ticks) else none }) s
  | _ => s

/-- Two claims of one sequence number (R334): the lower seniority, then the lower serial, wins. [DEDUCED, log 56] -/
def twinContest (seq : Nat) (s : State) : State :=
  let t := s.haul.twin
  let own := s.cfg.twin.seniority
  let u := rfBump 0x01400014 31 16 1 (twinMod (fun x => { x with
    claims := x.claims.filter (· != seq), peerClaims := x.peerClaims.filter (· != seq) }) s)
  if own < t.peerSen ∨ (own = t.peerSen ∧ s.otp.serial < t.peerSerial) then twinGo .lead u else twinGo .join u

/-- A valid TWIN frame of the peer (R322, R333, R334): its role byte, seniority, serial, sequence number and slot, and
its arrival. A frame past its deadline does not speak for its slot (R333). -/
def twinFrame (role sen serial seq slot t2 : Nat) (s : State) : State :=
  if s.haul.twin.state = .none then s else
  let claim := bitAt role 0
  let own := slotOf (t2 - twinDelay s + fuMs / 2) % 2 ^ 32
  let fresh := s.haul.twin.lastSeq != some seq
  let u := twinMod (fun t => { t with
    peerLead := bitAt role 1, peerSen := sen, peerSerial := serial
    peerSlot := if t2 ≤ slot * fuMs + twinDelay s + fuOfNs 100000 then some (max slot (t.peerSlot.getD 0)) else t.peerSlot
    peerClaims := if claim then (seq :: t.peerClaims).take 16 else t.peerClaims, peerTick := s.clk.ticks
    lastSeq := some seq, seqOk := decide (own = seq) }) s
  let v :=
    if !fresh then u
    else if claim && u.haul.twin.claims.contains seq then twinContest seq u
    else if claim then twinMod (fun t => { t with claimSeen := true, run := 0 }) u
    else if u.haul.twin.state = .claim then
      let n := if u.haul.twin.run ≠ 0 ∧ (u.haul.twin.runSeq + 1) % 2 ^ 32 = seq then u.haul.twin.run + 1 else 1
      let w := twinMod (fun t => { t with run := n, runSeq := seq }) u
      if 10 ≤ n then twinGo .lead w else w
    else u
  twinEval v

/-- The list change of R336, at a decision tick. -/
def twinList (s : State) : State := twinMod (fun t => { t with inList := t.state.listed }) s

/-- JOIN_WINDOW_EXPIRY (R333): CLAIM without a peer claim in the window; otherwise a new window opens. [DEDUCED, log 56] -/
def execJoinWindowExpiry (s : State) : Res :=
  if s.haul.twin.state = .join then
    let u := elapseTo (s.haul.twin.joinTick + s.cfg.twin.joinMs * ticksPerMs) s
    .next (if u.haul.twin.claimSeen then twinMod (fun t => { t with claimSeen := false, joinTick := u.clk.ticks }) u
      else twinGo .claim u)
  else .next s

/-- FOLLOW_QUALIFY (R333): in JOIN the lag, in HUSH every FOLLOW condition has held for 1 s, and every condition holds. -/
def execFollowQualify (s : State) : Res :=
  match s.haul.twin.okSince with
  | some t =>
    let u := elapseTo (t + ticksPerSec) s
    .next (if u.haul.twin.state.listed && u.haul.twin.state != .follow && followOk u then twinGo .follow u else twinEval u)
  | none => .next s

/-- PEER_LOST (R333, R335): at the deadline of the first slot without a frame, PEER_CANARY stopped. -/
def execPeerLost (s : State) : Res :=
  if s.haul.twin.state = .none ∨ s.haul.twin.state = .lead then .next s
  else
    let due := match s.haul.twin.peerSlot with
      | some p => (p + 1) * fuMs + twinDelay s + fuOfNs 100000
      | none => nowFu s
    let u := elapseTo (tickOfLode due s) s
    .next (if peerLost u then twinGo .lead u else u)

/-- PEER_CANARY_EDGE (R335). -/
def execPeerCanaryEdge (s : State) : Res := .next (twinMod (fun t => { t with canary := true, canaryTick := s.clk.ticks }) s)

/-- PEER_CANARY_STOP (R335): more than 1 ms without an edge. [DEDUCED, log 56] -/
def execPeerCanaryStop (s : State) : Res :=
  if s.haul.twin.canary then
    .next (twinMod (fun t => { t with canary := false }) (elapseTo (s.haul.twin.canaryTick + ticksPerMs + 1) s))
  else .next s

/-! ### Launch of the haulage and twin frames (R315, R316, R334) -/

/-- The own frame of sequence number `seq` has left with CLAIM = 1; the peer's may have come before it (R334). -/
def claimSent (seq : Nat) (s : State) : State :=
  let u := twinMod (fun t => { t with claims := (seq :: t.claims).take 16 }) s
  if s.haul.twin.peerClaims.contains seq then twinContest seq u else u

/-- Launches the frame of a body whose slot instant has come (R315), under the key of its body (R324). -/
def haulLaunch (k : Nat) (s : State) : State :=
  match (hlink s k).body with
  | none => s
  | some b =>
    if b.slot * fuMs > nowFu s then s else
    let done := hlinkMod k (fun l => { l with body := none }) s
    if !linkSends s k then hlinkMod k (fun l => { l with firstKey := true }) done
    else match b.frame, (haulKeys s).find? fun e => e.1 == b.key with
    | some f, some key =>
      if slotFree s k b.type b.slot then
        let t1 := slotAfter s (64 + k) (b.slot * fuMs)
        let key1 := (((hlink s k).sent.find? fun e => e.seq == beAt f 34 4).map (·.t1)).getD 0
        let g := withTag key.2 (haulNonce s.cfg.haul.senderId b.slot b.type 0 k) (insertLaunch b key1 t1 f s)
        let u := haulSent k b.type b.slot t1 g done
        let seq := b.slot % 2 ^ 32
        if b.type = 1 then
          hlinkMod k (fun l => { l with
            firstKey := false, sent := ({ seq := seq, frame := g, t1 := t1, key := b.key : HSent } :: l.sent).take 2 }) u
        else if b.type = 8 then
          let v := hlinkMod k (fun l => { l with reqs := ((seq, t1) :: l.reqs).take 32 }) u
          if bitAt (beAt g 90 1) 0 then claimSent seq v else v
        else u
      else done
    | _, none => hlinkMod k (fun l => { l with firstKey := true }) done
    | none, _ => done

/-- HAUL_FRAME_LAUNCH (R315, R316): the next slot instant, on every link. -/
def execHaulFrameLaunch (s : State) : Res :=
  let u := ctrlDrain (elapseTo (tickOfLode ((slotOf (nowFu s) + 1) * fuMs) s) s)
  .next ((List.range 18).foldl (fun t k => haulLaunch k t) u)

end Sys2Proof.Machine
end

