-- ==== Sys2Proof/Machine/HaulRx.lean ====
section
/-! DEFINITION. The haulage unit's receive side: authentication, held deltas, round trips, feeds, SPLIT and what a copy does to the Assay and the Tally (R323 to R330, R332, R138, R143, R145). -/

namespace Sys2Proof.Machine

/-! ### Authentication (R323) -/

/-- The slot number whose low 32 bits are `seq` and that lies nearest to slot `base`, modulo 2^40. -/
def nearSlot (base seq : Nat) : Nat :=
  let c := base / 2 ^ 32 * 2 ^ 32 + seq
  let x := if c + 2 ^ 31 < base then c + 2 ^ 32 else if base + 2 ^ 31 < c ∧ 2 ^ 32 ≤ c then c - 2 ^ 32 else c
  x % 2 ^ 40

/-- The type of a received frame; 0 where version, type or length is wrong, or the link carries no such type. [DEDUCED, log 54] -/
def rxType (k : Nat) (f : List Nat) : Nat :=
  let t := beAt f 14 1 % 16
  if beAt f 14 1 / 16 = 1 ∧ haulLen t ≠ 0 ∧ (t = 8 ↔ 16 ≤ k) ∧ beAt f 16 2 = haulLen t ∧ f.length = 14 + haulLen t then t else 0

/-- The slot number of a received frame (R323); `t2` is its timestamp. -/
def rxSlot (type t2 : Nat) (f : List Nat) : Nat :=
  nearSlot (slotOf (if type = 1 ∨ type = 3 ∨ type = 8 then ofLodeBits (beAt f 34 12) else t2)) (beAt f 26 4)

/-- The tag of a received frame verifies under a loaded key with its number (R323). -/
def rxAuth (s : State) (type t2 : Nat) (f : List Nat) : Bool :=
  let n := haulNonce (beAt f 22 4) (rxSlot type t2 f) type (beAt f 31 1 / 16) (beAt f 30 1)
  (haulKeys s).any fun e => e.1 % 256 == beAt f 15 1 && haulTag e.2 n f == f.drop (f.length - 16)

/-- A frame fails R323: AUTH, the interrupt and the Note fault. -/
def rxAuthFail (k : Nat) (s : State) : State :=
  faultEvent (176 + k) 1 0 (irqRaise 8 3 (rfBump (haulBase k + 0x28) 15 0 1 s))

/-- Whether a time field of a frame has a nanoseconds field of 10^9 or more (R26, R325). -/
def nsBad (f : List Nat) (i : Nat) : Bool := decide (1000000000 ≤ beAt f (i + 6) 4)

/-- A time field of a received frame is invalid: t1, and t4 where the frame echoes. -/
def rxTimeBad (type : Nat) (f : List Nat) : Bool :=
  if type = 1 ∨ type = 3 then nsBad f 34 || (beAt f 94 4 != 0xFFFFFFFF && nsBad f 98)
  else if type = 8 then nsBad f 34 || (beAt f 74 4 != 0xFFFFFFFF && nsBad f 78)
  else false

/-- The kind of a frame for R325's sequence test. -/
def rxKind (type : Nat) : Nat := if type = 8 then 1 else if type = 4 then 2 else if type = 5 then 3 else 0

/-- A sequence is greater than another, modulo 2^32 within 2^31. -/
def seqAfter (a b : Nat) : Bool := decide (0 < (a + 2 ^ 32 - b) % 2 ^ 32 ∧ (a + 2 ^ 32 - b) % 2 ^ 32 < 2 ^ 31)

/-- Counts STALE. -/
def rxStale (k : Nat) (s : State) : State := rfBump (haulBase k + 0x28) 31 24 1 s

/-- The tests of R325: the state with its counts, and whether the frame is accepted. [DEDUCED, log 54] -/
def rxAccept (k type : Nat) (f : List Nat) (s : State) : Bool × State :=
  let seq := beAt f 26 4
  let l := hlink s k
  if rxTimeBad type f || beAt f 18 4 != s.cfg.haul.streamId then (false, rfBump (haulBase k + 0x28) 23 16 1 s)
  else if beAt f 22 4 = s.cfg.haul.senderId then (false, faultEvent (176 + k) 2 0 (irqRaise 8 8 s))
  else if type = 3 then
    (if l.held.any fun h => h.keySeq == seq then (true, s) else (false, rxStale k s))
  else
    let last := sget 0 l.lastSeq (rxKind type)
    if last ≠ 0 ∧ seqAfter seq (last - 1) = false then (false, rxStale k s)
    else (true, hlinkMod k (fun x => { x with lastSeq := sput 0 x.lastSeq (rxKind type) (seq + 1), lastAccepted := seq }) s)

/-! ### Round trips (R327) -/

/-- The outlier limit of a link in 2^-16 ns. -/
def deltaTol (s : State) (k : Nat) : Nat := fuOfPs (if 16 ≤ k then s.cfg.twin.deltaTolPs else s.cfg.haul.deltaTolPs)

/-- The forward copy whose t2 is the latest before t3. -/
def forwardFor (l : List (Nat × Int)) (t3 : Nat) : Option (Nat × Int) :=
  (l.filter fun x => decide (x.1 < t3)).foldl (fun b x => match b with
    | some y => if y.1 < x.1 then some x else b
    | none => some x) none

/-- Completes the round trip of request `seq`, echoed with t4. [DEDUCED, log 54] -/
def roundTrip (k seq : Nat) (t4 : Int) (s : State) : State :=
  let l := hlink s k
  match l.reqs.find? fun r => r.1 == seq with
  | none => s
  | some (_, t3) =>
    match forwardFor l.fwd t3 with
    | none => s
    | some (t2, t1) =>
      let d := Int.shiftRight (((t2 : Int) - t1) + (t4 - t3)) 1
      let s1 := hlinkMod k (fun x => { x with reqs := x.reqs.filter fun r => r.1 != seq }) s
      if 0 ≤ d ∧ d ≤ fuMs ∧ (l.accepted < 16 ∨ (d - l.dBar).natAbs ≤ deltaTol s k) then
        let ds := (d :: l.d).take 16
        hlinkMod k (fun x => { x with
          d := ds, dBar := truncDiv (sumInt ds) ds.length, accepted := min 16 (l.accepted + 1), rejRun := 0 }) s1
      else
        let s2 := rfBump (haulBase k + 0x34) 31 24 1 s1
        if 16 ≤ l.rejRun + 1 then hlinkMod k (fun x => { x with d := [], accepted := 0, rejRun := 0 }) s2
        else hlinkMod k (fun x => { x with rejRun := l.rejRun + 1 }) s2

/-! ### Copies and feeds (R31, R327 to R330) -/

/-- The bound record at an offset of a frame, with its instant and origin. -/
def rxRecord (f : List Nat) (i : Nat) (t1 : Int) (origin : Nat) : RxRecord :=
  { code := beAt f i 4, growth := beAt f (i + 4) 2, flags := beAt f (i + 6) 1, hop := beAt f (i + 7) 1
    trace := beAt f (i + 8) 4, instant := t1.toNat, origin := origin }

/-- The leap fields at an offset of a frame. -/
def rxLeap (f : List Nat) (i : Nat) : LeapWord :=
  { offset := signedOf 16 (beAt f i 2), pending := signedOf 8 (beAt f (i + 2) 1), instant := beAt f (i + 4) 6 }

/-- The validity age of a feed in ticks. -/
def feedValid (s : State) (n : Nat) : Nat := ticksOfNs ((refRec s n).validUs * 1000)

/-- A feed's state. -/
def feedSt (s : State) (n : Nat) : FeedSt := sget {} s.haul.feeds n

/-- Changes a feed's state. -/
def feedMod (n : Nat) (f : FeedSt → FeedSt) (s : State) : State :=
  { s with haul := { s.haul with feeds := smod {} s.haul.feeds n f } }

/-- A feed has applied a copy of a sequence number. -/
def feedHas (s : State) (n seq : Nat) : Bool := (feedSt s n).applied.any fun c => c.copy.seq == seq

/-- A feed has a sequence number, or will have it: applied, waiting, or in a copy of another of its links that gives
measurements. -/
def feedDelivers (s : State) (k seq : Nat) : Bool :=
  let n := feedOf s k
  feedHas s n seq || ((feedSt s n).wait.any fun w => w.1 == seq)
    || (List.range 18).any fun j => j != k && (hlink s j).up && hRx s j && feedOf s j == n
      && decide ((hlink s j).accepted = 16) && (hlink s j).copies.any fun c => c.type != 3 && c.seq == seq

/-- A copy of a link counts as missing (R17, R79), unless its feed has the sequence number from another link. [DEDUCED, log 54] -/
def copyMissing (k seq : Nat) (s : State) : State := if feedDelivers s k seq then s else countMissing (feedOf s k) s

/-- The measurement of a copy (R327). -/
def copyOffset (s : State) (k : Nat) (c : HCopy) : Int := c.t1 + (hlink s k).dBar + (linkCfg s k).aH - c.t2

/-- The received uncertainty of a record at t_g, in 2^-16 ns; beyond every bound where it is unbounded (R138, R143). -/
def uAtGood (s : State) (r : RxRecord) : Nat := (uRx r s.lode.goodTime).getD (2 ^ 100)

/-- The largest |delta| of a feed's last 64 sequence numbers (R330). -/
def feedDelta (f : FeedSt) : Nat :=
  match f.applied with
  | a :: _ => maxNat ((f.deltas.filter fun d =>
      !decide (64 ≤ (a.copy.seq + 2 ^ 32 - d.1) % 2 ^ 32 ∧ (a.copy.seq + 2 ^ 32 - d.1) % 2 ^ 32 < 2 ^ 31)).map (·.2))
  | [] => 0

/-- The split term S of a feed (R143, R330). [DEDUCED, log 55] -/
def feedSplitTerm (s : State) (n : Nat) : Nat :=
  let f := feedSt s n
  match f.applied, f.other with
  | c :: _, some o => feedDelta f + uAtGood s o - uAtGood s c.copy.rx
  | _, _ => feedDelta f

/-- The Tally takes the split state of the feed that it traces; a rise of |delta| that raises S increments the epoch
(R145). -/
def splitRefresh (s : State) : State :=
  let n := traceRef s
  let on := decide (16 ≤ n ∧ n < 32) && (feedSt s n).split
  let x := if on then feedSplitTerm s n else 0
  let d := if on then feedDelta (feedSt s n) else 0
  let u := { s with tally := { s.tally with split := on, splitDelta := d, splitTerm := x } }
  if on && s.tally.split && decide (s.tally.splitDelta < d ∧ s.tally.splitTerm < x) then bumpEpoch u else u

/-- Compares another copy with the one applied (R330). -/
def compareCopies (n : Nat) (a c : FeedCopy) (s : State) : State :=
  if n = 32 ∨ a.copy.bad = true ∨ c.copy.bad = true then s else
  let seq := c.copy.seq
  let d := (c.e - a.e).natAbs
  let f := feedSt s n
  let tol := fuOfNs s.cfg.haul.tauSNs
  let run := if d ≤ tol then f.run else if f.run ≠ 0 ∧ f.runSeq = seq then f.run
    else if f.run ≠ 0 ∧ (f.runSeq + 1) % 2 ^ 32 = seq then f.run + 1 else 1
  let old := ((f.deltas.find? fun x => x.1 == seq).map (·.2)).getD 0
  let u := feedMod n (fun x => { x with
    deltas := ((seq, max old d) :: x.deltas.filter fun y => y.1 != seq).take 64
    run := run, runSeq := if d ≤ tol then x.runSeq else seq
    halfSeq := if tol < 2 * d then seq else x.halfSeq, other := some c.copy.rx }) s
  if !f.split && decide (3 ≤ run) then
    let v := feedMod n (fun x => { x with split := true }) u
    splitRefresh (bumpEpoch (faultEvent (160 + n) 3 0 (irqRaise 8 0 v)))
  else splitRefresh u

/-- Duplicates are counted and compared (R329). -/
def duplicate (n : Nat) (a c : FeedCopy) (s : State) : State := compareCopies n a c (rfBump (haulBase c.link + 0x24) 31 0 1 s)

/-- A record raises the bound beyond growth, or newly carries HOLDOVER, PULL, SPLIT or TRACE_BROKEN (R145). [DEDUCED, log 55] -/
def recordEvent (old new : RxRecord) : Bool :=
  ([0, 1, 2, 6].any fun b => bitAt new.flags b && !bitAt old.flags b)
    || (decide (old.code ≠ unboundedCode) && (decide (new.code = unboundedCode)
      || decide ((old.code * 4096) * 10 ^ 12 + old.growth * (new.instant - old.instant) < new.code * 4096 * 10 ^ 12)))

/-- A copy's part in the leap state (R31): the feed keeps that of its newest keyframe, a KEY_REPEAT among them, or of the
lead's newest frame; that of the selected feed is offered. -/
def copyLeap (n : Nat) (c : HCopy) (s : State) : State :=
  match c.leap with
  | none => s
  | some w =>
    let newest := match (feedSt s n).leap with
      | some (q, _) => seqAfter c.seq q
      | none => true
    if !newest then s
    else
      let u := feedMod n (fun f => { f with leap := some (c.seq, w) }) s
      if decide (n = s.assay.selRef) && mayUpstream s n then upstreamOffer n w u else u

/-- The configuration fault of a Face whose selected copy has hop count 4 (R23). -/
def hopFault (k n hop : Nat) (s : State) : State :=
  if s.cfg.str.role = .face ∧ n = s.assay.selRef ∧ 4 ≤ hop then
    (if (srcSt s (176 + k)).held.contains 4 then s else faultEvent (176 + k) 4 0 s)
  else heldEnd (176 + k) 4 s

/-- A copy is applied to its feed (R328, R329): record, measurement, and what they bring. -/
def applyCopy (n : Nat) (x : FeedCopy) (s : State) : State :=
  let c := x.copy
  let prev := (refSt s n).rx
  let s1 := rfBump (haulBase x.link + 0x20) 31 0 1 (feedMod n (fun f => { f with applied := (x :: f.applied).take 64 }) s)
  let s2 := refMod n (fun r => { r with rx := some c.rx, rRx := c.rRx, rRate := c.rRate, rxLink := x.link }) s1
  let s3 := if decide (n = s.assay.selRef) && (match prev with
      | some o => recordEvent o c.rx
      | none => false) then bumpEpoch s2 else s2
  let s4 := hopFault x.link n c.rx.hop (copyLeap n c s3)
  let s5 := if c.rx.code = unboundedCode then rejectNow n s4 else refMod n (fun r => { r with immediate := false }) s4
  let s6 := if c.bad then s5 else measure n x.e (s.clk.ticks - c.tick) s5
  splitRefresh s6

/-- SPLIT clears once none of the last 1,000 sequence numbers, `seq` the newest of them, had a copy more than tau_s / 2 away
(R330). -/
def splitClear (n seq : Nat) (s : State) : State :=
  let f := feedSt s n
  if f.split && decide (1000 ≤ (seq + 2 ^ 32 - f.halfSeq) % 2 ^ 32) then
    splitRefresh (irqRaise 8 1 (feedMod n (fun f => { f with split := false, run := 0, other := none }) s))
  else s

/-- A released copy reaches its feed (R329, R330). [DEDUCED, log 55] -/
def feedTake (k : Nat) (c : HCopy) (s : State) : State :=
  let n := feedOf s k
  let x : FeedCopy := { link := k, e := copyOffset s k c, copy := c }
  let f := feedSt s n
  match f.applied.find? fun a => a.copy.seq == c.seq with
  | some a => duplicate n a x s
  | none =>
    if f.split then
      let join := fun (w : Nat × Nat × List FeedCopy) => if w.1 = c.seq then (w.1, w.2.1, w.2.2 ++ [x]) else w
      let wait := if f.wait.any (fun w => w.1 == c.seq) then f.wait.map join else f.wait ++ [(c.seq, c.tick, [x])]
      feedMod n (fun y => { y with wait := wait }) s
    else applyCopy n x s

/-- A copy that `haul` has released does its part (R327, R329). A KEY_REPEAT and a TWIN frame without LEAD give no
measurement; one of a number that the feed has is a duplicate; without DELAY_OK, or past the validity age, the copy counts
as missing. -/
def releaseCopy (k : Nat) (c : HCopy) (s : State) : State :=
  let n := feedOf s k
  if c.type = 3 then copyLeap n c s
  else if c.type = 8 ∧ c.lead = false then s
  else
    let on := decide ((hlink s k).accepted = 16)
    match (feedSt s n).applied.find? fun a => a.copy.seq == c.seq with
    | some a =>
      if on then duplicate n a { link := k, e := copyOffset s k c, copy := c } s
      else rfBump (haulBase k + 0x24) 31 0 1 s
    | none =>
      if on && decide (s.clk.ticks ≤ c.tick + feedValid s n) then twinEval (feedTake k c s) else copyMissing k c.seq s

/-! ### Received frames (R317, R320, R326) -/

/-- What a copy tells of its link: the hop count, and a forward copy for the round trips. -/
def noteCopy (k : Nat) (c : HCopy) (s : State) : State :=
  hlinkMod k (fun l => { l with
    hop := if c.type = 3 then l.hop else c.rx.hop
    fwd := if c.type = 3 ∨ c.bad = true then l.fwd else ((c.t2, c.t1) :: l.fwd).take 32 }) s

/-- Keeps a copy until `haul` releases it (R317). -/
def holdCopy (k : Nat) (c : HCopy) (s : State) : State :=
  hlinkMod k (fun l => { l with copies := (l.copies ++ [c]).drop (l.copies.length - 63) }) (noteCopy k c s)

/-- Keeps a copy until `haul` releases it, and passes its frame to `haul` (R317). -/
def keepCopy (k : Nat) (c : HCopy) (f : List Nat) (s : State) : State := toControl k c.t2 f (holdCopy k c s)

/-- The copy that a delta is, once its keyframe is known (R320). -/
def deltaCopy (s : State) (k : Nat) (key : HKey) (d : HDelta) : HCopy :=
  let t1 : Int := key.t1 + signedOf 64 (beAt d.frame 38 8)
  { type := 2, seq := d.seq, t1 := t1, t2 := d.t2, tick := d.tick, bad := d.bad, rx := rxRecord d.frame 46 t1 key.origin
    rRx := signedOf 64 (beAt d.frame 62 8), rRate := (refSt s (feedOf s k)).rRate }

/-- The round trip that a delta ends (R320, R327). -/
def deltaTrip (k : Nat) (key : HKey) (d : HDelta) (s : State) : State :=
  let f := d.frame
  if beAt f 70 4 = 0xFFFFFFFF then s else roundTrip k (beAt f 70 4) (key.t1 + signedOf 64 (beAt f 74 8)) s

/-- A delta whose keyframe is kept: its round trip, and its copy. -/
def takeDelta (k : Nat) (key : HKey) (d : HDelta) (s : State) : State :=
  keepCopy k (deltaCopy s k key d) d.frame (deltaTrip k key d s)

/-- A held delta whose keyframe has come: it is applied where `haul` has released it, and otherwise as soon as it does
(R317, R326). -/
def takeHeld (k : Nat) (key : HKey) (d : HDelta) (s : State) : State :=
  let u := deltaTrip k key d s
  let c := deltaCopy s k key d
  if d.released then releaseCopy k c (noteCopy k c u) else holdCopy k c u

/-- A held delta is dropped: MISSED. -/
def dropHeld (k : Nat) (d : HDelta) (s : State) : State := copyMissing k d.seq (rfBump (haulBase k + 0x2C) 31 24 1 s)

/-- The keyframes of the last two sequences, newest first, with a new one (R326). -/
def lastKeys (key : HKey) (l : List HKey) : List HKey :=
  let rest := l.filter fun x => x.seq != key.seq
  (rest.filter (fun x => seqAfter x.seq key.seq) ++ key :: rest.filter fun x => !seqAfter x.seq key.seq).take 2

/-- A keyframe has arrived: it is kept, and the deltas held for it are taken while they are valid (R326). [DEDUCED, log 54] -/
def takeKey (k : Nat) (key : HKey) (s : State) : State :=
  let mine := (hlink s k).held.filter fun d => d.keySeq == key.seq
  let u := hlinkMod k (fun l => { l with
    keys := lastKeys key l.keys
    held := l.held.filter fun d => d.keySeq != key.seq }) s
  mine.foldl (fun t d => if t.clk.ticks ≤ d.tick + feedValid t (feedOf t k) then takeHeld k key d t else dropHeld k d t) u

/-- A delta without its keyframe is held, and its frame passed to `haul` (R317); a ninth drops the oldest (R326). -/
def holdDelta (k : Nat) (d : HDelta) (s : State) : State :=
  let u := irqRaise 8 4 (rfBump (haulBase k + 0x2C) 15 0 1 (toControl k d.t2 d.frame
    (hlinkMod k (fun l => { l with held := l.held ++ [d], deltaKey := some d.keySeq }) s)))
  match (hlink u k).held with
  | o :: rest => if 8 < rest.length + 1 then dropHeld k o (hlinkMod k (fun l => { l with held := rest }) u) else u
  | [] => u

/-- Lode time can be stepped: neither a lock loss nor an LO absence holds (R54, R73, R75). -/
def mayStep (s : State) : Bool := !s.lode.coarse && s.lode.loOk

/-- The seed step of R332: the first KEY, KEY_REPEAT or TWIN frame that passes R323, in ACQUIRE, on a link of a feed in the
time list. Answers t2 in the time after the step. [DEDUCED, log 12] -/
def seedFrom (k type t2 : Nat) (f : List Nat) (s : State) : Nat × State :=
  let t1 := ofLodeBits (beAt f 34 12)
  if !s.lode.seeded && (type == 1 || type == 3 || type == 8) && decide (s.lode.state = .acquire) && !nsBad f 34
      && (timeList s).any (fun p => p.2.id == feedOf s k)
      && mayStep s then
    (t1, stepBy ((t1 : Int) - t2) s)
  else (t2, s)

/-- What an accepted frame does, by type; `bad` marks a t2 latched while COARSE was 1, which gives no echo, no round trip
and no measurement (R56). -/
def rxTake (k type t2 : Nat) (f : List Nat) (tick : Nat) (bad : Bool) (s : State) : State :=
  let seq := beAt f 26 4
  let t1 := ofLodeBits (beAt f 34 12)
  if type = 1 then
    let s1 := if beAt f 94 4 = 0xFFFFFFFF then s else roundTrip k (beAt f 94 4) (ofLodeBits (beAt f 98 12)) s
    let c : HCopy := { type := 1, seq := seq, t1 := t1, t2 := t2, tick := tick, bad := bad, rx := rxRecord f 46 t1 (beAt f 62 4)
                       rRx := signedOf 64 (beAt f 66 8), rRate := signedOf 64 (beAt f 74 8), leap := some (rxLeap f 82) }
    takeKey k { seq := seq, t1 := t1, origin := beAt f 62 4 } (keepCopy k c f s1)
  else if type = 2 then
    let d : HDelta := { seq := seq, keySeq := beAt f 34 4, t2 := t2, tick := tick, bad := bad, frame := f }
    match (hlink s k).keys.find? fun x => x.seq == d.keySeq with
    | some key => takeDelta k key d (hlinkMod k (fun l => { l with deltaKey := some d.keySeq }) s)
    | none => holdDelta k d s
  else if type = 3 then
    takeKey k { seq := seq, t1 := t1, origin := beAt f 62 4 }
      (keepCopy k { type := 3, seq := seq, t1 := t1, t2 := t2, tick := tick, bad := bad, leap := some (rxLeap f 82) } f s)
  else if type = 4 then hlinkMod k (fun l => { l with echo := if bad then l.echo else some (seq, t2) }) s
  else if type = 5 then hlinkMod k (fun l => { l with want := some (beAt f 34 4, s.clk.ticks) }) s
  else
    let s1 := hlinkMod k (fun l => { l with echo := if bad then l.echo else some (seq, t2) })
      (if beAt f 74 4 = 0xFFFFFFFF then s else roundTrip k (beAt f 74 4) (ofLodeBits (beAt f 78 12)) s)
    let c : HCopy := { type := 8, seq := seq, t1 := t1, t2 := t2, tick := tick, bad := bad, rx := rxRecord f 46 t1 (beAt f 62 4)
                       rRx := signedOf 64 (beAt f 66 8), leap := some (rxLeap f 102), lead := bitAt (beAt f 31 1) 0 }
    twinFrame (beAt f 90 1) (beAt f 91 1) (beAt f 94 8) seq (slotOf t1) t2 (keepCopy k c f s1)

/-- A frame of type `type` arrives at a link: `f` without its FCS, and where its timestamp bit lies (R177, R315). A frame
whose valid type is another is another command's. While COARSE is 1 its t2 is invalid (R56); without the LO the units take
none (R75). -/
def haulRx (type k : Nat) (f : List Nat) (tag : WordTag) (s : State) : State :=
  let ty := rxType k f
  let on := (hlink s k).up && s.lode.loOk && (if type = 4 ∨ type = 5 then hTx s k else hRx s k)
  if !on then s
  else if ty = 0 then rxAuthFail k s
  else if ty ≠ type then s
  else
    let t2 := ballTime s (64 + k) 1 (if (linkCfg s k).fec then 2 else 0) tag - (linkCfg s k).cIn
    if !rxAuth s type t2 f then rxAuthFail k s
    else
      let p := seedFrom k type t2 f (hlinkMod k (fun l => { l with peerKey := some (beAt f 32 1) }) s)
      let q := rxAccept k type f p.2
      if q.1 then
        let tick := tickBefore s t2
        rxTake k type p.1 f tick (flagAt s.lode.coarse s.lode.coarseTick tick) q.2
      else q.2

/-- HAUL_KEY_RX (R319). -/
def execHaulKeyRx (link : LinkNo) (f : List Nat) (tag : WordTag) (s : State) : Res := .next (haulRx 1 link f tag s)
/-- HAUL_DELTA_RX (R320). -/
def execHaulDeltaRx (link : LinkNo) (f : List Nat) (tag : WordTag) (s : State) : Res := .next (haulRx 2 link f tag s)
/-- HAUL_KEY_REPEAT_RX (R325). -/
def execHaulKeyRepeatRx (link : LinkNo) (f : List Nat) (tag : WordTag) (s : State) : Res := .next (haulRx 3 link f tag s)
/-- HAUL_DELAY_REQ_RX (R321). -/
def execHaulDelayReqRx (link : LinkNo) (f : List Nat) (tag : WordTag) (s : State) : Res := .next (haulRx 4 link f tag s)
/-- HAUL_KEY_REQ_RX (R326). -/
def execHaulKeyReqRx (link : LinkNo) (f : List Nat) (tag : WordTag) (s : State) : Res := .next (haulRx 5 link f tag s)
/-- TWIN_FRAME_RX (R322). -/
def execTwinFrameRx (link : LinkNo) (f : List Nat) (tag : WordTag) (s : State) : Res := .next (haulRx 8 link f tag s)

/-- HAUL_COPY_RELEASE (R329): the oldest copy of a link that `haul` has released. -/
def execHaulCopyRelease (link : LinkNo) (s : State) : Res :=
  let k := link.val
  let u := ctrlDrain s
  match (hlink u k).copies.find? (·.released) with
  | none => .next u
  | some c =>
    .next (releaseCopy k c (hlinkMod k (fun l => { l with
      copies := l.copies.filter fun y => !(y.type == c.type && y.seq == c.seq) }) u))

/-- SPLIT_WAIT_EXPIRY (R330): w_s after the first copy, the copy with the smaller bound code is applied and the others are
compared with it. -/
def execSplitWaitExpiry (feed : RefId) (s : State) : Res :=
  let n := feed.val
  match (feedSt s n).wait with
  | [] => .next s
  | (seq, tick, cs) :: rest =>
    let u := feedMod n (fun f => { f with wait := rest }) (elapseTo (tick + ticksOfNs (s.cfg.haul.waitUs * 1000)) s)
    let best := cs.foldl (fun (b : Option FeedCopy) c => match b with
      | some y => if c.copy.rx.code < y.copy.rx.code then some c else b
      | none => some c) none
    match best with
    | none => .next u
    | some b =>
      .next (splitClear n seq ((cs.filter fun c => c.link != b.link).foldl (fun t c =>
        duplicate n (((feedSt t n).applied.find? fun a => a.copy.seq == seq).getD b) c t) (applyCopy n b u)))

/-- HAUL_LINK_DOWN (R325): the last accepted sequences are forgotten, and with the last link of a feed the sequence of its
newest keyframe (R31). -/
def execHaulLinkDown (link : LinkNo) (s : State) : Res :=
  let u := hlinkMod link (fun l => { l with up := false, lastSeq := [], body := none }) s
  let n := feedOf s link
  .next (if (List.range 18).any (fun k => feedOf u k == n && (hlink u k).up) then u
    else feedMod n (fun f => { f with leap := none }) u)

end Sys2Proof.Machine
end

