-- ==== Sys2Proof/Machine/Outs.lean ====
section
/-! DEFINITION. Synthesisers, outputs, ramp generators, time-of-day sentences and event pins (R154 to R172). -/

namespace Sys2Proof.Machine

/-- A synthesiser's state. -/
def synSt (s : State) (n : Nat) : SynSt := sget {} s.outs.syn n
/-- An output's state. -/
def outSt (s : State) (m : Nat) : OutSt := sget {} s.outs.out m
/-- An event pin's state. -/
def evSt (s : State) (p : Nat) : EvSt := sget {} s.outs.ev p
/-- Changes a synthesiser. -/
def synMod (n : Nat) (f : SynSt → SynSt) (s : State) : State :=
  { s with outs := { s.outs with syn := smod {} s.outs.syn n f } }
/-- Changes an output. -/
def outMod (m : Nat) (f : OutSt → OutSt) (s : State) : State :=
  { s with outs := { s.outs with out := smod {} s.outs.out m f } }
/-- Changes an event pin. -/
def evMod (p : Nat) (f : EvSt → EvSt) (s : State) : State :=
  { s with outs := { s.outs with ev := smod {} s.outs.ev p f } }
/-- A synthesiser's parameters. -/
def synCfg (s : State) (n : Nat) : SynCfg := sget {} s.cfg.outs.syn n
/-- An output's parameters. -/
def outCfg (s : State) (m : Nat) : OutCfg := sget {} s.cfg.outs.out m
/-- An event pin's parameters. -/
def evCfg (s : State) (p : Nat) : EvCfg := sget {} s.cfg.outs.ev p

/-- Base address of an output's registers. -/
def outBase (m : Nat) : Nat := 0x00502000 + 0x40 * m
/-- Base address of an event pin's registers. -/
def evBase (p : Nat) : Nat := 0x00504000 + 0x40 * p

/-! ### Frequency plan (R155) -/

/-- The ratio to the LO that gives `f` Hz of Lode time, units of 2^-56, to nearest. -/
def followRatio (s : State) (f : Nat) : Nat :=
  let fLo := max s.cfg.str.loMHz 1 * 1000000
  (s.clk.inc * f * 25 + 8 * fLo) / (16 * fLo)

/-- The ratio of the port transmit reference, 156.25 MHz of Lode time (R193). -/
def portTxN (s : State) : Nat := s.outs.txHeld.getD (followRatio s 156250000)

/-- The feedback ratio N in units of 2^-56. -/
def synN (s : State) (n : Nat) : Nat :=
  match (synSt s n).nHeld with
  | some x => x
  | none =>
    let follow := followRatio s (synCfg s n).fVco
    ((follow : Int) + roundDiv (follow * (synSt s n).yr) (2 ^ 64)).toNat

/-- y_r's limit of 1.0e-4 in units of 2^-64 (R159). -/
def yrMax : Int := 1844674407370955

/-! ### Phase (R158, R161 to R164) -/

/-- The output period, or edge-clock period, in 2^-16 ps as a ratio (R156, R162). -/
def outPeriod (s : State) (m : Nat) : Nat × Nat :=
  (max (outCfg s m).div 1 * 65536000000000000, max (synCfg s (m / 2)).fVco 1)

/-- Picoseconds in units of 2^-16 ns, to nearest. -/
def fuOfPsInt (p : Int) : Int := roundDiv (p * 65536) 1000

/-- The step size in 2^-16 ps (R158): the larger of 1 ps and 2^-16 of the period. [DESIGN CHOICE, log 35] -/
def stepSize (s : State) (m : Nat) : Nat :=
  max 65536 (roundDiv ((outPeriod s m).1 : Int) ((outPeriod s m).2 * 65536)).toNat

/-- The deadband in 2^-16 ps (R163): the larger of 2 ps and the step size. -/
def deadband (s : State) (m : Nat) : Nat := max 131072 (stepSize s m)

/-- 100 ps in 2^-16 ps (R163). -/
def slewLimit : Nat := 6553600

/-- Where an output's grid starts, in 2^-16 ps (R161): its captured snap grid, or its offset from whole seconds. -/
def gridBase (s : State) (m : Nat) : Int :=
  if (outCfg s m).align = 2 then ((outSt s m).grid).getD 0 else (outCfg s m).finePs * 65536

/-- The phase error in 2^-16 ps of a loopback edge at `t` (R162): nearest grid instant, in (-P/2, P/2]. -/
def phaseError (s : State) (m t : Nat) : Int :=
  let c := outCfg s m
  let p : Int := (outPeriod s m).1
  let f : Int := (outPeriod s m).2
  let x : Int := ((t + Config.driverDelay m c.std c.pulse) * 1000 : Nat) + c.dBoardPs * 65536 - gridBase s m
  let k := Int.fdiv (2 * x * f + p - 1) (2 * p)
  x - Int.fdiv (k * p) f

/-- The first of the instants `base` + k p / f at or after `x`. -/
def gridNext (base : Int) (p : Nat × Nat) (x : Int) : Int :=
  base - Int.fdiv (Int.fdiv ((base - x) * p.2) p.1 * p.1) p.2

/-- Lode time in 2^-16 ps as 2^-16 ns, rounded up. -/
def fuUp (x : Int) : Nat := (-(Int.fdiv (-x) 1000)).toNat

/-- Whether an output is in a state in which it runs. -/
def outRuns (s : State) (m : Nat) : Bool :=
  match (outSt s m).state with
  | .slew => true
  | .aligned => true
  | .profile => true
  | .held => true
  | .free => true
  | _ => false

/-- Whether an output has had its first edge and awaits its first mean phase. -/
def outStarts (s : State) (m : Nat) : Bool :=
  decide ((outSt s m).state = .starting) && (decide ((outCfg s m).align ≠ 2) || (outSt s m).snapDone)

/-- Enabled members of a group. -/
def groupMembers (s : State) (g : Nat) : List Nat :=
  (List.range 8).filter fun m => (outCfg s m).en && (outCfg s m).group == g

/-- A group is ALIGNED while every member is (R165). -/
def groupAligned (s : State) (g : Nat) : Bool :=
  !(groupMembers s g).isEmpty && (groupMembers s g).all fun m => decide ((outSt s m).state = .aligned)

/-- Enters ALIGNED. -/
def outAligned (m : Nat) (s : State) : State :=
  irqRaise 5 0 (outMod m (fun o => { o with state := .aligned }) s)

/-- Enters SLEW, with its first step due at once; `left` when it left ALIGNED (R163, R164). -/
def outSlew (m : Nat) (left : Bool) (s : State) : State :=
  let u := rfBump (outBase m + 0x20) 23 16 1 (outMod m (fun o => { o with state := .slew, stepTick := s.clk.ticks }) s)
  if left then irqRaise 5 1 u else u

/-- Enters ALIGNED or SLEW by the deadband. -/
def outSettle (m : Nat) (s : State) : State :=
  if (outSt s m).phi.natAbs ≤ deadband s m then outAligned m s else outSlew m false s

/-- Enters a stopped state other than by amendment: interrupt and fault source 104 + m. -/
def outDown (m : Nat) (dst : OutState) (s : State) : State :=
  faultEvent (104 + m) 1 0 (irqRaise 5 2 (outMod m (fun o => { o with state := dst, stopReq := none }) s))

/-- The first edge of an output whose start is requested now, in 2^-16 ps of Lode time: of all outputs whose start is
requested at one tick it lies in the same LO period, within 50 us (R165, R173). [DESIGN CHOICE, log 35] -/
def firstEdge (s : State) (m : Nat) : Int :=
  let f := max s.cfg.str.loMHz 1
  let per := 65536000000 / f
  let sinceLo := s.clk.coarseRem * per / loPeriod16 s.cfg.str.loMHz
  ((nowFu s * 1000 + (1 + Config.startWait s.clk.ticks % (48 * f)) * per + Config.startPhase s.clk.ticks m % per : Nat) : Int)
    - sinceLo

/-- Starts an enabled output (R157, R164): FREE at once when it is not aligned. -/
def outStart (m : Nat) (s : State) : State :=
  if (outCfg s m).en && s.lode.loOk then
    outMod m (fun _ => {
      state := if (outCfg s m).align = 0 then .free else .starting
      edgeAt := firstEdge s m, startTick := s.clk.ticks }) s
  else outMod m (fun _ => {}) s

/-- An amendment's stop of an output is in progress (R156). -/
def amendStops (s : State) (m : Nat) : Bool := (outSt s m).stopReq.isSome && (outSt s m).byAmend

/-- An output that waits may start: no member of its group still stops, so that the group starts in one LO period (R165). -/
def groupReady (s : State) (m : Nat) : Bool :=
  (outCfg s m).group == 0 || (List.range 8).all fun k => (outCfg s k).group != (outCfg s m).group || !amendStops s k

/-- Starts the outputs that wait and may start, all at this tick. -/
def startWaiting (s : State) : State :=
  ((List.range 8).filter fun m => (outSt s m).waiting && groupReady s m).foldl (fun t m => outStart m t) s

/-- Starts every enabled output; members of a group start in the same LO period (R165). -/
def outsStart (s : State) : State := (List.range 8).foldl (fun t m => outStart m t) s

/-! ### Pulses (R166) -/

/-- The pulse period in 2^-16 ns as a ratio. -/
def pulsePeriod (s : State) (m : Nat) : Nat × Nat :=
  (max ((outCfg s m).pe * (outCfg s m).div) 1 * oneSec, max (synCfg s (m / 2)).fVco 1)

/-- Offset of the pulse edges from an even second, in 2^-16 ns. -/
def pulseOffset (s : State) (m : Nat) : Int :=
  let f := max (synCfg s (m / 2)).fVco 1
  ((outCfg s m).oe * (outCfg s m).div * oneSec / f : Nat) + fuOfPsInt (outCfg s m).finePs

/-- The first pulse instant at or after `t`: whole periods from the even second 0, since a period divides 2 s. [DESIGN CHOICE, log 35] -/
def pulseNext (s : State) (m t : Nat) : Nat := (gridNext (pulseOffset s m) (pulsePeriod s m) t).toNat

/-- The last pulse instant at or before `t`. -/
def pulsePrev (s : State) (m t : Nat) : Nat :=
  let p := pulsePeriod s m
  let k := Int.fdiv (((t : Int) - pulseOffset s m) * p.2) p.1
  (pulseOffset s m + Int.fdiv (k * p.1) p.2).toNat

/-! ### Start, stop and steps (R157, R158) -/

/-- The end of the output's period in progress, Lode time in 2^-16 ns: the present instant before its first edge or
pulse. -/
def periodEnd (s : State) (m : Nat) : Nat :=
  let now := nowFu s
  if (outCfg s m).pulse then (if (outSt s m).emitting then pulseNext s m (now + 1) else now)
  else if (now * 1000 : Nat) < (outSt s m).edgeAt then now
  else fuUp (gridNext (outSt s m).edgeAt (outPeriod s m) (now * 1000 : Nat))

/-- A stop request: it takes effect at the end of the period in progress (R157). [DESIGN CHOICE, log 35] -/
def outStopReq (m : Nat) (dst : OutState) (byAmend : Bool) (s : State) : State :=
  let due := tickOfLode (periodEnd s m) s
  let last := if (outSt s m).emitting then some (pulsePrev s m (nowFu s)) else (outSt s m).lastEdge
  outMod m (fun o => { o with stopReq := some dst, stopTick := due, byAmend := byAmend, lastEdge := last }) s

/-- One phase step: earlier when `back`, at the next boundary of the output's edge clock, whose period it lengthens or
shortens (R158). -/
def phaseStep (m : Nat) (back : Bool) (s : State) : State :=
  let u := elapseTo (tickOfLode (fuUp (gridNext (outSt s m).edgeAt (outPeriod s m) (nowFu s * 1000 : Nat))) s) s
  let d : Int := if back then -(stepSize s m : Int) else stepSize s m
  rfBump (outBase m + 0x20) 15 0 1 (outMod m (fun o => { o with edgeAt := o.edgeAt + d }) u)

/-- N of every synthesiser and the ratio of the port transmit reference are held while COARSE is 1 (R155, R193). -/
def outsHold (s : State) : State :=
  let u := (List.range 4).foldl (fun t n =>
    if (synCfg s n).fVco = 0 then t else synMod n (fun y => { y with nHeld := some (synN s n) }) t) s
  { u with outs := { u.outs with txHeld := some (portTxN s) } }

/-- N and the port transmit reference follow the increment again. -/
def outsRelease (s : State) : State :=
  let u := (List.range 4).foldl (fun t n => synMod n (fun y => { y with nHeld := none }) t) s
  { u with outs := { u.outs with txHeld := none } }

/-- The outputs at a TBPLL lock loss (R167): pulses stop after their period, clocks are HELD at their last N. One that
an amendment stops goes on to stop and to restart (R156). -/
def outsLockLoss (s : State) : State :=
  let u := outsHold s
  (List.range 8).foldl (fun t m =>
    if (outCfg t m).en && (outRuns t m || outStarts t m) && !amendStops t m then
      (if (outCfg t m).pulse then outStopReq m .stopped false t else outDown m .held t)
    else t) { u with outs := { u.outs with realigned := false } }

/-- The outputs after a successful re-alignment (R167): clocks settle by the first window measured from here on, pulses
restart with FIRST_PULSE. -/
def outsRealigned (s : State) : State :=
  let u := outsRelease s
  (List.range 8).foldl (fun t m =>
    if (outSt t m).state = .held then
      outMod m (fun o => { o with
        state := if (outCfg t m).align = 0 then .free else .held, startTick := t.clk.ticks, accSum := 0, accN := 0 }) t
    else t) { u with outs := { u.outs with realigned := true } }

/-- The outputs at an LO absence: every one stops by R157 and is then OFF (R167). -/
def outsLoAbsent (s : State) : State :=
  (List.range 8).foldl (fun t m =>
    if (outCfg t m).en && decide ((outSt t m).state ≠ .off) then outStopReq m .off false t else t) s

/-- Whether a pulse output may emit: it or its group is ALIGNED, or it restarts after a re-alignment (R166, R167); not
while COARSE is 1 (R73). -/
def mayEmit (s : State) (m : Nat) : Bool :=
  (outCfg s m).pulse && !(outSt s m).emitting && !s.lode.coarse &&
    (if (outCfg s m).group = 0 then decide ((outSt s m).state = .aligned ∨ (outSt s m).state = .free) else groupAligned s (outCfg s m).group)

/-! ### Ramp generators (R159, R160) -/

/-- The outputs of a synthesiser that are enabled. -/
def synOuts (s : State) (n : Nat) : List Nat := [2 * n, 2 * n + 1].filter fun m => (outCfg s m).en

/-- Ends playback: y_r = 0, the outputs slew back (R159). -/
def rampEnd (n : Nat) (s : State) : State :=
  let u := synMod n (fun y => { y with run := false, hold := false, yr := 0, left := 0 }) s
  let v := (synOuts s n).foldl (fun t m =>
    if (outSt t m).state = .profile then
      (if (outCfg t m).align = 0 then outMod m (fun o => { o with state := .free }) t else outSlew m false t)
    else t) u
  irqRaise 5 4 v

/-- Enters segment `i` of the profile (R159). -/
def rampEnter (n i : Nat) (s : State) : State :=
  match (synCfg s n).profile[i]? with
  | some g =>
    if g.type = 0 then rampEnd n s
    else synMod n (fun y => { y with
      seg := i, left := g.dur, yr := if g.type = 2 then clampInt (-yrMax) yrMax g.value else y.yr }) s
  | none => rampEnd n s

/-- The synthesisers held with `n` at an underrun: those driving a member of an aligned group of its outputs
(R160). -/
def holdSet (s : State) (n : Nat) : List Nat :=
  let gs := ((synOuts s n).map fun m => (outCfg s m).group).filter (· != 0)
  (List.range 4).filter fun k => k == n || (synOuts s k).any fun m => gs.contains (outCfg s m).group

/-- An output of the synthesiser is in a group. -/
def synGrouped (s : State) (n : Nat) : Bool := (synOuts s n).any fun m => (outCfg s m).group != 0

/-- An underrun of synthesiser `n` (R160): y_r is held, and by the group hold in every synthesiser of its groups, which
count it. -/
def rampUnderrun (n : Nat) (s : State) : State :=
  let u := rfBump (0x00501030 + 0x100 * n) 15 0 1 s
  let v := (holdSet s n).foldl (fun t k =>
    if (synSt t k).hold then t
    else
      let w := synMod k (fun y => { y with hold := true }) t
      if synGrouped s n then rfBump (0x00501030 + 0x100 * k) 31 16 1 w else w) u
  irqRaise 5 3 ((synOuts s n).foldl (fun t m => faultEvent (104 + m) 2 0 t) v)

/-- Plays `k` microseconds of the segment, at most what is left of it: y_r takes its slope each (R159). -/
def rampPlay (n k : Nat) (s : State) : State :=
  let y := synSt s n
  let j := min k y.left
  let slope := match (synCfg s n).profile[y.seg]? with
    | some g => if g.type = 1 then g.value else 0
    | none => 0
  synMod n (fun y => { y with yr := clampInt (-yrMax) yrMax (y.yr + slope * j), left := y.left - j }) s

/-- Plays to the end of the segment. -/
def rampToEnd (n : Nat) (s : State) : State :=
  let k := (synSt s n).left
  rampPlay n k (if k = 0 then s else elapseTo (tickOfUs (nowUs s + k)) s)

/-- Moves to the next segment, through the other half where the active one ends. [DESIGN CHOICE, log 35] -/
def rampNext (n : Nat) (s : State) : State :=
  let i := (synSt s n).seg + 1
  if i % 512 = 0 ∧ i < (synCfg s n).profile.length then
    (if (synSt s n).nextReady then
      rampEnter n i (synMod n (fun y => { y with half := !y.half, nextReady := false }) s)
     else rampUnderrun n s)
  else rampEnter n i s

/-! ### Sentences (R168 to R170) -/

/-- The 48 bytes of a sentence before its CRC. -/
def sentenceBody (s : State) (edge : Nat) (record : List Nat) (seq : Nat) : List Nat :=
  [0x5A, 0xD1, 1, 52] ++ beBytes 6 (secOf edge) ++ beBytes 4 (nsOf edge) ++ beBytes 2 (fracOf edge)
    ++ beBytes 2 (twosComp 16 s.leap.offset) ++ [twosComp 8 s.leap.pending, (lodeStateAt s edge).code] ++ record
    ++ beBytes 4 (originTrace s) ++ beBytes 4 (if s.leap.pending = 0 then 0 else s.leap.instant % 2 ^ 32)
    ++ beBytes 2 seq ++ [0, 0]

/-- The bound of a sentence (R169). -/
def sentenceCode (s : State) (k m edge : Nat) : Nat :=
  match (outSt s m).state with
  | .held => unboundedCode
  | .stopped => unboundedCode
  | .slew => boundCode s edge (fuOfPs ((sget {} s.cfg.outs.todout k).uOutPs + 50) + ceilDiv (outSt s m).phi.natAbs 1000) 0
  | _ => boundCode s edge (fuOfPs ((sget {} s.cfg.outs.todout k).uOutPs + 50)) 0

/-- Whether a received sentence is valid (R170). -/
def sentenceValid (b : List Nat) : Bool :=
  decide (b.length = 52) && b.take 4 == [0x5A, 0xD1, 1, 52] && decide (beAt b 48 4 = crc32c (b.take 48))
    && decide (beAt b 10 4 < 1000000000) && decide (beAt b 20 4 ≠ 0xFFFFFFFF)

/-! ### The commands -/

/-- OUTPUT_STOPPED (R157): the period in progress completes and the pins stay low. After an amendment the output
starts again with its new values (R156), the members of a group together (R165). -/
def execOutputStopped (m : OutNo) (s : State) : Res :=
  match (outSt s m).stopReq with
  | some dst =>
    let u := elapseTo (outSt s m).stopTick s
    if (outSt s m).byAmend then .next (startWaiting (outMod m (fun _ => { waiting := true }) u))
    else .next (outDown m dst (outMod m (fun o => { o with emitting := false }) u))
  | none => .next s

/-- The end of an output's window: whole milliseconds from its start (R163, R164). -/
def windowEnd (s : State) (m : Nat) : Nat :=
  let a := (outSt s m).startTick
  a + ((s.clk.ticks - a) / ticksPerMs + 1) * ticksPerMs

/-- The mean phase of a window, as measured or of the loopback edges converted in it. -/
def meanPhase (o : OutSt) (phi : Option Int) : Option Int :=
  match phi with
  | some x => some x
  | none => if o.accN = 0 then none else some (roundDiv o.accSum o.accN)

/-- The output takes its first mean phase since a start, a restart or a re-alignment (R164, R167). -/
def maySettle (s : State) (m : Nat) : Bool :=
  match (outSt s m).state with
  | .starting => outStarts s m
  | .held => s.outs.realigned && !s.lode.coarse
  | _ => false

/-- HOLD_LOOP_WINDOW (R163): the mean phase error of the window. A window without an edge gives none. [DESIGN CHOICE, log 35] -/
def execHoldLoopWindow (m : OutNo) (phi : Option Int) (s : State) : Res :=
  let u := elapseTo (windowEnd s m) s
  match meanPhase (outSt s m) phi with
  | none => .next u
  | some p =>
    let v := outMod m (fun o => { o with phi := p, accSum := 0, accN := 0 }) u
    match (outSt s m).state with
    | .slew => .next (if p.natAbs ≤ deadband s m then outAligned m v else v)
    | .aligned =>
      if slewLimit < p.natAbs then .next (outSlew m true v)
      else if deadband s m < p.natAbs then .next (phaseStep m (decide (0 < p)) v)
      else .next v
    | _ => .next (if maySettle s m then outSettle m v else v)

/-- Ticks between the steps of a slew: step size / s, but at least a period (R164). -/
def stepInterval (s : State) (m : Nat) : Nat :=
  max (ceilDiv (stepSize s m * ticksPerSec) (max s.lode.pullSlope 1 * 65536))
    (ceilDiv ((outCfg s m).div * ticksPerSec) (max (synCfg s (m / 2)).fVco 1))

/-- SLEW_STEP (R164): one step of sign opposite to the mean phase error. -/
def execSlewStep (m : OutNo) (s : State) : Res :=
  if (outSt s m).state = .slew then
    let due := (outSt s m).stepTick
    let u := outMod m (fun o => { o with stepTick := max s.clk.ticks due + stepInterval s m }) (elapseTo due s)
    .next (phaseStep m (decide (0 < (outSt s m).phi)) u)
  else .next s

/-- SNAP_RESTART (R164): the first grid instant at least 20 us after the snap edge. -/
def execSnapRestart (m : OutNo) (s : State) : Res :=
  match (outSt s m).state, (if (outSt s m).snapDone then none else (outSt s m).grid) with
  | .starting, some g =>
    let t := gridNext g (outPeriod s m) (((outSt s m).snapAt + fuOfNs 20000) * 1000 : Nat)
    let u := elapseTo (tickOfLode (fuUp t) s) s
    .next (outAligned m (rfBump (outBase m + 0x20) 31 24 1 (outMod m (fun o => { o with
      phi := 0, edgeAt := t, snapDone := true, startTick := u.clk.ticks }) u)))
  | _, _ => .next s

/-- RAMP_START (R159): refused without the characterisation bit. One that a group hold holds begins held (R160). While a
profile plays a START does nothing, and leaves REFUSED as it is. [DESIGN CHOICE, log 35] -/
def execRampStart (n : SynNo) (s : State) : Res :=
  if (synCfg s n).char then
    if (synSt s n).run then .next s
    else
      let u := synMod n (fun y => { y with
        run := true, refused := false, half := false, yr := 0
        nextReady := decide (512 < (synCfg s n).profile.length) }) s
      let v := (synOuts s n).foldl (fun t m => if outRuns t m then outMod m (fun o => { o with state := .profile }) t else t) u
      .next (rampEnter n 0 v)
  else .next (synMod n (fun y => { y with refused := true }) s)

/-- RAMP_STOP (R159): y_r = 0 at once. -/
def execRampStop (n : SynNo) (s : State) : Res := .next (if (synSt s n).run then rampEnd n s else s)

/-- RAMP_UPDATE (R159): once per microsecond, to the end of the segment. -/
def execRampUpdate (n : SynNo) (s : State) : Res :=
  let u := elapseTo (tickOfUs (nowUs s + 1)) s
  .next (if (synSt s n).run && !(synSt s n).hold then rampPlay n 1 u else u)

/-- RAMP_SEGMENT_END (R159): the segment's duration ends. -/
def execRampSegmentEnd (n : SynNo) (s : State) : Res :=
  .next (if (synSt s n).run && !(synSt s n).hold then rampNext n (rampToEnd n s) else s)

/-- RAMP_HALF_REFILL (R159): the Foreman fills the emptied half. -/
def execRampHalfRefill (n : SynNo) (s : State) : Res :=
  .next (if (synSt s n).run then synMod n (fun y => { y with nextReady := true }) s else s)

/-- The active half plays its last segment, and the profile goes on in the other half. -/
def lastOfHalf (s : State) (n : Nat) : Bool :=
  decide ((synSt s n).seg % 512 = 511 ∧ (synSt s n).seg + 1 < (synCfg s n).profile.length)

/-- RAMP_UNDERRUN (R160): the active half ends with the other half unfilled. -/
def execRampUnderrun (n : SynNo) (s : State) : Res :=
  .next (if (synSt s n).run && !(synSt s n).hold && !(synSt s n).nextReady && lastOfHalf s n then
      rampUnderrun n (rampToEnd n s)
    else s)

/-- A held synthesiser has a filled half (R160): it does not play, or the half it is in has segments left, or the other
half is filled. -/
def halfFilled (s : State) (n : Nat) : Bool :=
  !(synSt s n).run || (synSt s n).nextReady || !(lastOfHalf s n && decide ((synSt s n).left = 0))

/-- RAMP_RESUME (R160): every held synthesiser has a filled half; all go on at the next microsecond. -/
def execRampResume (s : State) : Res :=
  let held := (List.range 4).filter fun n => (synSt s n).hold
  if held.all (halfFilled s) then
    let u := elapseTo (tickOfUs (nowUs s + 1)) s
    .next (held.foldl (fun t n =>
      let v := synMod n (fun y => { y with hold := false }) t
      if (synSt v n).run && decide ((synSt v n).left = 0) then rampNext n v else v) u)
  else .next s

/-- FIRST_PULSE (R166, R167): at the first pulse instant, or the next whole pulse period after a successful re-alignment,
when a member of a group emits only if the group has been ALIGNED before (R165). An output that a failed re-alignment
left STOPPED stays so. [DESIGN CHOICE, log 35] -/
def execFirstPulse (m : OutNo) (s : State) : Res :=
  let restart := (outSt s m).state = .stopped ∧ s.outs.realigned = true ∧ s.lode.coarse = false ∧ (outCfg s m).pulse = true
  if restart ∨ mayEmit s m = true then
    let t := pulseNext s m (nowFu s)
    let u := elapseTo (tickOfLode t s) s
    .next (outMod m (fun o =>
      if restart then
        { o with
          state := if (outCfg s m).align = 0 then .free else .starting
          emitting := o.lastEdge.isSome, edgeAt := (t * 1000 : Nat), startTick := u.clk.ticks, accSum := 0, accN := 0 }
      else { o with emitting := true }) u)
  else .next s

/-- TODOUT_SENTENCE (R168, R169): the sentence that names the preceding emitted edge, at that edge plus the delay. -/
def execTodoutSentence (k : Ant) (s : State) : Res :=
  let c : TodoutCfg := sget {} s.cfg.outs.todout k
  let o := outSt s c.out
  let edge := if o.emitting then some (pulsePrev s c.out (nowFu s)) else o.lastEdge
  match edge with
  | some e =>
    if c.baud = 0 ∨ (sget {} s.outs.todout k).named = some e then .next s
    else
      let code := sentenceCode s k c.out e
      let seq := ((sget {} s.outs.todout k).seq + 1) % 2 ^ 16
      let body := sentenceBody s e (boundRecord s e code false (hopServed s)) seq
      let u := elapseTo (tickOfLode (e + fuOfNs (c.delayMs * 1000000)) s) s
      .next { u with outs := { u.outs with
        todout := sput {} u.outs.todout k { seq := seq, named := some e, sentence := body ++ beBytes 4 (crc32c body) } } }
  | none => .next s

/-- The reference whose entry names TODIN `k`. -/
def todinRef (s : State) (k : Nat) : Option Nat := (s.cfg.refs.refs.find? fun r => r.todin == some k).map (·.id)

/-- A sentence of 520 bits cannot have come at the reference's baud rate since its first start bit (R170). [DESIGN CHOICE, log 35] -/
def tooShort (baud startAgo : Nat) : Bool :=
  decide (baud ≠ 0 ∧ startAgo * 2 * baud < 1039 * 1000000000)

/-- TODIN_SENTENCE (R170): the bytes received, and how long ago their first start bit came, in ns. The pin is ignored until
the image is applied (R417). -/
def execTodinSentence (k : Ant) (bytes : List Nat) (startAgo : Nat) (s : State) : Res :=
  if !s.surv.structureApplied then .next s else
  let bump := fun hi lo => irqRaise 5 7 (rfBump (0x00503104 + 0x20 * k) hi lo 1 s)
  let baud := match todinRef s k with
    | some r => (refRec s r).baud
    | none => 0
  if sentenceValid bytes && !tooShort baud startAgo then
    let u := { s with outs := { s.outs with todin := smod {} s.outs.todin k fun t => { t with seq := beAt bytes 44 2 } } }
    match todinRef s k with
    | none => .next (irqRaise 5 7 (rfBump (0x00503104 + 0x20 * k) 31 16 1 u))
    | some r =>
      let start := nsOfTicks s.clk.ticks - startAgo
      let edge : Option (Nat × Nat) := match dialOf s 1 (r + 1) with
        | some ch => (dialCh s ch).recent.find? fun (e : Nat × Nat) =>
            decide (nsOfTicks e.2 + 1000000 ≤ start ∧ start ≤ nsOfTicks e.2 + 900000000)
        | none => none
      match edge with
      | none => .next (irqRaise 5 7 (rfBump (0x00503104 + 0x20 * k) 31 16 1 u))
      | some e =>
        let sec := beAt bytes 4 6
        let ok := match (refSt s r).todinPrev with
          | some (ps, pt) => (sec : Int) - ps == roundDiv ((e.1 : Int) - pt) oneSec
          | none => false
        let v := { u with outs := { u.outs with todin := smod {} u.outs.todin k fun t => { t with isMatch := ok } } }
        let w := refMod r (fun x => { x with
          todinPrev := some (sec, e.1), todinPend := false
          todinBad := if ok then 0 else min (x.todinBad + 1) 3 }) v
        let t := sec * oneSec + beAt bytes 10 4 * 65536 + beAt bytes 14 2
        .next (measure r ((t : Int) - e.1) (s.clk.ticks - e.2) w)
  else .next (bump 15 0)

/-- The first snap-input edge after a start fixes the output's grid (R164). -/
def snapCapture (ch t : Nat) (s : State) : State :=
  (List.range 8).foldl (fun u m =>
    let c := outCfg u m
    if c.en ∧ c.align = 2 ∧ c.snapCh = ch ∧ (outSt u m).state = .starting ∧ (outSt u m).grid = none then
      outMod m (fun o => { o with grid := some ((t * 1000 : Nat) + c.snapOfsPs * 65536), snapAt := t }) u
    else u) s

/-- A capture enters the FIFO, or is dropped and counted when it is full (R171). -/
def knockPush (p : Nat) (k : Knock) (s : State) : State :=
  if 16 ≤ (evSt s p).knocks.length then rfBump (evBase p + 0x34) 7 0 1 s
  else irqRaise 5 5 (evMod p (fun e => { e with knocks := e.knocks ++ [k] }) s)

/-- Ticks between coarse captures: those that hold 20 ns (R171). [DESIGN CHOICE, log 35] -/
def knockSpacing : Nat := 32

/-- A coarse capture: the present tick minus 320 ps, at least 20 ns after the last one (R171). -/
def coarseKnock (p : Nat) (rise : Bool) (s : State) : State :=
  let near := match (evSt s p).coarseTick with
    | some t => decide (s.clk.ticks < t + knockSpacing)
    | none => false
  if near then s
  else knockPush p { time := (lodeNow s - 32 * 2 ^ 56 / 100) / 2 ^ 40, invalid := s.lode.coarse, coarse := true, rise := rise }
    (evMod p (fun e => { e with coarseTick := some s.clk.ticks }) s)

/-- KNOCK_CAPTURE (R171): a selected edge; a pin with a USER Dial channel captures with its line code, and may be the snap input of an output (R164). Pulses under 2 ns are filtered out. -/
def execKnockCapture (p : EvNo) (rise : Bool) (code : PinEdge) (s : State) : Res :=
  let c := evCfg s p
  if c.role = 1 ∧ (if rise then bitAt c.edge 0 else bitAt c.edge 1) ∧ 2 ≤ code.width then
    let t0 := dialPinTrigger p s
    match dialOf s 3 (0x15 + p) with
    | none => .next (coarseKnock p rise t0)
    | some ch =>
      match takeLine ch code.code t0 with
      | none => .next (rfBump (dialBase ch + 0x34) 31 16 1 t0)
      | some (_, t, _, u) =>
        .next (knockPush p { time := t, invalid := s.lode.coarse, coarse := false, rise := rise } (snapCapture ch t u))
  else .next s

/-- EV_KNOCK0 as a popped capture shows it. -/
def knockWord (k : Option Knock) : Nat :=
  match k with
  | some x => fracOf x.time + x.invalid.toNat * 2 ^ 17 + x.coarse.toNat * 2 ^ 18 + x.rise.toNat * 2 ^ 19
  | none => 2 ^ 16

/-- KNOCK_READ (R171): a read of EV_KNOCK0 pops the oldest capture. -/
def execKnockRead (p : EvNo) (s : State) : Res :=
  let u := match (evSt s p).knocks with
    | k :: r => evMod p (fun e => { e with knocks := r, popped := some k }) s
    | [] => evMod p (fun e => { e with popped := none }) s
  .next { u with pcie := { u.pcie with readData := knockWord (evSt u p).popped } }

/-- Bell width in ns, clamped (R172). -/
def bellWidth (s : State) (p : Nat) : Nat := min (max (rfField s (evBase p + 4) 29 0) 10) 1000000000

/-- BELL_ENQUEUE (R172): a write `v` of EV_BELL_SEC_HI; with GO = 1 the assembled instant is queued or refused. -/
def execBellEnqueue (p : EvNo) (v : Nat) (s : State) : Res :=
  let e := evSt s p
  if bitAt v 31 ∧ (evCfg s p).role = 2 then
    let t := (v % 2 ^ 16 * 2 ^ 32 + e.asmSecLo) * oneSec + e.asmNs * 65536 + e.asmFrac
    let refuse := fun hi lo => irqRaise 5 6 (rfBump (evBase p + 0x34) hi lo 1 s)
    if 4 ≤ e.bells.length then .next (refuse 27 24)
    else if (match e.bells.getLast? with
        | some b => decide (t ≤ b + fuOfNs (bellWidth s p + 10))
        | none => false) then .next (refuse 23 16)
    else if t < nowFu s + fuOfNs 1000 then .next (refuse 15 8)
    else .next (evMod p (fun e => { e with bells := e.bells ++ [t] }) s)
  else .next s

/-- An instant to the nearest 40 ps of Lode time, in 2^-16 ns (R172). [DESIGN CHOICE, log 35] -/
def bellPlace (t : Nat) : Nat := (roundDiv (roundDiv ((t : Int) * 1000) 2621440 * 2621440) 1000).toNat

/-- BELL_FIRE (R172): the first queued instant arrives; it may trigger the Dial (R105). -/
def execBellFire (p : EvNo) (s : State) : Res :=
  match (evSt s p).bells with
  | t0 :: r =>
    let t := bellPlace t0
    let u := elapseTo (tickOfLode t s) s
    let v := evMod p (fun e => { e with bells := r, activeUntil := some (t + fuOfNs (bellWidth s p)) }) u
    let w := if s.lode.coarse then rfBump (evBase p + 0x34) 31 28 1 v else v
    .next (dialPinTrigger p w)
  | [] => .next s

/-- BELL_END (R172). -/
def execBellEnd (p : EvNo) (s : State) : Res :=
  match (evSt s p).activeUntil with
  | some t => .next (evMod p (fun e => { e with activeUntil := none }) (elapseTo (tickOfLode t s) s))
  | none => .next s

/-- A loopback edge of output `m` at `t` adds to its window (R162, R163). -/
def loopEdge (m t : Nat) (s : State) : State :=
  let p := phaseError s m t
  outMod m (fun o => { o with accSum := o.accSum + p, accN := o.accN + 1 }) s

/-- A port's recovered clock that is squelched gives no edges (R194). -/
def edgeSquelched (s : State) (ch : Nat) : Bool :=
  let r := dialRef (dialCfg s ch).source
  decide (8 ≤ r ∧ r < 12) && squelched s ((refRec s r).port.getD 64)

/-- DIAL_EDGE (R100): a prescaled edge with its line code and the width of its pulse, at the present tick. A pulse that is
too narrow for its reference is only counted (R79). [DESIGN CHOICE, log 31] -/
def execDialEdge (ch : DialCh) (code : PinEdge) (s : State) : Res :=
  if (dialCfg s ch).role = 0 ∨ dialEn s ch = false ∨ edgeSquelched s ch = true then .next s
  else if isRunt s ch code.width then .next (rfBump (refBase (dialRef (dialCfg s ch).source) + 0x14) 31 16 1 s)
  else
    match takeLine ch code.code s with
    | none => .next (blockMissing ch (rfBump (dialBase ch + 0x34) 31 16 1 s))
    | some (line, t, tLo, u) =>
      let v := stopIntervals ch t tLo (snapCapture ch t u)
      let src := (dialCfg s ch).source
      if (dialCfg s ch).role = 1 then
        let w := dialResult ch { value := lodeBits t, line := line } v
        .next (refEdge ch t w)
      else if (dialCfg s ch).role = 2 then
        let w := dialResult ch { value := lodeBits t, line := line } v
        .next (if 0x0D ≤ src ∧ src ≤ 0x14 ∧ dialInvalid s ch = false then loopEdge (src - 0x0D) t w else w)
      else .next (userEdge ch line t tLo v)

end Sys2Proof.Machine
end

