-- ==== Sys2Proof/Machine/Snap.lean ====
section
/-! DEFINITION. Snapshots: capture, the two halves of the host buffer, and restoring (R338 to R341). -/

namespace Sys2Proof.Machine

/-- Changes the snapshot unit. -/
def snapMod (f : SnapSt → SnapSt) (s : State) : State := { s with haul := { s.haul with snap := f s.haul.snap } }

/-- The key of R338: a loaded DEVICE slot bound to lanes, ENCRYPT, LABEL 0x534E4150. -/
def snapKey (s : State) : Option (Nat × MagSlot) :=
  s.cry.mag.find? fun e => e.2.device && e.2.loaded && e.2.bind == 0 && e.2.usage == 1 && e.2.label == 0x534E4150

/-- y (2^-48) and a (2^-64 per s) of a flywheel class as the Tally would use them. -/
def classYa (s : State) (c : Nat) : Nat × Nat :=
  let b := (s.cfg.refs.fly[c]?).getD {}
  let r := (s.haul.snap.ya[c]?).getD (0, 0)
  let own := decide (c = s.lode.fwClass)
  (max (max (min (ceilDiv (b.y * 2 ^ 48) (10 ^ 18)) 0xFFFFFFFF) (if own then yInForce s else 0)) r.1,
   max (max (min (ceilDiv (b.a * 2 ^ 64) (10 ^ 24)) 0xFFFFFFFF) (if own then aInForce s else 0)) r.2)

/-- The compatibility digest of the loaded image (R338). -/
def imageDigest (s : State) : Nat := Config.compatDigest s.cfg.seams s.cfg.str.gals s.cfg.str.pairs

/-- The directory entries and records with VALID set (R339). -/
def validDir (s : State) : Sparse DirEntry := s.sess.dir.filter fun e => e.2.valid

/-- A snapshot captured at this instant (R339, R340). [DESIGN CHOICE, log 17] -/
def capture (s : State) : Snap × State :=
  let n := drawRandom 12 s
  let t := nowFu s
  let dir := validDir s
  ({ serial := s.otp.serial, role := s.cfg.str.role, stream := s.cfg.haul.streamId
     secs := secOf t, time := t, tick := s.clk.ticks, digest := imageDigest s, label := 0x534E4150, nonce := n.1
     leap := leapWord s, inc := s.clk.inc, integ := s.lode.integ, integF := s.lode.integF, yFw := s.lode.yFw
     fAvg := if s.lode.fitN = 0 then s.lode.fAvg else fitAt s s.clk.ticks, ageRate := s.lode.ageRate, fitN := s.lode.fitN
     ya := (List.range 4).map (classYa s), lodeState := s.lode.state.code, fwClass := s.lode.fwClass
     epoch := s.tally.epoch, cal := s.cfg.str.calEpoch % 2 ^ 16, orbit := s.dayl.orbit
     dir := dir, recs := dir.map fun e => (e.1, recordOf s e.1) },
   { n.2 with sess := { n.2.sess with cache := smap {} (fun l => { l with dirty := false }) n.2.sess.cache } })

/-- Host address of a half of the buffer: 160 MiB each, from HAUL_SNAP_ADDR (R340). -/
def halfAddr (s : State) (h : Nat) : Nat := rfGet s 0x01400080 + 2 ^ 32 * rfGet s 0x01400084 + h * (160 * 2 ^ 20)

/-- What a half of the buffer holds. -/
def halfOf (s : State) (h : Nat) : Option Snap := sget none s.haul.snap.halves (halfAddr s h)

/-- A half holds no snapshot of this device (R340). -/
def halfEmpty (s : State) (h : Nat) : Bool :=
  match halfOf s h with
  | some x => x.version != 1 || x.serial != s.otp.serial
  | none => true

/-- The half that the next save writes (R340). [DESIGN CHOICE, log 17] -/
def saveHalf (s : State) : Nat :=
  match s.haul.snap.good with
  | some h => 1 - h
  | none =>
    if halfEmpty s 0 then 0 else if halfEmpty s 1 then 1
    else
      let t := fun (h : Nat) => ((halfOf s h).map (·.secs)).getD 0
      if t 1 < t 0 then 1 else 0

/-- Starts a save (R340). A save that runs already becomes the one that a mailbox command waits for. -/
def saveStart (mailbox spi : Bool) (s : State) : State :=
  match s.haul.snap.save with
  | some v => if mailbox then snapMod (fun x => { x with save := some { v with mailbox := true, forSpi := spi } }) s else s
  | none =>
    let c := capture s
    snapMod (fun x => { x with save := some {
      snap := c.1, half := saveHalf s, addr := halfAddr s (saveHalf s), mailbox := mailbox, spi := spi, forSpi := spi } }) c.2

/-- A section of the plaintext (R339). -/
def snapSection (type : Nat) (data : List Nat) : List Nat := [type, 0, 0, 0] ++ beBytes 4 data.length ++ data

/-- The STATE section's data (R339). -/
def snapState (x : Snap) : List Nat :=
  let y := fun (c : Nat) => (x.ya[c]?).getD (0, 0)
  fit 256 (beBytes 12 (lodeBits x.time)
    ++ beBytes 2 (twosComp 16 x.leap.offset) ++ [twosComp 8 x.leap.pending, 0] ++ beBytes 6 x.leap.instant
    ++ List.replicate 6 0
    ++ beBytes 8 x.inc ++ beBytes 16 (twosComp 128 x.integ) ++ beBytes 16 (twosComp 128 x.integF)
    ++ beBytes 8 (twosComp 64 x.yFw) ++ beBytes 8 (twosComp 64 x.fAvg) ++ beBytes 8 (twosComp 64 x.ageRate)
    ++ beBytes 4 x.fitN
    ++ ((List.range 4).map fun c => beBytes 8 (y c).1 ++ beBytes 8 (y c).2).flatten
    ++ [x.lodeState, x.fwClass, x.epoch, 0] ++ beBytes 2 x.cal)

/-- An entry of the ORBIT section (R339): system, PRN, kind, TAI seconds of decoding at tick `t`, and data bits. -/
def orbitEntry (x : Snap) (ix kind d : Nat) (t : Int) : List Nat :=
  [ix / 256 % 256, ix % 256, kind, 0]
    ++ beBytes 6 (secOf (x.time - ((x.tick - t).toNat * 4194304 + 99) / 100)) ++ beBytes 118 d

/-- The ORBIT section's data. -/
def snapOrbit (x : Snap) : List Nat :=
  (x.orbit.map fun e =>
    ((e.2.eph.map fun d => orbitEntry x e.1 0 d.1 d.2).getD [])
      ++ ((e.2.alm.map fun d => orbitEntry x e.1 1 d.1 d.2).getD [])).flatten

/-- A directory entry as 32 bits (R280). -/
def dirWord (e : DirEntry) : Nat := e.valid.toNat * 2 ^ 31 + e.nru.toNat * 2 ^ 30 + e.tag % 2 ^ 30

/-- The SESSIONS section's data (R339). -/
def snapSessions (x : Snap) : List Nat :=
  (x.dir.map fun e => beBytes 4 e.1 ++ beBytes 4 (dirWord e.2) ++ fit 64 (sget [] x.recs e.1)).flatten

/-- The plaintext (R339). -/
def snapPlain (x : Snap) : List Nat :=
  snapSection 1 (snapState x) ++ snapSection 2 (snapOrbit x) ++ snapSection 3 (snapSessions x)

/-- The clear header (R338) for a ciphertext of `n` bytes. -/
def snapHeader (x : Snap) (n : Nat) : List Nat :=
  beBytes 4 0x534E4150 ++ beBytes 2 x.version ++ beBytes 2 96 ++ beBytes 8 x.serial
    ++ [if x.role = .face then 1 else 0, 0, 0, 0] ++ beBytes 4 x.stream ++ beBytes 6 x.secs ++ [0, 0]
    ++ beBytes 32 x.digest ++ beBytes 4 n ++ beBytes 4 x.label ++ fit 12 x.nonce ++ List.replicate 12 0

/-- The bytes of a snapshot under its key (R338). [DESIGN CHOICE, log 17] -/
def snapBytes (x : Snap) : List Nat :=
  let p := snapPlain x
  let h := snapHeader x p.length
  h ++ gcmSeal x.key x.nonce h p

/-- The device may write the host buffer (R340, R379). -/
def canWriteHost (s : State) : Bool := s.pcie.busMaster && !s.pcie.d3hot && !s.pcie.inReset

/-- A save ends (R340): `ok` says whether every access completed. With the key the snapshot is staged; a save from SPI
ends there (R372). A failed save leaves the other half intact. -/
def saveDone (ok : Bool) (s : State) : State :=
  match s.haul.snap.save with
  | none => s
  | some v =>
    let snap := { v.snap with key := ((snapKey s).map fun k => magKey k.2).getD [] }
    let u := if (snapKey s).isSome then alertSet 4 (snapMod (fun x => { x with staged := snapBytes snap }) s) else s
    let w := wakeSet 3 (snapMod (fun x => { x with save := none }) u)
    if ok && (snapKey s).isSome && (v.spi || canWriteHost s) then
      let good := snapMod (fun x => { x with
        good := if v.spi then x.good else some v.half, lastSecs := v.snap.secs % 2 ^ 32
        halves := if v.spi then x.halves else sput none x.halves v.addr (some snap) }) w
      irqRaise 8 5 (rfBump 0x01400090 15 0 1 good)
    else
      let wrote := (snapKey s).isSome && !v.spi && canWriteHost s
      let bad := snapMod (fun x => { x with
        halves := if wrote then sput none x.halves v.addr none else x.halves }) w
      faultEvent 241 1 0 (irqRaise 8 6 (rfBump 0x01400090 31 16 1 bad))

/-- SNAPSHOT_PERIODIC (R340): the interval elapses and a save starts without the mailbox. -/
def execSnapshotPeriodic (s : State) : Res :=
  if s.cfg.haul.present ∧ s.cfg.haul.snapS ≠ 0 ∧ s.surv.state = 3 then
    .next (saveStart false false (elapseTo (nextMultiple (s.cfg.haul.snapS * ticksPerSec) s) s))
  else .next s

/-- What SNAPSHOT_RESTORE is refused for (R341): the tag fails without the key too. -/
def restoreDenied (s : State) (x : Snap) : Bool :=
  s.lode.svc || !x.tagOk || (snapKey s).map (fun k => magKey k.2) != some x.key || x.version != 1 || x.digest != imageDigest s || x.role != s.cfg.str.role
    || x.stream != s.cfg.haul.streamId

/-- The larger y and a of each flywheel class: a restored snapshot raises the bounds and never lowers them (R16, R341). -/
def yaMax (l m : List (Nat × Nat)) : List (Nat × Nat) :=
  (List.range 4).map fun c =>
    let a := (l[c]?).getD (0, 0)
    let b := (m[c]?).getD (0, 0)
    (max a.1 b.1, max a.2 b.2)

/-- A restored datum of the orbit cache: what was its age at the capture and, in seeded Lode time, what has passed since. [DESIGN CHOICE, log 17] -/
def restoredAge (x : Snap) (s : State) (d : Nat × Int) : Nat × Int :=
  let since := if s.lode.seeded then ticksOfNs ((nowFu s - x.time) / 65536) else 0
  (d.1, s.clk.ticks - (since : Int) - (x.tick - d.2))

/-- Restores a snapshot (R341). The increment, integrators, y_fw and LO fit are loaded only from the device's own. [DESIGN CHOICE, log 34] -/
def restore (x : Snap) (s : State) : State :=
  let u : State := { s with
    sess := { s.sess with
      dir := x.dir.foldl (fun m (e : Nat × DirEntry) => sput {} m e.1 e.2) []
      recs := x.recs.foldl (fun m (e : Nat × List Nat) => sput [] m e.1 (if e.2.all (· == 0) then [] else e.2)) []
      cache := [] }
    dayl := { s.dayl with orbit := x.orbit.foldl (fun m (e : Nat × OrbitSt) => sput {} m e.1 { e.2 with
      eph := e.2.eph.map (restoredAge x s), alm := e.2.alm.map (restoredAge x s) }) [] } }
  let snap : LeapState := { offset := x.leap.offset, pending := x.leap.pending, instant := x.leap.instant }
  let v : State := { u with leap := leapSelect { u.leap with snap := some snap } }
  let w := if x.serial = s.otp.serial then
      setInc x.inc { v with lode := { v.lode with
        integ := x.integ, integF := x.integF, yFw := x.yFw, fAvg := x.fAvg, ageRate := x.ageRate
        ageSlope := (x.ageRate, ticksPerSec), fitC := x.fAvg, fitTick := v.clk.ticks, fitN := x.fitN } }
    else v
  let y := snapMod (fun z => { z with ya := yaMax z.ya x.ya, restored := true, restoring := false }) w
  boundsEdge s y

end Sys2Proof.Machine
end

