-- ==== Sys2Proof/Machine/Hooks.lean ====
section
/-! DEFINITION. Commands that several blocks answer together: decision ticks, lock and LO events, class recovery, and the faults of the check units. -/

namespace Sys2Proof.Machine

/-- A decision tick begins at the present instant: it is noted, and the list changes as R336 says. -/
def tickBegins (s : State) : State := twinList { s with assay := { s.assay with tickMs := nowFu s / lodeMs } }

/-- A decision tick at the present instant: the list change of R336, the Assay (R87), then the split state and the
twin (R330, R333). -/
def decideNow (s : State) : State := twinEval (splitRefresh (decisionTick (tickBegins s)))

/-- ASSAY_DECISION_TICK (R87): the next whole millisecond, once the image is applied (R359). -/
def execAssayDecisionTick (s : State) : Res :=
  .next (if s.surv.state = 3 then decideNow (elapseTo (nextDecision s) s) else s)

/-- WAIT_TO_RESTORE_EXPIRY (R90): the timer counts whole decision ticks (R84), so it ends at one, and that tick decides
every reference before it selects (R87). A timer that has expired before leaves the next decision tick as it is. -/
def execWaitToRestoreExpiry (ref : RefId) (s : State) : Res :=
  if isUsable s ref then
    let u := elapseTo (wtrDue s ref) s
    .next (if atDecision u && decide (nowFu u / lodeMs ≠ u.assay.tickMs) then decideNow u else u)
  else .next s

/-- TBPLL_INITIAL_LOCK (R62): the TBPLL locks, and outputs of an image that has been applied before the LO was there start
(R157). -/
def execTbpllInitialLock (s : State) : Res :=
  let u := lodeFirstLock (oscStop s)
  .next (if s.surv.structureApplied && !s.lode.loOk then outsStart u else u)

/-- TBPLL_LOCK_LOSS (R73, R167). -/
def execTbpllLockLoss (s : State) : Res :=
  .next (if s.lode.tbpllLock then lodeLockLoss (outsLockLoss s) else s)

/-- REALIGN_DECISION (R74): after a relock, `fine` is the measured fine phase and `theta` the flywheel's measured phase. -/
def execRealignDecision (fine : Nat) (theta : Option Int) (s : State) : Res :=
  if s.lode.coarse && s.lode.tbpllLock && s.lode.loOk then
    let good := decide ((coarseError s theta).1 ≤ realignLimit)
    let u := lodeRealign fine theta s
    .next (if good then outsRealigned u else outsRelease u)
  else .next s

/-- LO_ABSENCE_DETECTED (R75): also at reset release with the LO absent (R414). -/
def execLoAbsenceDetected (s : State) : Res :=
  .next (if (srcSt s 17).held.contains 1 then s else outsLoAbsent (lodeLoAbsent (outsHold (oscStart s))))

/-- LO_RETURN (R75). A Lode in FREE with STRUCTURE applied enters ACQUIRE (R62); the outputs start (R167). -/
def execLoReturn (s : State) : Res :=
  if s.lode.loOk then .next s
  else
    let u := lodeLoReturn (oscStop s)
    let v := if u.lode.state = .free ∧ u.surv.structureApplied then enterAcquire (calibrate u) else u
    .next (outsStart (outsRelease v))

/-- CLASS_RECOVERY (R387): the first microsecond at which class `k` recovers. After class 8 every eligible fenced gallery
starts readmission (R232). [DESIGN CHOICE, log 57] -/
def execClassRecovery (k : Fin 15) (s : State) : Res :=
  let live := (classSrcs s k).any (fun e => e.2.active) && !classHeld s k
  if !live then .next s
  else
    let u := elapseTo (tickOfUs (quietEnd s k)) s
    if recoverable u k then
      let v := classRecover k u
      .next (if k.val = 8 then
          (List.range 16).foldl (fun t g => if autoReadmit t g then startReadmit g t else t) v
        else v)
    else .next u

/-- A parity error of a context of check unit `k` (R402): the pick's context is tainted. -/
def taintContext (k pick : Nat) (s : State) : State :=
  irqRaise 14 8 (pickMod pick (fun p =>
    if p.tainted.contains k then p else { p with tainted := k :: p.tainted }) s)

/-- FAULT_EVENT (R385): a source reports an event. A reserved source, or a cause that its source does not have, reports nothing
(R383). A parity error of a check unit's context also taints it (R402). -/
def execFaultEvent (src : FaultSrc) (cause detail : Nat) (s : State) : Res :=
  let u := if 272 ≤ src.val ∧ src.val < 280 ∧ cause = 1 then taintContext (src.val - 272) (detail % 512) s else s
  .next (if hasCause src cause then faultEvent src cause detail u else s)

end Sys2Proof.Machine
end

