-- ==== Sys2Proof/Machine/PickOps.lean ====
section
/-! DEFINITION. The picks' instructions, helper calls apart (R237 to R243, R254, R398 to R402). -/

namespace Sys2Proof.Machine

/-! ### Shared operations -/

/-- A nibble operation of register `d` with operand `b` (R242, 0001 and 0010 forms). -/
def aluOp (write setC : Bool) (cin : Bool) (op : Nat → Nat → Bool → Nat × Bool) (d b : Nat) (p : PickSt) : Did :=
  let r := op (p.reg d) b cin
  let q := if write then p.setReg d r.1 else p
  { p := if setC then q.flagsZCN r.1 r.2 else q.flagsZN r.1 }

/-- A field operation with the field at `j` (R242, 0110 forms). -/
def fieldInstr (write setC useC : Bool) (op : Nat → Nat → Bool → Nat × Bool) (readsI : Bool) (i j : Nat) (ai aj : Bool)
    (pick : Nat) (s : State) : State :=
  let p := pickSt s pick
  let fi := p.ptr i
  let fj := p.ptr j
  let waits := readWaits s pick fj.tag fj.addr p.fl || (readsI && readWaits s pick fi.tag fi.addr p.fl)
  runInstr pick waits (fun p =>
    { p := ((fieldOp write setC (useC && p.c) i (srcField fj) op p).advance ai i).advance aj j
      steps := p.fl
      err := rangeOutside p fi.tag fi.addr p.fl || rangeOutside p fj.tag fj.addr p.fl }) s

/-- A field operation with a nibble register (R242, 0111 forms). -/
def fieldNibInstr (write setC useC : Bool) (op : Nat → Nat → Bool → Nat × Bool) (src : PickSt → PickSt → Nat → Nat)
    (readsI : Bool) (i : Nat) (a : Bool) (pick : Nat) (s : State) : State :=
  let p := pickSt s pick
  let fi := p.ptr i
  runInstr pick (readsI && readWaits s pick fi.tag fi.addr p.fl) (fun p =>
    { p := (fieldOp write setC (useC && p.c) i (src p) op p).advance a i
      steps := p.fl, err := rangeOutside p fi.tag fi.addr p.fl }) s

/-- The bits of a nibble shifted left by `x`: result and last bit out (R242). -/
def shl4 (v x : Nat) : Nat × Bool := (v * 2 ^ x % 16, decide (x ≠ 0) && bitAt v (4 - x))

/-- A nibble shifted right by `x`: result and last bit out. -/
def shr4 (v x : Nat) : Nat × Bool := (v / 2 ^ x, decide (x ≠ 0) && bitAt v (x - 1))

/-- A nibble rotated left by `x`. -/
def rol4 (v x : Nat) : Nat := (v * 2 ^ x % 16) ||| (v / 2 ^ (4 - x))

/-- The program counter after a jump by signed offset `o` from the instruction that follows. -/
def jumpBy (p : PickSt) (o : Int) : PickSt := { p with pc := (((p.pc : Int) + o) % 16384).toNat }

/-- A conditional branch with a 9-bit offset (R242). -/
def branchInstr (cond : PickSt → Bool) (o : Nat) (pick : Nat) (s : State) : State :=
  runInstr pick false (fun p => if cond p then { p := jumpBy p (signedOf 9 o), steps := 2 } else { p := p }) s

/-- An item that ends by a program error, as DROP (R254). -/
def endByError (pick : Nat) (s : State) : State := countEnded pick (programError pick (endItem pick false false s))

/-! ### Check units (R398 to R402) -/

/-- Parameters of a check unit: width, polynomial, initial value, reflected, XorOut, Good (R398). -/
structure CrcUnit where
  width : Nat
  poly : Nat
  init : Nat
  refl : Bool
  xorOut : Nat
  good : Nat

/-- The check units K0 to K7 (R398). -/
def crcUnit (k : Nat) : CrcUnit :=
  match k with
  | 0 => ⟨32, 0x1EDC6F41, 0xFFFFFFFF, true, 0xFFFFFFFF, 0x48674BC7⟩
  | 1 => ⟨32, 0x04C11DB7, 0xFFFFFFFF, true, 0xFFFFFFFF, 0x2144DF1C⟩
  | 2 => ⟨32, 0x04C11DB7, 0xFFFFFFFF, false, 0, 0⟩
  | 3 => ⟨32, 0x04C11DB7, 0xFFFFFFFF, false, 0xFFFFFFFF, 0x38FB2284⟩
  | 4 => ⟨24, 0x864CFB, 0, false, 0, 0⟩
  | 5 => ⟨16, 0x1021, 0xFFFF, false, 0, 0⟩
  | 6 => ⟨16, 0x8005, 0, true, 0, 0⟩
  | _ => ⟨8, 0x07, 0, false, 0, 0⟩

/-- The bits of an `n`-bit number reversed. -/
def revBits : Nat → Nat → Nat
  | 0, _ => 0
  | n + 1, v => v % 2 * 2 ^ n + revBits n (v / 2)

/-- One bit of an unreflected CRC. -/
def crcBitHigh (w poly c : Nat) : Nat := if bitAt c (w - 1) then (c * 2 % 2 ^ w) ^^^ poly else c * 2 % 2 ^ w

/-- One byte of a unit's CRC; a reflected unit keeps its register reflected. -/
def crcUnitByte (u : CrcUnit) (c b : Nat) : Nat :=
  if u.refl then
    let f := crcBit (revBits u.width u.poly)
    f (f (f (f (f (f (f (f (c ^^^ b))))))))
  else
    let f := crcBitHigh u.width u.poly
    f (f (f (f (f (f (f (f (c ^^^ b * 2 ^ (u.width - 8)))))))))

/-- A pick's context of unit `k` (R399). -/
def PickSt.context (p : PickSt) (k : Nat) : Nat := sget 0 p.crc k ^^^ (crcUnit k).init

/-- Sets a context. -/
def PickSt.setContext (p : PickSt) (k v : Nat) : PickSt := { p with crc := sput 0 p.crc k (v ^^^ (crcUnit k).init) }

/-- The value that KRES writes: RefOut is in the register's form, then XorOut. -/
def crcValue (k c : Nat) : Nat := c ^^^ (crcUnit k).xorOut

/-- Writes an 8-nibble big-endian value at a pointer. -/
def PickSt.setWord (p : PickSt) (f : FieldPtr) (v : Nat) : PickSt :=
  (List.range 8).foldl (fun q m => q.setNib f.tag (f.addr + m) (v / 16 ^ (7 - m))) p

/-- A KRES that clears Z, where CHK_COUNT_EN counts its unit (R401). -/
def crcMismatch (k : Nat) (s : State) : State :=
  if bitAt (rfGet s 0x01E00000) k then irqRaise 14 k (rfBump (0x01E01014 + 0x20 * k) 31 0 1 s) else s

/-- The value of a KRES and whether it is good (R400, R402). -/
def kresGood (p : PickSt) (k : Nat) : Bool := crcValue k (p.context k) == (crcUnit k).good && !p.tainted.contains k

/-! ### The instructions -/

/-- NOP. -/
def execNop (pick : PickNo) (s : State) : Res :=
  .next (runInstr pick false (fun p => { p := p }) s)

/-- RET: an empty return stack is a program error that ends the item as DROP (R254). -/
def execRet (pick : PickNo) (s : State) : Res :=
  let p := pickSt s pick
  if p.phase = .running ∧ p.stack = [] then .next (endByError pick (pickMod pick (fun x => { x with steps := x.steps + 2 }) s))
  else .next (runInstr pick false (fun p => { p := { p with pc := p.stack.headD 0, stack := p.stack.drop 1 }, steps := 2 }) s)

/-- WAIT: holds the pick while a NOWAIT helper of it is outstanding. -/
def execWait (pick : PickNo) (s : State) : Res :=
  .next (runInstr pick (s.shaft.reqs.any fun r => r.pick == pick.val && r.nowait && !r.stale) (fun p => { p := p }) s)

/-- GETF: Nd takes 0, N, C, Z in bits 3 to 0. -/
def execGetf (pick : PickNo) (d : Reg) (s : State) : Res :=
  .next (runInstr pick false (fun p => { p := p.setReg d (p.n.toNat * 4 + p.c.toNat * 2 + p.z.toNat) }) s)

/-- SETF: N, C, Z take Ns[2:0]. -/
def execSetf (pick : PickNo) (n : Reg) (s : State) : Res :=
  .next (runInstr pick false (fun p =>
    { p := { p with n := bitAt (p.reg n) 2, c := bitAt (p.reg n) 1, z := bitAt (p.reg n) 0 } }) s)

/-- FLEN: FL takes x + 1. -/
def execFlen (pick : PickNo) (x : Fin 32) (s : State) : Res :=
  .next (runInstr pick false (fun p => { p := { p with fl := x.val + 1 } }) s)

/-- FLENR: FL takes Ns + 1. -/
def execFlenr (pick : PickNo) (n : Reg) (s : State) : Res :=
  .next (runInstr pick false (fun p => { p := { p with fl := p.reg n + 1 } }) s)

/-- KFEED: 1, 2 or 4 bytes from Fi, in ascending address order, into unit k (R400). -/
def execKfeed (pick : PickNo) (k i : Ptr) (w : Fin 3) (s : State) : Res :=
  let n := 2 ^ w.val
  let f := (pickSt s pick).ptr i
  .next (runInstr pick (readWaits s pick f.tag f.addr (2 * n)) (fun p =>
    { p := p.setContext k ((p.bytes f.tag f.addr n).foldl (crcUnitByte (crcUnit k)) (p.context k))
      steps := 1 + n, err := rangeOutside p f.tag f.addr (2 * n) }) s)

/-- KRES: unit k's value to the 8 nibbles at Fi; Z when it is the unit's Good value (R400 to R402). -/
def execKres (pick : PickNo) (k i : Ptr) (s : State) : Res :=
  let p := pickSt s pick
  let f := p.ptr i
  let u := runInstr pick false (fun p =>
    { p := { p.setWord f (crcValue k (p.context k)) with z := kresGood p k }
      steps := 8, err := rangeOutside p f.tag f.addr 8 }) s
  .next (if p.phase = .running ∧ kresGood p k = false then crcMismatch k u else u)

/-- KINIT: unit k to its initial value; a taint is cleared (R399, R402). -/
def execKinit (pick : PickNo) (k : Ptr) (s : State) : Res :=
  .next (runInstr pick false (fun p => { p := { p.setContext k (crcUnit k).init with
    tainted := p.tainted.filter (· != k.val) } }) s)

/-- MOV Nd, Ns. -/
def execMov (pick : PickNo) (d n : Reg) (s : State) : Res :=
  .next (runInstr pick false (fun p => aluOp true false false opMov d (p.reg n) p) s)

/-- ADD Nd, Ns. -/
def execAdd (pick : PickNo) (d n : Reg) (s : State) : Res :=
  .next (runInstr pick false (fun p => aluOp true true false addNib d (p.reg n) p) s)

/-- ADC Nd, Ns. -/
def execAdc (pick : PickNo) (d n : Reg) (s : State) : Res :=
  .next (runInstr pick false (fun p => aluOp true true p.c addNib d (p.reg n) p) s)

/-- SUB Nd, Ns. -/
def execSub (pick : PickNo) (d n : Reg) (s : State) : Res :=
  .next (runInstr pick false (fun p => aluOp true true false subNib d (p.reg n) p) s)

/-- SBC Nd, Ns. -/
def execSbc (pick : PickNo) (d n : Reg) (s : State) : Res :=
  .next (runInstr pick false (fun p => aluOp true true p.c subNib d (p.reg n) p) s)

/-- AND Nd, Ns. -/
def execAnd (pick : PickNo) (d n : Reg) (s : State) : Res :=
  .next (runInstr pick false (fun p => aluOp true false false opAnd d (p.reg n) p) s)

/-- OR Nd, Ns. -/
def execOr (pick : PickNo) (d n : Reg) (s : State) : Res :=
  .next (runInstr pick false (fun p => aluOp true false false opOr d (p.reg n) p) s)

/-- XOR Nd, Ns. -/
def execXor (pick : PickNo) (d n : Reg) (s : State) : Res :=
  .next (runInstr pick false (fun p => aluOp true false false opXor d (p.reg n) p) s)

/-- CMP Nd, Ns. -/
def execCmp (pick : PickNo) (d n : Reg) (s : State) : Res :=
  .next (runInstr pick false (fun p => aluOp false true false subNib d (p.reg n) p) s)

/-- TST Nd, Ns. -/
def execTst (pick : PickNo) (d n : Reg) (s : State) : Res :=
  .next (runInstr pick false (fun p => aluOp false false false opAnd d (p.reg n) p) s)

/-- MOVI Nd, x. -/
def execMovi (pick : PickNo) (d : Reg) (x : Fin 16) (s : State) : Res :=
  .next (runInstr pick false (fun p => aluOp true false false opMov d x p) s)

/-- ADDI Nd, x. -/
def execAddi (pick : PickNo) (d : Reg) (x : Fin 16) (s : State) : Res :=
  .next (runInstr pick false (fun p => aluOp true true false addNib d x p) s)

/-- ADCI Nd, x. -/
def execAdci (pick : PickNo) (d : Reg) (x : Fin 16) (s : State) : Res :=
  .next (runInstr pick false (fun p => aluOp true true p.c addNib d x p) s)

/-- SUBI Nd, x. -/
def execSubi (pick : PickNo) (d : Reg) (x : Fin 16) (s : State) : Res :=
  .next (runInstr pick false (fun p => aluOp true true false subNib d x p) s)

/-- SBCI Nd, x. -/
def execSbci (pick : PickNo) (d : Reg) (x : Fin 16) (s : State) : Res :=
  .next (runInstr pick false (fun p => aluOp true true p.c subNib d x p) s)

/-- ANDI Nd, x. -/
def execAndi (pick : PickNo) (d : Reg) (x : Fin 16) (s : State) : Res :=
  .next (runInstr pick false (fun p => aluOp true false false opAnd d x p) s)

/-- ORI Nd, x. -/
def execOri (pick : PickNo) (d : Reg) (x : Fin 16) (s : State) : Res :=
  .next (runInstr pick false (fun p => aluOp true false false opOr d x p) s)

/-- XORI Nd, x. -/
def execXori (pick : PickNo) (d : Reg) (x : Fin 16) (s : State) : Res :=
  .next (runInstr pick false (fun p => aluOp true false false opXor d x p) s)

/-- CMPI Nd, x. -/
def execCmpi (pick : PickNo) (d : Reg) (x : Fin 16) (s : State) : Res :=
  .next (runInstr pick false (fun p => aluOp false true false subNib d x p) s)

/-- TSTI Nd, x. -/
def execTsti (pick : PickNo) (d : Reg) (x : Fin 16) (s : State) : Res :=
  .next (runInstr pick false (fun p => aluOp false false false opAnd d x p) s)

/-- SHL: C takes the last bit out, or 0 when x = 0. -/
def execShl (pick : PickNo) (d : Reg) (x : Fin 4) (s : State) : Res :=
  .next (runInstr pick false (fun p =>
    { p := (p.setReg d (shl4 (p.reg d) x).1).flagsZCN (shl4 (p.reg d) x).1 (shl4 (p.reg d) x).2 }) s)

/-- SHR: C as SHL. -/
def execShr (pick : PickNo) (d : Reg) (x : Fin 4) (s : State) : Res :=
  .next (runInstr pick false (fun p =>
    { p := (p.setReg d (shr4 (p.reg d) x).1).flagsZCN (shr4 (p.reg d) x).1 (shr4 (p.reg d) x).2 }) s)

/-- ROL within 4 bits. -/
def execRol (pick : PickNo) (d : Reg) (x : Fin 4) (s : State) : Res :=
  .next (runInstr pick false (fun p =>
    { p := (p.setReg d (rol4 (p.reg d) x)).flagsZN (rol4 (p.reg d) x) }) s)

/-- ROR within 4 bits. -/
def execRor (pick : PickNo) (d : Reg) (x : Fin 4) (s : State) : Res :=
  .next (runInstr pick false (fun p =>
    { p := (p.setReg d (rol4 (p.reg d) ((4 - x.val) % 4))).flagsZN (rol4 (p.reg d) ((4 - x.val) % 4)) }) s)

/-- NOT Nd. -/
def execNot (pick : PickNo) (d : Reg) (s : State) : Res :=
  .next (runInstr pick false (fun p =>
    { p := (p.setReg d (15 - p.reg d)).flagsZN (15 - p.reg d) }) s)

/-- NEG: Nd takes 0 - Nd; C takes the borrow. -/
def execNeg (pick : PickNo) (d : Reg) (s : State) : Res :=
  .next (runInstr pick false (fun p =>
    { p := (p.setReg d (subNib 0 (p.reg d) false).1).flagsZCN (subNib 0 (p.reg d) false).1 (subNib 0 (p.reg d) false).2 }) s)

/-- BIT: Z takes NOT Nd[x]. -/
def execBit (pick : PickNo) (d : Reg) (x : Fin 4) (s : State) : Res :=
  .next (runInstr pick false (fun p => { p := { p with z := !bitAt (p.reg d) x } }) s)

/-- SETB: Nd[x] takes 1. -/
def execSetb (pick : PickNo) (d : Reg) (x : Fin 4) (s : State) : Res :=
  .next (runInstr pick false (fun p => { p := p.setReg d (p.reg d ||| 2 ^ x.val) }) s)

/-- CLRB: Nd[x] takes 0. -/
def execClrb (pick : PickNo) (d : Reg) (x : Fin 4) (s : State) : Res :=
  .next (runInstr pick false (fun p => { p := p.setReg d (p.reg d &&& (15 - 2 ^ x.val)) }) s)

/-- LDN: Nd takes the nibble at Fi + x. -/
def execLdn (pick : PickNo) (d : Reg) (i : Ptr) (x : Fin 32) (s : State) : Res :=
  let f := (pickSt s pick).ptr i
  .next (runInstr pick (readWaits s pick f.tag (f.addr + x) 1) (fun p =>
    { p := p.setReg d (p.nib f.tag (f.addr + x)), err := p.outside f.tag (f.addr + x) }) s)

/-- STN: the nibble at Fi + x takes Ns. -/
def execStn (pick : PickNo) (n : Reg) (i : Ptr) (x : Fin 32) (s : State) : Res :=
  let f := (pickSt s pick).ptr i
  .next (runInstr pick false (fun p =>
    { p := p.setNib f.tag (f.addr + x) (p.reg n), err := p.outside f.tag (f.addr + x) }) s)

/-- FMOV Fi, Fj. -/
def execFmov (pick : PickNo) (i j : Ptr) (ai aj : Bool) (s : State) : Res :=
  .next (fieldInstr true false false opMov false i j ai aj pick s)

/-- FADD Fi, Fj. -/
def execFadd (pick : PickNo) (i j : Ptr) (ai aj : Bool) (s : State) : Res :=
  .next (fieldInstr true true false addNib true i j ai aj pick s)

/-- FADC Fi, Fj. -/
def execFadc (pick : PickNo) (i j : Ptr) (ai aj : Bool) (s : State) : Res :=
  .next (fieldInstr true true true addNib true i j ai aj pick s)

/-- FSUB Fi, Fj. -/
def execFsub (pick : PickNo) (i j : Ptr) (ai aj : Bool) (s : State) : Res :=
  .next (fieldInstr true true false subNib true i j ai aj pick s)

/-- FSBC Fi, Fj. -/
def execFsbc (pick : PickNo) (i j : Ptr) (ai aj : Bool) (s : State) : Res :=
  .next (fieldInstr true true true subNib true i j ai aj pick s)

/-- FAND Fi, Fj. -/
def execFand (pick : PickNo) (i j : Ptr) (ai aj : Bool) (s : State) : Res :=
  .next (fieldInstr true false false opAnd true i j ai aj pick s)

/-- FOR Fi, Fj. -/
def execFieldOr (pick : PickNo) (i j : Ptr) (ai aj : Bool) (s : State) : Res :=
  .next (fieldInstr true false false opOr true i j ai aj pick s)

/-- FXOR Fi, Fj. -/
def execFxor (pick : PickNo) (i j : Ptr) (ai aj : Bool) (s : State) : Res :=
  .next (fieldInstr true false false opXor true i j ai aj pick s)

/-- FCMP Fi, Fj. -/
def execFcmp (pick : PickNo) (i j : Ptr) (ai aj : Bool) (s : State) : Res :=
  .next (fieldInstr false true false subNib true i j ai aj pick s)

/-- FTST Fi, Fj. -/
def execFtst (pick : PickNo) (i j : Ptr) (ai aj : Bool) (s : State) : Res :=
  .next (fieldInstr false false false opAnd true i j ai aj pick s)

/-- FFILL Fi, Ns: every nibble of the field takes Ns. -/
def execFfill (pick : PickNo) (i : Ptr) (a : Bool) (n : Reg) (s : State) : Res :=
  .next (fieldNibInstr true false false opMov (fun p _ _ => p.reg n) false i a pick s)

/-- FADDN Fi, Ns: the field takes field + Ns. -/
def execFaddn (pick : PickNo) (i : Ptr) (a : Bool) (n : Reg) (s : State) : Res :=
  .next (fieldNibInstr true true false addNib (fun p => srcNib p.fl (p.reg n)) true i a pick s)

/-- FADCN Fi, Ns: the field takes field + Ns + C. -/
def execFadcn (pick : PickNo) (i : Ptr) (a : Bool) (n : Reg) (s : State) : Res :=
  .next (fieldNibInstr true true true addNib (fun p => srcNib p.fl (p.reg n)) true i a pick s)

/-- FSUBN Fi, Ns: the field takes field - Ns. -/
def execFsubn (pick : PickNo) (i : Ptr) (a : Bool) (n : Reg) (s : State) : Res :=
  .next (fieldNibInstr true true false subNib (fun p => srcNib p.fl (p.reg n)) true i a pick s)

/-- FCMPN Fi, Ns: flags of field - Ns. -/
def execFcmpn (pick : PickNo) (i : Ptr) (a : Bool) (n : Reg) (s : State) : Res :=
  .next (fieldNibInstr false true false subNib (fun p => srcNib p.fl (p.reg n)) true i a pick s)

/-- FGET: N(s + m) takes nibble Fi + m, register numbers modulo 16, in R241's order: of two nibbles for one register the
lower remains. [DEDUCED, log 42] -/
def execFget (pick : PickNo) (i : Ptr) (a : Bool) (n : Reg) (s : State) : Res :=
  let p := pickSt s pick
  let f := p.ptr i
  .next (runInstr pick (readWaits s pick f.tag f.addr p.fl) (fun p =>
    { p := ((List.range p.fl).reverse.foldl (fun q m => q.setReg (n + m) (p.nib f.tag (f.addr + m))) p).advance a i
      steps := p.fl, err := rangeOutside p f.tag f.addr p.fl }) s)

/-- FPUT: nibble Fi + m takes N(s + m). -/
def execFput (pick : PickNo) (i : Ptr) (a : Bool) (n : Reg) (s : State) : Res :=
  let f := (pickSt s pick).ptr i
  .next (runInstr pick false (fun p =>
    { p := ((List.range p.fl).foldl (fun q m => q.setNib f.tag (f.addr + m) (p.reg (n + m))) p).advance a i
      steps := p.fl, err := rangeOutside p f.tag f.addr p.fl }) s)

/-- FSHL: one bit to the left, 0 in, C takes the bit out. -/
def execFshl (pick : PickNo) (i : Ptr) (a : Bool) (s : State) : Res :=
  .next (fieldNibInstr true true false opShl (fun _ _ _ => 0) true i a pick s)

/-- FSHR: one bit to the right, 0 in, C takes the bit out. Each nibble takes the low bit of the one above it. -/
def execFshr (pick : PickNo) (i : Ptr) (a : Bool) (s : State) : Res :=
  let p := pickSt s pick
  let f := p.ptr i
  .next (runInstr pick (readWaits s pick f.tag f.addr p.fl) (fun p =>
    let q := fieldOp true false false i (fun q m => if m = 0 then 0 else q.nib f.tag (f.addr + m - 1) % 2)
      (fun x b c => (x / 2 + 8 * b, c)) p
    { p := ({ q with c := bitAt (p.nib f.tag (f.addr + p.fl - 1)) 0 }).advance a i
      steps := p.fl, err := rangeOutside p f.tag f.addr p.fl }) s)

/-- FADDI: Fi takes Fi + x, x a signed 9-bit number, modulo 2^16. -/
def execFaddi (pick : PickNo) (i : Ptr) (x : Fin 512) (s : State) : Res :=
  .next (runInstr pick false (fun p =>
    { p := p.setAddr i ((((p.ptr i).addr : Int) + signedOf 9 x) % 65536).toNat }) s)

/-- FSET: Fi takes nibble 2 x of space p. -/
def execFset (pick : PickNo) (i : Ptr) (sp : Fin 4) (x : Fin 128) (s : State) : Res :=
  .next (runInstr pick false (fun p => { p := p.setPtr i (2 * x) sp }) s)

/-- FCPY: Fi and its tag take Fj. -/
def execFcpy (pick : PickNo) (i j : Ptr) (s : State) : Res :=
  .next (runInstr pick false (fun p => { p := p.setPtr i (p.ptr j).addr (p.ptr j).tag }) s)

/-- FLDP: Fi takes the 4 nibbles at Fj; its tag stays. -/
def execFldp (pick : PickNo) (i j : Ptr) (s : State) : Res :=
  let f := (pickSt s pick).ptr j
  .next (runInstr pick (readWaits s pick f.tag f.addr 4) (fun p =>
    { p := p.setAddr i (beVal (p.bytes f.tag f.addr 2)), steps := 4, err := rangeOutside p f.tag f.addr 4 }) s)

/-- FSTP: the 4 nibbles at Fj take Fi. -/
def execFstp (pick : PickNo) (i j : Ptr) (s : State) : Res :=
  let f := (pickSt s pick).ptr j
  .next (runInstr pick false (fun p =>
    let v := (p.ptr i).addr
    { p := (List.range 4).foldl (fun q m => q.setNib f.tag (f.addr + m) (v / 16 ^ (3 - m))) p
      steps := 4, err := rangeOutside p f.tag f.addr 4 }) s)

/-- FADDB: Fi takes Fi + 2 times the byte at Fj. -/
def execFaddb (pick : PickNo) (i j : Ptr) (s : State) : Res :=
  let f := (pickSt s pick).ptr j
  .next (runInstr pick (readWaits s pick f.tag f.addr 2) (fun p =>
    { p := p.setAddr i ((p.ptr i).addr + 2 * p.byte f.tag f.addr), steps := 2, err := rangeOutside p f.tag f.addr 2 }) s)

/-- FADDR: Fi takes Fi + Ns. -/
def execFaddr (pick : PickNo) (i : Ptr) (n : Reg) (s : State) : Res :=
  .next (runInstr pick false (fun p => { p := p.setAddr i ((p.ptr i).addr + p.reg n) }) s)

/-- FADDW: Fi takes Fi + 8 times Ns. -/
def execFaddw (pick : PickNo) (i : Ptr) (n : Reg) (s : State) : Res :=
  .next (runInstr pick false (fun p => { p := p.setAddr i ((p.ptr i).addr + 8 * p.reg n) }) s)

/-- FSPACE: the tag of Fi takes p. -/
def execFspace (pick : PickNo) (i : Ptr) (sp : Fin 4) (s : State) : Res :=
  .next (runInstr pick false (fun p => { p := p.setPtr i (p.ptr i).addr sp }) s)

/-- BRA: branch, always. -/
def execBra (pick : PickNo) (o : Fin 512) (s : State) : Res :=
  .next (branchInstr (fun _ => true) o pick s)

/-- BEQ: branch, Z. -/
def execBeq (pick : PickNo) (o : Fin 512) (s : State) : Res :=
  .next (branchInstr ((·.z)) o pick s)

/-- BNE: branch, not Z. -/
def execBne (pick : PickNo) (o : Fin 512) (s : State) : Res :=
  .next (branchInstr (fun p => !p.z) o pick s)

/-- BCS: branch, C. -/
def execBcs (pick : PickNo) (o : Fin 512) (s : State) : Res :=
  .next (branchInstr ((·.c)) o pick s)

/-- BCC: branch, not C. -/
def execBcc (pick : PickNo) (o : Fin 512) (s : State) : Res :=
  .next (branchInstr (fun p => !p.c) o pick s)

/-- BMI: branch, N. -/
def execBmi (pick : PickNo) (o : Fin 512) (s : State) : Res :=
  .next (branchInstr ((·.n)) o pick s)

/-- BPL: branch, not N. -/
def execBpl (pick : PickNo) (o : Fin 512) (s : State) : Res :=
  .next (branchInstr (fun p => !p.n) o pick s)

/-- BHI: branch, not C and not Z. -/
def execBhi (pick : PickNo) (o : Fin 512) (s : State) : Res :=
  .next (branchInstr (fun p => !p.c && !p.z) o pick s)

/-- CALL: pushes the return address; with 4 entries the oldest is discarded, a program error (R254). -/
def execCall (pick : PickNo) (o : Fin 4096) (s : State) : Res :=
  .next (runInstr pick false (fun p =>
    { p := jumpBy { p with stack := (p.pc % 16384 :: p.stack).take 4 } (signedOf 12 o)
      steps := 2, err := decide (4 ≤ p.stack.length) }) s)

/-- JMP. -/
def execJmp (pick : PickNo) (o : Fin 4096) (s : State) : Res :=
  .next (runInstr pick false (fun p => { p := jumpBy p (signedOf 12 o), steps := 2 }) s)

/-- DJNZ: Nd takes Nd - 1; branch when it is not 0. -/
def execDjnz (pick : PickNo) (d : Reg) (o : Fin 256) (s : State) : Res :=
  .next (runInstr pick false (fun p =>
    let v := (p.reg d + 15) % 16
    if v = 0 then { p := p.setReg d v } else { p := jumpBy (p.setReg d v) (signedOf 8 o), steps := 2 }) s)

/-- PROGRAM_FETCH_OVERRUN (R243, R254): a fetch at or beyond the record's instruction count ends the item as DROP. -/
def execProgramFetchOverrun (pick : PickNo) (s : State) : Res :=
  let p := pickSt s pick
  if p.phase = .running ∧ (bankOf s (pick.val / 32) p.bank).prog.insns.length ≤ p.pc then .next (endByError pick s)
  else .next s

end Sys2Proof.Machine
end

