-- ==== Sys2Proof/Machine/Ptp.lean ====
section
/-! DEFINITION. PTP: gallery ticks, `ptp-gm` and `ptp-ref` (R202 to R209, R226, R286, R447). Layouts that the manual leaves to IEEE 1588-2019 and ST 2059-2 are taken from those standards. -/

namespace Sys2Proof.Machine

/-! ### Messages -/

/-- Port number of a client port in portIdentity. [PRESUMED, log 48] -/
def ptpPort (p : Nat) : Nat := Config.wireField 6 p % 65536

/-- A sourcePortIdentity. -/
def portIdentity (clockId p : Nat) : List Nat := beBytes 8 clockId ++ beBytes 2 (ptpPort p)

/-- A PTP message: type, domain, flags, correctionField, source, sequenceId, controlField, logMessageInterval. [PRESUMED, log 48] -/
def ptpMsg (type dom flags corr : Nat) (src : List Nat) (seq control log : Nat) (body : List Nat) : List Nat :=
  [type, 0x12] ++ beBytes 2 (34 + body.length) ++ [dom, 0] ++ beBytes 2 flags ++ beBytes 8 corr ++ [0, 0, 0, 0]
    ++ src ++ beBytes 2 seq ++ [control, log] ++ body

/-- A security parameter pointer of a seam. -/
def sppOf (c : SeamRec) (spp : Nat) : Option SppCfg := c.spps.find? (·.spp == spp)

/-- The operation on the ICV of a message that ends with the keyID: it makes the ICV, or checks it against a tag (R208). None for an
unknown SPP or keyID. -/
def icvOp (s : State) (seam spp key : Nat) (m : List Nat) (tag : Option (List Nat)) : Option CryptoOp :=
  match sppOf (seamRec s seam) spp with
  | none => none
  | some c =>
    match c.keys.find? (·.1 == key) with
    | none => none
    | some (_, slot) => some {
        code := (if c.cmac then 0x05 else 0x0B) + tag.isSome.toNat, slot := some slot, outLim := 32
        segs := (0, overlay m 8 (List.replicate 8 0)) :: (tag.map fun t => (3, t)).toList }

/-- Ends a message with the AUTHENTICATION TLV of its domain (R208). -/
def authSeal (pick seam : Nat) (auth : Option (Nat × Nat)) (m : List Nat) (s : State) : Option (List Nat) × State :=
  match auth with
  | none => (some m, s)
  | some (spp, key) =>
    let x := overlay m 2 (beBytes 2 (m.length + 26)) ++ [0x80, 0x09, 0, 0x16, spp, 0] ++ beBytes 4 key
    match icvOp s seam spp key x none with
    | none => (none, s)
    | some o =>
      let a := callCrypto pick o s
      (a.1.map fun icv => x ++ fit 16 icv, a.2)

/-- Bytes that the AUTHENTICATION TLV adds. -/
def authLen (auth : Option (Nat × Nat)) : Nat := if auth.isSome then 26 else 0

/-- The check that the AUTHENTICATION TLV at a message's end asks for; none without a sound one (R208). -/
def authCheck (s : State) (seam : Nat) (m : List Nat) : Option CryptoOp :=
  let n := m.length
  let t := m.drop (n - 26)
  if 60 ≤ n ∧ beAt t 0 4 = 0x80090016 ∧ beAt t 5 1 = 0 then
    icvOp s seam (beAt t 4 1) (beAt t 6 4) (m.take (n - 16)) (some (m.drop (n - 16)))
  else none

/-- Verifies a message of an authenticated domain (R208): one that fails is dropped and counted, within fewer steps where its SPP or
keyID is unknown (R217); `f` is the rest of the work. -/
def verified (pick seam : Nat) (auth : Bool) (m : List Nat) (f : State → State) (s : State) : State :=
  if !auth then f s
  else match authCheck s seam m with
    | none => progDropIn pick (some 180) (some 4) s
    | some o => match callCrypto pick o s with
      | (some _, u) => f u
      | (none, u) => progDrop pick (some 4) u

/-- The bound TLV of a Sync's STAMP (R207). -/
def boundTlv (c : SeamRec) (d : PtpDomain) (st : Stamp) : List Nat :=
  if d.bound then [0x80, 0, 0, 0x1A] ++ beBytes 3 c.orgId ++ beBytes 3 c.orgSub ++ st.record ++ beBytes 4 st.origin else []

/-! ### Profiles (R202) -/

/-- A profile delivers Syncs and Announces by multicast. -/
def ptpMulti (d : PtpDomain) : Bool := d.profile != 1

/-- The transports of a profile: bit 0 UDP/IPv4, bit 1 UDP/IPv6, bit 2 Ethernet. -/
def ptpCarries (d : PtpDomain) (tr : Nat) : Bool :=
  bitAt (if d.profile = 0 then 7 else if d.profile = 1 then 3 else 1) tr

/-- A message interval in 2^-16 ns. -/
def ptpInterval (log : Int) : Nat := if 0 ≤ log then oneSec * 2 ^ log.toNat else oneSec / 2 ^ (-log).toNat

/-- Transport of a frame: 0 UDP/IPv4, 1 UDP/IPv6, 2 Ethernet. -/
def RxReq.transport (r : RxReq) : Nat := if r.q.ipver = 4 then 0 else if r.q.ipver = 6 then 1 else 2

/-- The multicast address of a transport, for an event (319) or general (320) message. -/
def mcastWire (c : SeamRec) (tr dport : Nat) : Wire :=
  let mac := beBytes 6 c.mac
  if tr = 0 then
    { ver := 4, l2 := [1, 0, 0x5E, 0, 1, 0x81] ++ mac ++ [8, 0], src := c.ip4, dst := 0xE0000181, sport := dport, dport := dport }
  else if tr = 1 then
    { ver := 6, l2 := [0x33, 0x33, 0, 0, 1, 0x81] ++ mac ++ [0x86, 0xDD], src := c.ip6
      dst := 0xFF0E0000000000000000000000000181, sport := dport, dport := dport }
  else { ver := 0, l2 := [1, 0x1B, 0x19, 0, 0, 0] ++ mac ++ [0x88, 0xF7] }

/-- The way to a unicast station: transport and address. -/
def unicastWire (c : SeamRec) (port tr addr dport : Nat) : Wire :=
  let mac := beBytes 6 c.mac
  if tr = 0 then
    { ver := 4, l2 := beBytes 6 (Config.nextHopMac port 4 addr) ++ mac ++ [8, 0], src := c.ip4, dst := addr, sport := dport, dport := dport }
  else if tr = 1 then
    { ver := 6, l2 := beBytes 6 (Config.nextHopMac port 6 addr) ++ mac ++ [0x86, 0xDD], src := c.ip6, dst := addr
      sport := dport, dport := dport }
  else { ver := 0, l2 := beBytes 6 addr ++ mac ++ [0x88, 0xF7] }

/-- The way to the client of a `ptp-gm` record (R286). -/
def recWire (c : SeamRec) (x : List Nat) (dport : Nat) : Wire :=
  if beAt x 16 2 = 0x88F7 then unicastWire c (beAt x 33 1) 2 (beAt x 0 6) dport
  else if beAt x 0 12 = 0xFFFF then unicastWire c (beAt x 33 1) 0 (beAt x 12 4) dport
  else unicastWire c (beAt x 33 1) 1 (beAt x 0 16) dport

/-! ### Sync, Follow_Up and Announce (R204, R206, R207) -/

/-- What a Sync or Announce is sent for. -/
structure PtpSend where
  pick : Nat
  seam : Nat
  port : Nat
  dom : PtpDomain
  event : Wire
  general : Wire
  /-- Requested instant; 0 earliest. -/
  req : Nat
  seq : Nat
  unicast : Bool
  auth : Option (Nat × Nat)

/-- flagField with unicastFlag. -/
def PtpSend.flags (x : PtpSend) (f : Nat) : Nat := (if x.unicast then 0x0400 else 0) + f

/-- logMessageInterval: 0x7F in unicast. -/
def PtpSend.log (x : PtpSend) (l : Int) : Nat := if x.unicast then 0x7F else twosComp 8 l

/-- The reservation of an index is left vacant, and the index is free again. [DESIGN CHOICE, log 50] -/
def abandon (pick idx : Nat) (s : State) : State := pickMod pick (fun p => { p with resv := sput none p.resv idx none }) s

/-- Ends a message with its AUTHENTICATION TLV and hands it over, counted as 1 response. -/
def sendPtp (x : PtpSend) (w : Wire) (idx : Nat) (m : List Nat) (ins : Option (Nat × Nat)) (s : State) : State :=
  match authSeal x.pick x.seam x.auth m s with
  | (none, u) => abandon x.pick idx u
  | (some b, u) => sendMore x.pick { w.emit u x.port true idx b with oneStep := ins } (countAt (x.pick / 32) 0 u)

/-- The STAMP of a message of `n` bytes at an instant. -/
def sendStamp (x : PtpSend) (idx n req : Nat) (s : State) : Option Stamp × State := callStamp x.pick x.port 0 idx n req 0 s

/-- A one-step Sync (R204). -/
def syncOne (x : PtpSend) (s : State) : State :=
  let c := seamRec s x.seam
  let a := sendStamp x 0 (x.event.len (44 + (if x.dom.bound then 30 else 0) + authLen x.auth)) x.req (progSteps x.pick (some 1200) s)
  match a.1 with
  | none => countAt (x.pick / 32) 1 a.2
  | some st =>
    let b := lodeBits st.launch
    let src := portIdentity c.clockId x.port
    let tlv := boundTlv c x.dom st
    if x.auth.isNone then
      let m := ptpMsg 0 x.dom.number (x.flags 0) 0 src x.seq 0 (x.log x.dom.syncLog) (List.replicate 10 0 ++ tlv)
      sendPtp x x.event 0 m (some (x.event.at' + 34, x.event.at' + 8)) a.2
    else
      let m := ptpMsg 0 x.dom.number (x.flags 0) (b % 65536) src x.seq 0 (x.log x.dom.syncLog) (beBytes 10 (b / 65536) ++ tlv)
      sendPtp x x.event 0 m none a.2

/-- A two-step Sync with its Follow_Up (R204): both STAMP calls come first. -/
def syncTwo (x : PtpSend) (s : State) : State :=
  let c := seamRec s x.seam
  let a := sendStamp x 0 (x.event.len (44 + authLen x.auth)) x.req (progSteps x.pick (some 2000) s)
  match a.1 with
  | none => countAt (x.pick / 32) 1 a.2
  | some st =>
    let f := sendStamp x 1 (x.general.len (44 + (if x.dom.bound then 30 else 0) + authLen x.auth)) (st.launch + fuOfNs 1000) a.2
    match f.1 with
    | none => countAt (x.pick / 32) 14 (abandon x.pick 0 f.2)
    | some fu =>
      if fu.epoch ≠ st.epoch then countAt (x.pick / 32) 14 (abandon x.pick 0 (abandon x.pick 1 f.2))
      else
        let b := lodeBits st.launch
        let src := portIdentity c.clockId x.port
        let l := x.log x.dom.syncLog
        let sy := ptpMsg 0 x.dom.number (x.flags 0x0200) 0 src x.seq 0 l (List.replicate 10 0)
        let fo := ptpMsg 8 x.dom.number (x.flags 0) (b % 65536) src x.seq 2 l (beBytes 10 (b / 65536) ++ boundTlv c x.dom st)
        sendPtp x x.general 1 fo none (sendPtp x x.event 0 sy none f.2)

/-- A Sync in the mode of its domain. -/
def syncSend (x : PtpSend) (s : State) : State := if x.dom.oneStep then syncOne x s else syncTwo x s

/-- clockAccuracy for a bound code (R206): a code is 62.5 ps. -/
def clockAccuracy (code : Nat) : Nat :=
  if code ≤ 16 then 0x1D else if code ≤ 40 then 0x1E else if code ≤ 160 then 0x1F else if code ≤ 400 then 0x20
  else if code ≤ 1600 then 0x21 else if code ≤ 4000 then 0x22 else if code ≤ 16000 then 0x23
  else if code ≤ 40000 then 0x24 else if code ≤ 160000 then 0x25 else 0xFE

/-- timeSource (R206) from the record's flags, its flywheel class and the origin's class. -/
def timeSource (hold broken : Bool) (fw cls : Nat) : Nat :=
  if broken then 0xA0
  else if hold then (if fw = 0 then 0xA0 else 0x10)
  else if cls < 2 then 0x20 else if cls = 2 then 0x90 else if cls = 3 then 0x40 else 0xA0

/-- An Announce without its AUTHENTICATION TLV (R206). [PRESUMED, log 48] -/
def announceMsg (s : State) (x : PtpSend) (st : Stamp) : List Nat :=
  let c := seamRec s x.seam
  let fl := beAt st.record 6 1
  let hold := bitAt fl 0
  let broken := bitAt fl 6
  let fw := beAt st.record 8 4 / 65536 % 64
  let flags := st.li % 4 + 0x0C + (if broken then 0 else 0x10) + (if hold && fw == 0 then 0 else 0x20)
  ptpMsg 0xB x.dom.number (x.flags flags) 0 (portIdentity c.clockId x.port) x.seq 5 (x.log x.dom.annLog)
    (List.replicate 10 0 ++ beBytes 2 (twosComp 16 (utcOffsetAt s st.launch)) ++ [0, c.prio1
        , if broken then 248 else if hold then 7 else 6, clockAccuracy st.code]
      ++ beBytes 2 (if hold then 0xFFFF else c.variance) ++ [c.prio2] ++ beBytes 8 c.clockId
      ++ beBytes 2 (beAt st.record 7 1) ++ [timeSource hold broken fw (st.origin / 2 ^ 28)])

/-- An Announce. -/
def announceSend (x : PtpSend) (s : State) : State :=
  let a := sendStamp x 0 (x.general.len (64 + authLen x.auth)) x.req (progSteps x.pick (some 900) s)
  match a.1 with
  | none => countAt (x.pick / 32) 1 a.2
  | some st => sendPtp x x.general 0 (announceMsg a.2 x st) none a.2

/-! ### Ticks (R226, R447) -/

/-- The whole numbers k with lo < k i ≤ hi. -/
def gridKs (lo hi i : Nat) : List Nat := if i = 0 then [] else (List.range (hi / i - lo / i)).map fun j => lo / i + 1 + j

/-- The ports whose pair with a gallery's seam it receives for home gallery `h` (R231). -/
def galPorts (s : State) (g h : Nat) : List Nat :=
  (s.cfg.str.pairs.filter fun q => q.seam == galSeam s g && q.home == h && boundGal s q.home q.port == some g).map (·.port)

/-- Multicast Syncs and Announces of one port, domain and transport. -/
def mcastGrid (pick port : Nat) (d : PtpDomain) (lo hi tr : Nat) (s : State) : State :=
  let seam := galSeam s (pick / 32)
  let c := seamRec s seam
  let x := fun (i k : Nat) => ({
    pick := pick, seam := seam, port := port, dom := d, event := mcastWire c tr 319, general := mcastWire c tr 320
    req := k * i, seq := k % 65536, unicast := false, auth := d.auth } : PtpSend)
  let si := ptpInterval d.syncLog
  let ai := ptpInterval d.annLog
  let u := (gridKs lo hi si).foldl (fun t k => syncSend (x si k) t) s
  (gridKs lo hi ai).foldl (fun t k => announceSend (x ai k) t) u

/-- The synchronization-metadata TLV of ST 2059-2 in its Management message (R209). -/
def smpteMsg (s : State) (c : SeamRec) (port dom seq : Nat) : List Nat :=
  let m := c.smpte
  ptpMsg 0xD dom 0 0 (portIdentity c.clockId port) (seq % 65536) 4 0x7F
    (List.replicate 10 0xFF ++ [0, 0, 3, 0]
      ++ [0, 3, 0, 0x30, 0x68, 0x97, 0xE8, 0, 0, 1] ++ beBytes 4 m.rateNum ++ beBytes 4 m.rateDen
      ++ [wireField 12 s % 256, wireField 13 s % 256] ++ beBytes 4 (twosComp 32 m.localOffset)
      ++ beBytes 4 (twosComp 32 m.jumpOffset) ++ beBytes 6 m.jumpTime ++ beBytes 6 m.jamTime
      ++ beBytes 6 m.lastJam ++ beBytes 4 (twosComp 32 m.lastJamOffset)
      ++ [wireField 16 s % 256, twosComp 8 s.leap.pending])

/-- Once per second a serving ST 2059-2 domain sends its metadata, best-effort. -/
def smpteSend (pick port : Nat) (d : PtpDomain) (t : Nat) (s : State) : State :=
  let seam := galSeam s (pick / 32)
  let c := seamRec s seam
  if (seamGate s seam).stopped then s
  else match authSeal pick seam d.auth (smpteMsg s c port d.number (t / oneSec)) s with
    | (some m, u) => sendMore pick ((mcastWire c 0 320).emit u port false 0 m) u
    | (none, u) => u

/-- A tick that is the first of a second. -/
def firstOfSecond (t per : Nat) : Bool := decide (t % oneSec < per)

/-- One port and domain on a tick. -/
def tickDomain (pick t per port : Nat) (d : PtpDomain) (s : State) : State :=
  if !ptpMulti d then s
  else
    let lo := t + fuOfNs 25000
    let u := ((List.range 3).filter fun tr => ptpCarries d tr && bitAt d.transports tr).foldl
      (fun v tr => mcastGrid pick port d lo (lo + per) tr v) s
    if d.profile = 2 ∧ firstOfSecond t per = true then smpteSend pick port d t u else u

/-- The domain of a record. -/
def domainOf (c : SeamRec) (n : Nat) : Option PtpDomain := c.domains.find? (·.number == n)

/-- A due tick number has come. -/
def tickDue (tick due : Nat) : Bool := decide ((tick + 2 ^ 32 - due) % 2 ^ 32 < 2 ^ 31)

/-- Key of a `ptp-gm` record by its own index. -/
def ownKey (c : SeamRec) (g : Nat) : List Nat := beBytes 3 (g - c.recBase)

/-- Unicast Sync (`sync`) or Announce of a record, when granted and due; the record with its next sequenceId and due
tick. -/
def unicastOne (pick tick per : Nat) (sync : Bool) (x : List Nat) (s : State) : List Nat × State :=
  let seam := galSeam s (pick / 32)
  let c := seamRec s seam
  let fl := beAt x 19 1
  let granted := bitAt fl (if sync then 1 else 0)
  let dueAt := if sync then 52 else 56
  let seqAt := if sync then 36 else 34
  match domainOf c (beAt x 18 1) with
  | none => (x, s)
  | some d =>
    if !granted || !tickDue tick (beAt x dueAt 4) then (x, s)
    else
      let log := signedOf 8 (beAt x (if sync then 31 else 30) 1)
      let y : PtpSend := {
        pick := pick, seam := seam, port := beAt x 33 1 % 64, dom := if sync then { d with syncLog := log } else { d with annLog := log }
        event := recWire c x 319, general := recWire c x 320, req := 0, seq := beAt x seqAt 2, unicast := true
        auth := if bitAt fl 3 then d.auth else none }
      let next := (tick + max 1 (ptpInterval log / max per 1)) % 2 ^ 32
      (overlay (overlay x seqAt (beBytes 2 (beAt x seqAt 2 + 1))) dueAt (beBytes 4 next), if sync then syncSend y s else announceSend y s)

/-- The unicast Syncs and Announces of one session record, which a kind-0x2 GET reads (R286). [DESIGN CHOICE, log 50] -/
def unicastRec (pick tick per g : Nat) (s : State) : State :=
  let seam := galSeam s (pick / 32)
  let key := ownKey (seamRec s seam) g
  let x := sessGetNow pick seam 2 key s
  if x.1 ≠ 0 ∨ (galPorts s (pick / 32) (pickHome s pick)).contains (beAt x.2.1 33 1) = false then x.2.2
  else
    let a := unicastOne pick tick per true x.2.1 x.2.2
    let b := unicastOne pick tick per false a.1 a.2
    if b.1 = x.2.1 then b.2 else sessPutNow pick seam 2 key b.1 b.2

/-- Session records of a seam that hold something. -/
def seamRecs (s : State) (seam : Nat) : List Nat :=
  let c := seamRec s seam
  (s.sess.dir.filter fun e => decide (c.recBase ≤ e.1 ∧ e.1 < c.recBase + c.recCount) && e.2.valid).map (·.1)

/-- ptp-gm on a tick of stream 0 with instant `t` (R447). It walks its records by kind-0x2 GETs (R286), which meet the memory errors
`ecc` (R284). -/
def gmTick (pick t tick per : Nat) (ecc : List (Nat × ReadErr)) (s : State) : State :=
  let g := pick / 32
  let ds := (seamRec s (galSeam s g)).domains
  let u := (galPorts s g (pickHome s pick)).foldl (fun v p => ds.foldl (fun w d => tickDomain pick t per p d w) v)
    (memErrors (galSeam s g) ecc s)
  (seamRecs u (galSeam s g)).foldl (fun v r => unicastRec pick tick per r v) u

/-! ### ptp-ref (R209) -/

/-- State of a PTP-reference exchange. -/
def refPtp (s : State) (n : Nat) : PtpRefSt := sget {} s.ptpRef n

/-- Changes it. -/
def refPtpMod (n : Nat) (f : PtpRefSt → PtpRefSt) (s : State) : State := { s with ptpRef := smod {} s.ptpRef n f }

/-- The client side that SEAMS states for a reference. -/
def refCfg (s : State) (n : Nat) : PtpRefCfg := sget {} s.cfg.seams.ptpRef n

/-- The way to the master of a reference. -/
def refWire (s : State) (seam port n dport : Nat) : Wire :=
  let c := refCfg s n
  if c.master = 0 then mcastWire (seamRec s seam) c.transport dport
  else unicastWire (seamRec s seam) port c.transport c.master dport

/-- flagField of a client message. -/
def refFlags (s : State) (n : Nat) : Nat := if (refCfg s n).master = 0 then 0 else 0x0400

/-- A Delay_Req of reference `n` at instant `req` (R209); its launch instant is t3. -/
def delayReqSend (pick port n req : Nat) (s : State) : State :=
  let seam := galSeam s (pick / 32)
  let c := refCfg s n
  let w := refWire s seam port n 319
  let a := callStamp pick port 0 0 (w.len (44 + authLen c.auth)) req 0 s
  match a.1 with
  | none => countAt (pick / 32) 1 a.2
  | some st =>
    let seq := ((refPtp s n).seq + 1) % 65536
    let m := ptpMsg 1 c.domain (refFlags s n) 0 (portIdentity c.clockId port) seq 1 0x7F (List.replicate 10 0)
    match authSeal pick seam c.auth m a.2 with
    | (none, u) => abandon pick 0 u
    | (some b, u) => refPtpMod n (fun x => { x with seq := seq, t3 := some st.launch }) (sendMore pick (w.emit u port true 0 b) u)

/-- A request of unicast Announce, Sync and Delay_Resp for 300 s (R205, R209). [DESIGN CHOICE, log 51] -/
def refNegotiate (pick port n : Nat) (s : State) : State :=
  let seam := galSeam s (pick / 32)
  let c := refCfg s n
  let tlv := fun (t : Nat) (l : Int) => [0, 4, 0, 6, t * 16, twosComp 8 l] ++ beBytes 4 300
  let m := ptpMsg 0xC c.domain 0x0400 0 (portIdentity c.clockId port) (wireField 17 s % 65536) 5 0x7F
    (List.replicate 10 0xFF ++ tlv 0xB 0 ++ tlv 0 c.reqLog ++ tlv 9 c.reqLog)
  match authSeal pick seam c.auth m s with
  | (some b, u) => sendMore pick ((refWire u seam port n 320).emit u port false 0 b) u
  | (none, u) => u

/-- ptp-ref on a tick: the Delay_Reqs of its window, and the grants of a unicast master once fewer than 10 s of them
are left. -/
def refTickOne (pick t per port n : Nat) (s : State) : State :=
  let lo := t + fuOfNs 25000
  let i := ptpInterval (refCfg s n).reqLog
  let u := if (refCfg s n).master ≠ 0 ∧ firstOfSecond t per = true
      ∧ (refPtp s n).grantEnd ≤ s.clk.ticks + 10 * ticksPerSec then refNegotiate pick port n s else s
  (gridKs lo (lo + per) i).foldl (fun v k => delayReqSend pick port n (k * i) v) u

/-- ptp-ref on a tick. -/
def refTick (pick t per : Nat) (s : State) : State :=
  (galPorts s (pick / 32) (pickHome s pick)).foldl (fun v p => match portPtp v p with
    | some n => refTickOne pick t per p n v
    | none => v) s

/-- The tick item that a pick holds, served by the standard programs of its bank for the pairs of the stream's home gallery
(R231). [DESIGN CHOICE, log 52] -/
def tickServe (pick : Nat) (i : Item) (ecc : List (Nat × ReadErr)) (s : State) : State :=
  let b := pickBank s pick
  let per := fuOfNs (tickPeriod (activeBank s (pickHome s pick)) 0 * 1000)
  let t := ofLodeBits (beAt i.hdr 0 12)
  if i.stream % 4 ≠ 0 then progDrop pick none s
  else
    let u := if bankRuns b 1 then gmTick pick t (beAt i.hdr 24 4) per ecc s else s
    progDrop pick none (if bankRuns b 2 then refTick pick t per u else u)

/-- The tick item of a running pick whose program is `ptp-gm` or `ptp-ref`. [DESIGN CHOICE, log 50] -/
def tickItem (s : State) (pick : Nat) : Option Item :=
  match (pickSt s pick).item with
  | some i =>
    if (pickSt s pick).phase = .running ∧ i.cls = 0xC ∧ (pickModule s pick = 1 ∨ pickModule s pick = 2) then some i else none
  | none => none

/-- Queues tick stream `k` of home gallery `h` at gallery `g`, or merges it into the queued tick (R226, R231). -/
def queueTick (h g k t : Nat) (s : State) : State :=
  let per := fuOfNs (tickPeriod (activeBank s h) k * 1000)
  let key := if g = h then k else 4 * (h + 1) + k
  let item := fun (m : Nat) => ({
    cls := 0xC, stream := key
    hdr := beBytes 12 (lodeBits t) ++ [0, 0, 0, galSeam s g, 0xC, m, 0, 0, 0, 0, 0, 0] ++ beBytes 4 (t / per) ++ [0, 0, 0, 0] } : Item)
  if (galSt s g).qTick.any (·.1 == key) then
    rfBump (galBase g + 0x24) 31 16 1 (galMod g (fun q => { q with
      qTick := q.qTick.map fun e => if e.1 = key then (key, item 1) else e }) s)
  else galMod g (fun q => { q with qTick := q.qTick ++ [(key, item 0)] }) s

/-- An idle pick takes a tick with a standard PTP program and serves it at once, or holds it while a call of the program has to
wait. [DESIGN CHOICE, log 52] -/
def pullTick (g : Nat) (ecc : List (Nat × ReadErr)) (u : State) : State :=
  match (picksOf g).find? fun p => decide ((pickSt u p).phase = .idle) && !(pickSt u p).releasing with
  | none => u
  | some p =>
    let e := (moduleAt (activeBank u g) (dispatchEntry (activeBank u g) 0xC)).map (·.id)
    if e = some 1 ∨ e = some 2 then
      let v := assignLoop p g (queued u g).length u
      match tickItem v p with
      | some i => served (tickServe p i ecc) v
      | none => v
    else u

/-- The galleries that take the ticks of home gallery `g`: itself while it runs, and the one that its pairs are bound to until all
of them have returned (R231, R232). -/
def tickGals (s : State) (g : Nat) : List Nat :=
  (if galRuns s g then [g] else []) ++ (match (galSt s g).boundTo with
    | some a => if !(galSt s g).moving && galRuns s a && !(galRuns s g && pairsHome s g) then [a] else []
    | none => [])

/-- GALLERY_TICK (R226): the next whole multiple of the stream's period in Lode time; with the gallery come the memory errors
that its program's session calls meet (R284). The streams of a fenced gallery move with
its pairs (R231). -/
def execGalleryTick (g : GalNo × List (Nat × ReadErr)) (k : Fin 4) (s : State) : Res :=
  let per := fuOfNs (tickPeriod (activeBank s g.1) k * 1000)
  let to' := tickGals s g.1
  if per = 0 ∨ s.lode.coarse = true ∨ to' = [] then .next s
  else
    let t := (nowFu s / per + 1) * per
    .next (to'.foldl (fun u a => pullTick a g.2 (queueTick g.1 a k t u)) (elapseTo (tickOfLode t s) s))

/-! ### Received messages (R203, R205) -/

/-- The PTP message of a frame: its UDP payload, or what follows the ethertype. -/
def RxReq.ptp (r : RxReq) : List Nat := if r.q.ipver = 0 then r.f.drop r.q.l3 else r.data

/-- Shortest length of each message type; 0 for a reserved type. -/
def ptpMinLen (t : Nat) : Nat :=
  if t = 0 ∨ t = 1 ∨ t = 8 then 44 else if t = 2 ∨ t = 3 ∨ t = 9 ∨ t = 0xA then 54
  else if t = 0xB then 64 else if t = 0xC then 44 else if t = 0xD then 48 else 0

/-- Whether TLVs fill a list exactly. -/
def tlvsFit : Nat → List Nat → Bool
  | 0, l => l.isEmpty
  | n + 1, l => l.isEmpty || (decide (4 + beAt l 2 2 ≤ l.length) && decide (4 ≤ l.length) && tlvsFit n (l.drop (4 + beAt l 2 2)))

/-- Length and TLVs of a message are consistent with its type. -/
def ptpFormOk (m : List Nat) : Bool :=
  let t := beAt m 0 1 % 16
  let n := beAt m 2 2
  decide (ptpMinLen t ≠ 0) && decide (ptpMinLen t ≤ n) && decide (n ≤ m.length)
    && tlvsFit m.length (slice (ptpMinLen t) (n - ptpMinLen t) m)

/-- The TLVs of a list as (type, body). -/
def tlvsOf : Nat → List Nat → List (Nat × List Nat)
  | 0, _ => []
  | n + 1, l => if l.length < 4 then [] else (beAt l 0 2, slice 4 (beAt l 2 2) l) :: tlvsOf n (l.drop (4 + beAt l 2 2))

/-- The session key of a PTP client (R286): kind and key. Event port 319 stands for general port 320. [DESIGN CHOICE, log 50] -/
def ptpKey (r : RxReq) : Nat × List Nat :=
  let sp := (r.q.udp.getD (0, 0)).1
  let p := beBytes 2 (if sp = 319 then 320 else sp)
  if r.q.ipver = 4 then (0, beBytes 4 r.q.src ++ p)
  else if r.q.ipver = 6 then (1, beBytes 16 r.q.src ++ p)
  else (1, slice 6 6 r.f ++ List.replicate 10 0 ++ beBytes 2 0x88F7)

/-- The client address and port of a record (R286). -/
def ptpAddr (r : RxReq) : List Nat :=
  let k := ptpKey r
  if k.1 = 0 then List.replicate 10 0 ++ [0xFF, 0xFF] ++ k.2 else k.2

/-- The wire of a reply of `ptp-gm`, to general port 320; a multicast request is answered by multicast. -/
def ptpReply (s : State) (r : RxReq) : Wire :=
  if r.multicast then mcastWire (seamRec s r.seam) r.transport 320
  else { replyWire s r with sport := 320, dport := 320 }

/-- The bit of a message type in a record's flags: 0 Announce, 1 Sync, 2 Delay_Resp. -/
def grantBit (t : Nat) : Option Nat := if t = 0xB then some 0 else if t = 0 then some 1 else if t = 9 then some 2 else none

/-- Seconds of Lode time, lower 32 bits. -/
def tai32 (s : State) : Nat := nowFu s / oneSec % 2 ^ 32

/-- A grant of a record is in force. -/
def grantLive (s : State) (x : List Nat) (b : Nat) : Bool :=
  let left := (beAt x (40 + 4 * b) 4 + 2 ^ 32 - tai32 s) % 2 ^ 32
  bitAt (beAt x 19 1) b && decide (0 < left ∧ left < 2 ^ 31)

/-- A new record of a client (R286). -/
def newRecord (r : RxReq) (dom : Nat) (auth : Bool) (tick : Nat) : List Nat :=
  ptpAddr r ++ [dom, auth.toNat * 8] ++ slice 20 10 r.ptp ++ [0, 0, 0, r.port] ++ List.replicate 18 0
    ++ beBytes 4 tick ++ beBytes 4 tick ++ List.replicate 4 0

/-- The range of an interval (R202, R205). -/
def logRange (d : PtpDomain) (b : Nat) : Int × Int :=
  if b = 0 then (d.annLo, d.annHi) else if b = 1 then (d.syncLo, d.syncHi) else (d.drLo, d.drHi)

/-- A REQUEST_UNICAST_TRANSMISSION (R205): the durationField granted, 0 where it is denied. -/
def requestGrant (r : RxReq) (d : PtpDomain) (b log dur : Nat) (s : State) : Nat × State :=
  let lg := signedOf 8 log
  let rng := logRange d b
  let k := ptpKey r
  let per := fuOfNs (tickPeriod (pickBank s r.pick) 0 * 1000)
  if d.profile = 2 ∨ lg < rng.1 ∨ rng.2 < lg ∨ dur < 10 then (0, s)
  else
    let n := min dur (seamRec s r.seam).dMaxS
    let a := sessGetNow r.pick r.seam k.1 k.2 s
    let tick := nowFu s / max per 1 % 2 ^ 32
    let x := if a.1 = 0 ∧ beAt a.2.1 18 1 = d.number then a.2.1 else newRecord r d.number d.auth.isSome tick
    let live := grantLive s x b
    let y := overlay (overlay x 19 [beAt x 19 1 ||| 2 ^ b]) (30 + b) [log]
    let z := overlay y (40 + 4 * b) (beBytes 4 (tai32 s + n))
    -- a new grant is due at once; a renewal goes on without a gap
    let w := if live ∨ b = 2 then z else overlay z (if b = 1 then 52 else 56) (beBytes 4 tick)
    let u := sessPutNow r.pick r.seam k.1 k.2 w a.2.2
    let c := sessGetNow r.pick r.seam k.1 k.2 u
    (if c.1 = 0 then n else 0, c.2.2)

/-- Frees a grant; a record with no grants left is released (R205, R286). -/
def freeGrant (pick seam kind : Nat) (key x : List Nat) (bits : Nat) (s : State) : State :=
  let fl := beAt x 19 1 &&& (0xFF - bits % 256)
  let y := if fl % 8 = 0 then List.replicate 64 0 else overlay x 19 [fl]
  sessPutNow pick seam kind key y s

/-- One TLV of a Signaling message: the TLV that answers it, the index that it counts at, and the state. -/
def signalTlv (r : RxReq) (d : PtpDomain) (t : Nat × List Nat) (s : State) : List Nat × Option Nat × State :=
  let ty := beAt t.2 0 1 / 16
  match grantBit ty with
  | none => ([], none, s)
  | some b =>
    if t.1 = 4 ∧ t.2.length = 6 then
      let a := requestGrant r d b (beAt t.2 1 1) (beAt t.2 2 4) s
      ([0, 5, 0, 8, ty * 16, beAt t.2 1 1] ++ beBytes 4 a.1 ++ [0, if a.1 = 0 then 0 else 1],
        some (if a.1 = 0 then 12 else 13), a.2)
    else if t.1 = 6 ∧ t.2.length = 2 then
      let k := ptpKey r
      let g := sessGetNow r.pick r.seam k.1 k.2 s
      ([0, 7, 0, 2, ty * 16, 0], none,
        if g.1 = 0 then freeGrant r.pick r.seam k.1 k.2 g.2.1 (2 ^ b) g.2.2 else g.2.2)
    else ([], none, s)

/-- The TLVs of a Signaling message in order. -/
def signalTlvs (r : RxReq) (d : PtpDomain) : List (Nat × List Nat) → State → List Nat × List Nat × State
  | [], s => ([], [], s)
  | t :: l, s =>
    let a := signalTlv r d t s
    let b := signalTlvs r d l a.2.2
    (a.1 ++ b.1, a.2.1.toList ++ b.2.1, b.2.2)

/-- A Signaling message (R205). It is counted once: under GRANTS where a TLV of it is granted. [DESIGN CHOICE, log 50] -/
def signaling (r : RxReq) (d : PtpDomain) (m : List Nat) (s : State) : State :=
  let n := beAt m 2 2
  let a := signalTlvs r d (tlvsOf m.length (slice 44 (n - 44) m)) s
  let u := if a.2.1.contains 13 then countAt (r.pick / 32) 13 a.2.2
    else if a.2.1.contains 12 then countAt (r.pick / 32) 12 a.2.2 else a.2.2
  if a.1.isEmpty then progDrop r.pick none u
  else
    let c := seamRec u r.seam
    let x := ptpMsg 0xC d.number (if r.multicast then 0 else 0x0400) 0 (portIdentity c.clockId r.port) (beAt m 30 2) 5 0x7F
      (slice 20 10 m ++ a.1)
    match authSeal r.pick r.seam d.auth x u with
    | (some b, v) => emitCall r.pick none ((ptpReply v r).emit v r.port false 0 b) v
    | (none, v) => progDrop r.pick none v

/-- The Delay_Reqs that a client was answered in the second up to T_rx, as (client, T_rx) (R202). -/
def delayRecent (s : State) (r : RxReq) : List (List Nat × Nat) :=
  (seamSt s r.seam).delays.filter fun e => decide (r.tRx < e.2 + oneSec)

/-- Profiles but ST 2059-2 give a client at most 128 Delay_Resps per second (R202). A request beyond them is one that the
profile provides no Delay_Resp for (R203). [DEDUCED, log 66] -/
def delayOver (s : State) (r : RxReq) (d : PtpDomain) : Bool :=
  d.profile != 2 && decide (128 ≤ ((delayRecent s r).filter fun e => e.1 == (ptpKey r).2).length)

/-- Notes an answer for that count. -/
def delayNote (r : RxReq) (s : State) : State :=
  seamMod r.seam (fun x => { x with delays := ((ptpKey r).2, r.tRx) :: delayRecent s r }) s

/-- A Delay_Resp (R203). -/
def delayResp (r : RxReq) (d : PtpDomain) (m : List Nat) (s : State) : State :=
  let w := ptpReply s r
  match respStamp r 0 (w.len (54 + authLen d.auth)) s with
  | (.inr i, u) => progDrop r.pick (some i) u
  | (.inl _, u) =>
    let b := lodeBits r.tRx
    let x := ptpMsg 9 d.number (if r.multicast then 0 else 0x0400) ((beAt m 8 8 + 2 ^ 64 - b % 65536) % 2 ^ 64)
      (portIdentity (seamRec u r.seam).clockId r.port) (beAt m 30 2) 3 (if r.multicast then twosComp 8 d.syncLog else 0x7F)
      (beBytes 10 (b / 65536) ++ slice 20 10 m)
    match authSeal r.pick r.seam d.auth x u with
    | (some y, v) => emitCall r.pick (some (if d.auth.isSome then 2600 else 1500)) (w.emit v r.port true 0 y)
        (delayNote r (countAt (r.pick / 32) 0 v))
    | (none, v) => progDrop r.pick none v

/-- A Delay_Req needs a Delay_Resp grant of its client (R203). -/
def needsGrant (d : PtpDomain) (multicast : Bool) : Bool := d.profile == 1 || (d.profile == 0 && !multicast)

/-- A Delay_Req that has passed the header checks. -/
def delayReq (r : RxReq) (d : PtpDomain) (m : List Nat) (s : State) : State :=
  if delayOver s r d then progDrop r.pick (some 10) s
  else if needsGrant d r.multicast then
    let k := ptpKey r
    let g := sessGetNow r.pick r.seam k.1 k.2 s
    if g.1 = 0 ∧ beAt g.2.1 18 1 = d.number ∧ grantLive s g.2.1 2 = true then delayResp r d m g.2.2
    else progDrop r.pick (some 10) g.2.2
  else delayResp r d m s

/-- ptp-gm on a message (R203, R219); `ecc` are the memory errors that its session calls meet (R284). [DESIGN CHOICE, log 50] -/
def gmServe (r : RxReq) (ecc : List (Nat × ReadErr)) (s : State) : State :=
  let m0 := r.ptp
  let t := beAt m0 0 1 % 16
  match domainOf (seamRec s r.seam) (beAt m0 4 1) with
  | none => progDropIn r.pick (some 120) (some 10) s
  | some d =>
    if beAt m0 1 1 % 16 ≠ 2 ∨ beAt m0 0 1 / 16 ≠ 0 ∨ ptpCarries d r.transport = false then
      progDropIn r.pick (some 120) (some 10) s
    else if !ptpFormOk m0 then progDrop r.pick (some 16) s
    else if t = 0 ∨ t = 8 ∨ t = 9 ∨ t = 0xB then progDrop r.pick (some 11) s
    else if (t ≠ 1 ∧ t ≠ 0xC) ∨ (t = 1 ∧ d.profile = 1 ∧ r.multicast = true) then progDrop r.pick (some 10) s
    else if r.invalid then progDrop r.pick (some 3) s
    else
      let m := m0.take (beAt m0 2 2)
      verified r.pick r.seam d.auth.isSome m (fun u =>
        let v := memErrors r.seam ecc u
        if t = 1 then delayReq r d m v else signaling r d m v) s

/-- A completed exchange (R96, R179): e = ((t1 - t2) + (t4 - t3)) / 2 + A_p, offered to the Assay with the later of its two
stamp points (R17); no measurement while the master is lost. [DESIGN CHOICE, log 51] -/
def exchange (n port t1 t2 t3 t4 : Nat) (s : State) : State :=
  if (refSt s n).masterLost then s
  else
    let e := roundDiv (((t1 : Int) - t2) + ((t4 : Int) - t3)) 2 + (portCfg s port).aP
    refMod n (fun r => { r with offered := some (e, tickBefore s (max t2 t3)) }) s

/-- An Announce of a reference's master (R96). [DESIGN CHOICE, log 51] -/
def masterAnnounce (n : Nat) (m : List Nat) (s : State) : State :=
  let id := beAt m 20 10
  let r := refSt s n
  let u := refPtpMod n (fun x => { x with master := some id, clockClass := beAt m 48 1, annTick := some s.clk.ticks }) s
  let set := fun (lost : Bool) => refMod n (fun x => { x with ptpClass := beAt m 48 1, master := some id, masterLost := lost })
  if isUsable s n then
    if r.qualMaster = some id then set false u
    else if r.masterLost then refMod n (fun x => { x with ptpClass := beAt m 48 1, master := some id }) u
    else masterLost n (set false u)
  else if r.q = .soak ∧ r.master ≠ some id then qualGo n .rejected (set false u)
  else set false u

/-- An instant that a message carries: a timestamp and its correction, in 2^-16 ns. -/
def ptpTime (ts : Nat) (corr : Int) : Nat := ((ofLodeBits (ts * 65536) : Int) + corr).toNat

/-- A Sync whose t1 is known, and the Delay_Req in progress. -/
def syncDone (n t1 t2 : Nat) (s : State) : State := refPtpMod n (fun x => { x with t1 := some t1, t2 := some t2 }) s

/-- ptp-ref on a message that has passed its checks (R209). What it hands to the pre-filter crosses the control gate (R14). -/
def refMessage (r : RxReq) (n t : Nat) (m : List Nat) (s : State) : State :=
  let c := refCfg s n
  let corr := signedOf 64 (beAt m 8 8)
  let own := portIdentity c.clockId r.port
  let x := refPtp s n
  if t = 0xB then (if gateWaits s (r.pick / 32) then stall r.pick s else progDrop r.pick none (masterAnnounce n m s))
  else if t = 0 then
    let u := refPtpMod n (fun y => { y with syncSeq := beAt m 30 2, t1 := none, t2 := some r.tRx }) s
    progDrop r.pick none (if bitAt (beAt m 6 2) 9 then refPtpMod n (fun y => { y with
        -- the Sync's own correction is kept until the Follow_Up
        syncCorr := corr }) u
      else syncDone n (ptpTime (beAt m 34 10) corr) r.tRx u)
  else if t = 8 then
    match x.t2 with
    | some t2 => progDrop r.pick none (if beAt m 30 2 = x.syncSeq ∧ x.t1 = none then
        syncDone n (ptpTime (beAt m 34 10) (corr + x.syncCorr)) t2 s else s)
    | none => progDrop r.pick none s
  else if t = 9 then
    match x.t1, x.t2, x.t3 with
    | some t1, some t2, some t3 =>
      if gateWaits s (r.pick / 32) then stall r.pick s
      else progDrop r.pick none (if beAt m 30 2 = x.seq ∧ slice 44 10 m = own then
        exchange n r.port t1 t2 t3 (ptpTime (beAt m 34 10) (-corr)) (refPtpMod n (fun y => { y with t3 := none }) s) else s)
    | _, _, _ => progDrop r.pick none s
  else if t = 0xC then
    let g := (tlvsOf m.length (slice 44 (m.length - 44) m)).find? fun e => e.1 == 5 && decide (beAt e.2 0 1 / 16 = 9)
    progDrop r.pick none (match g with
      | some e => refPtpMod n (fun y => { y with grantEnd := s.clk.ticks + beAt e.2 2 4 * ticksPerSec }) s
      | none => s)
  else progDrop r.pick none s

/-- ptp-ref on a message (R209). -/
def refServe (r : RxReq) (n : Nat) (s : State) : State :=
  let m0 := r.ptp
  let t := beAt m0 0 1 % 16
  let c := refCfg s n
  let m := m0.take (beAt m0 2 2)
  if beAt m0 1 1 % 16 ≠ 2 ∨ beAt m0 4 1 ≠ c.domain ∨ beAt m0 0 1 / 16 ≠ 0 then progDropIn r.pick (some 120) none s
  else if !ptpFormOk m0 then progDrop r.pick (some 16) s
  else if r.invalid then progDrop r.pick (some 3) s
  else verified r.pick r.seam c.auth.isSome m (refMessage r n t m) s

/-- PTP_MESSAGE: `ptp-ref` serves a message on a PTP-reference port, `ptp-gm` any other; a TICK item that waited for a
pick is served here too. With the pick come the memory errors that its session calls meet (R284). -/
def execPtpMessage (pick : PickNo × List (Nat × ReadErr)) (s : State) : Res :=
  match tickItem s pick.1, rxReq s pick.1 with
  | some i, _ => .next (served (tickServe pick.1 i pick.2) s)
  | none, none => .next s
  | none, some r =>
    let b := pickBank s pick.1
    if (r.cls ≠ 7 ∧ r.cls ≠ 8) ∨ (pickModule s pick.1 ≠ 1 ∧ pickModule s pick.1 ≠ 2) then .next s
    else match (if bankRuns b 2 then portPtp s r.port else none) with
      | some n => .next (served (refServe r n) s)
      | none => if bankRuns b 1 then .next (served (gmServe r pick.2) s) else .next s

/-- GRANT_EXPIRY (R205): the first grant of record `i` of a seam to expire does so, with every other that has expired by
then; the record is released with its last grant. -/
def execGrantExpiry (seam : SeamNo) (i : Nat) (s : State) : Res :=
  let c := seamRec s seam
  let g := c.recBase + i
  let x := recordOf s g
  let held := (List.range 3).filter fun b => bitAt (beAt x 19 1) b
  match (s.cfg.str.pairs.find? fun q => q.seam == seam.val && q.port == beAt x 33 1).bind fun q => boundGal s q.home q.port with
  | none => .next s
  | some gal =>
    if c.recCount ≤ i ∨ held = [] ∨ bankRuns (activeBank s gal) 1 = false then .next s
    else
      let left := fun (b : Nat) => (beAt x (40 + 4 * b) 4 + 2 ^ 32 - tai32 s) % 2 ^ 32
      let wait := held.foldl (fun w b => if left b < 2 ^ 31 then min w (left b) else 0) (2 ^ 31)
      let u := elapseTo (tickOfLode ((nowFu s / oneSec + wait) * oneSec) s) s
      let bits := sumNat ((held.filter fun b => !grantLive u x b).map fun b => 2 ^ b)
      .next (served (freeGrant (32 * gal) seam 2 (beBytes 3 i) x bits) u)

end Sys2Proof.Machine
end

