-- ==== Sys2Proof/Machine/Survey.lean ====
section
/-! DEFINITION. The Survey image: its checks and their order, its sections put in force, amendments, boot and loads (R344 to R362). -/

namespace Sys2Proof.Machine

/-- The Foreman ROM version (R358), as GLB_REV shows it. -/
def romVersion : Nat := 0x0103

/-! ### Records and their multiplicity (R345, R346) -/

/-- The number of records of a type. -/
def recCount (i : Image) (t : Nat) : Nat := (i.records.filter fun r => r.payload.typeByte == t).length

/-- The gallery masks of PROGRAMS records are disjoint. -/
def masksDisjoint : List (Nat × ProgramsSec) → Bool
  | [] => true
  | (_, p) :: l => (l.all fun q => (p.mask &&& q.2.mask) == 0) && masksDisjoint l

/-- The records replace the sections of their types; a SEAMS record that states no tokens leaves those stated before (R274). -/
def putRecords (i : Image) (c : Sections) : Sections :=
  i.records.foldl (fun c r => match r.payload with
    | .structureP p => { c with str := p }
    | .referencesP p => { c with refs := p }
    | .outputsP p => { c with outs := p }
    | .haulageP p => { c with haul := { p with present := true } }
    | .twinP p => { c with twin := { p with present := true } }
    | .seamsP p => { c with seams := { p with present := true, tokens := p.tokens <|> c.seams.tokens } }
    | .limitsP p => { c with lim := p }
    | _ => c) c

/-- The masks cover every gallery owned by a configured seam. -/
def masksCover (i : Image) : Bool :=
  let c := putRecords i {}
  let m := (programRecs i).foldl (fun a p => a ||| p.2.mask) 0
  (List.range 16).all fun g =>
    let q := sget {} c.str.gals g
    !(q.used && (sget {} c.seams.seams q.seam).configured) || bitAt m g

/-- R346. -/
def multiplicityOk (i : Image) : Bool :=
  let n := recCount i
  (i.records.all fun r => decide (1 ≤ r.payload.typeByte ∧ r.payload.typeByte ≤ 9)) && masksDisjoint (programRecs i)
    && (if i.kind = 1 then
        ([1, 5, 7, 3, 8, 4].all fun t => n t == 1) && decide (n 6 ≤ 1) && decide (n 9 ≤ 1) && decide (1 ≤ n 2)
          && masksCover i
      else
        ([1, 5, 6, 9].all fun t => n t == 0) && ([7, 3, 8, 4].all fun t => decide (n t ≤ 1)) && !i.records.isEmpty)

/-! ### Signers (R347 to R349) -/

/-- The signer roles that the header's signers byte names, in ascending bit order. -/
def headerRoles (i : Image) : List Nat :=
  (if bitAt i.signersByte 0 then [1] else []) ++ (if bitAt i.signersByte 1 then [2] else [])

/-- The roles that an image requires (R349). -/
def requiredRoles (i : Image) : List Nat :=
  if i.kind = 1 then [1, 2]
  else
    (if 0 < recCount i 4 + recCount i 7 + recCount i 2 then [1] else [])
      ++ (if 0 < recCount i 3 + recCount i 8 then [2] else [])

/-- The signature block holds the header's signers, and they include the required ones. -/
def signersOk (i : Image) : Bool :=
  decide (i.signersByte < 4) && i.signers.map (·.role) == headerRoles i && (requiredRoles i).all fun r => (headerRoles i).contains r

/-- The verifier slot of a role and key type (R348). -/
def verifierSlot (role mlDsa : Nat) : Nat := 4092 + 2 * (role - 1) + mlDsa

/-- A key digest is the one that its verifier slot holds (R348). -/
def slotKeyOk (s : State) (role mlDsa digest : Nat) : Bool :=
  let i := verifierSlot role mlDsa
  let m := magSlot s i
  m.loaded && m.device && m.usage == 2 && m.bind == 2 && m.label == i - 4091 && m.value == digest

/-- A signer's two keys are accepted (R348, R420). -/
def signerKeyOk (s : State) (g : Signer) : Bool :=
  s.otp.lifecycle != 3
    && ((slotKeyOk s g.role 0 g.keyP384 && slotKeyOk s g.role 1 g.keyMlDsa)
      || (s.otp.lifecycle == 0 && g.keyP384 == Config.testKey g.role 0 && g.keyMlDsa == Config.testKey g.role 1))

/-! ### The checks (R352) -/

/-- The command asks for a full image or for an amendment. -/
def purposeKind : CheckPurpose → Nat
  | .amend _ => 2
  | _ => 1

/-- Steps 1 to 8: the refusal cause, or none. A security version outside 0 to 63 (R344) fails with the header's other
values. [DESIGN CHOICE, log 14] -/
def earlyCause (s : State) (c : CheckSt) : Option Nat :=
  let i := c.image
  let maxLen := if i.kind = 2 then 2097152 else 8388608
  if maxLen < c.len then some 0x0E
  else if c.readError then some 0x0F
  else if !i.magicOk || i.formatVersion != 1 || i.headerLength != 64 || !i.headerCrcOk || !(i.kind == 1 || i.kind == 2)
      || decide (63 < i.securityVersion) then
    some 0x01
  else if i.deviceSerial ≠ 0 ∧ i.deviceSerial ≠ s.otp.serial then some 0x08
  else if i.securityVersion < s.otp.svnFloor then some 0x07
  else if !i.records.all (·.crcOk) then some 0x02
  else if i.kind ≠ purposeKind c.purpose ∨ multiplicityOk i = false then some 0x03
  else if !signersOk i then some 0x04
  else if !i.signers.all (signerKeyOk s) then some 0x05
  else none

/-- The verdicts of a signer's two verifications. -/
def verdictsOf (c : CheckSt) (k : Nat) : List Bool := (c.verdicts.filter fun v => v.1 == k).map (·.2.2)

/-- The signer whose verifications come next: the first without both verdicts. -/
def nextSigner (c : CheckSt) : Option Nat :=
  (List.range c.image.signers.length).find? fun k => (verdictsOf c k).length < 2

/-- A verification has failed. -/
def sigFailed (c : CheckSt) : Bool := c.verdicts.any fun v => !v.2.2

/-- PATCH signature and ROM version (R358). -/
def patchOk (i : Image) : Bool :=
  i.records.all fun r => match r.payload with
    | .patchP p => p.signatureOk && p.romVersion == romVersion
    | _ => true

/-- Sequence numbers of an amendment (R354). -/
def sequencesOk (s : State) (i : Image) : Bool :=
  i.records.all fun r => match r.payload with
    | .programsP p => (maskGals p.mask).all fun g => decide (sget 0 s.surv.progSeq g < r.seq)
    | q => decide (sget 0 s.surv.seqs q.typeByte < r.seq)

/-- A seam's record without the quota subset (R312). -/
def outsideQuota (r : SeamRec) : SeamRec := { r with quotas := [], policers := [], beta := 0, nakRate := 0 }

/-- A SEAMS section without the quota subset (R312, R355). -/
def seamsOutsideQuota (q : SeamsSec) : SeamsSec :=
  { q with present := true, tokens := none, seams := smap {} outsideQuota q.seams }

/-- R355: a SEAMS amendment differs only in the quota subset. -/
def amendableOk (s : State) (i : Image) : Bool :=
  i.records.all fun r => match r.payload with
    | .seamsP p => seamsOutsideQuota p == seamsOutsideQuota s.cfg.seams
    | _ => true

/-- M of an image (R347). -/
def digestOf (i : Image) : Nat := i.digest

/-- Bytes of an entry of the amendment log: header and amendment, padded to 4 KiB (R361). -/
def logEntryBytes (e : LogEntry) : Nat := ceilDiv (8 + e.image.totalLength) 4096 * 4096

/-- Size of an amendment log (R357). -/
def logBytes (s : State) : Nat := if s.power.addr4 then 16 * 2 ^ 20 else 8 * 2 ^ 20

/-- Free bytes of the log of the slot in force. -/
def logFree (s : State) : Nat :=
  if s.surv.src < 2 then logBytes s - sumNat ((sget {} s.flash s.surv.src).log.map logEntryBytes) else 0

/-- What the content rules judge of an image: of an amendment, its records together with the sections in force (R352). -/
def checkView (s : State) (i : Image) : ContentView :=
  { c := putRecords i (if i.kind = 2 then s.cfg else {}), programs := (programRecs i).map (·.2)
    keys := (s.cry.mag.filter fun e => e.2.loaded && !e.2.device).map fun e => (e.2.owner, e.2.lanes) }

/-- Steps 10 to 14, and the grounds for refusing PERSIST (R357, R361). [DESIGN CHOICE, log 14] -/
def lateCause (s : State) (c : CheckSt) : Option Nat :=
  let i := c.image
  if !patchOk i then some 0x0D
  else if i.kind = 2 ∧ (s.surv.structureApplied = false ∨ i.baseDigest ≠ s.surv.digest / 2 ^ 128) then some 0x09
  else if i.kind = 2 ∧ sequencesOk s i = false then some 0x0A
  else if i.kind = 2 ∧ amendableOk s i = false then some 0x0B
  else if !contentOk (checkView s i) then some 0x0C
  else match c.purpose with
    | .amend true =>
      if s.surv.src = 2 ∨ s.surv.logOwnerChanged ∨ logFree s < logEntryBytes { image := i } then some 0x10 else none
    | _ => none

/-- The refusal cause of a check whose verifications have ended: 0 accepts. -/
def checkCause (s : State) (c : CheckSt) : Nat :=
  match earlyCause s c with
  | some k => k
  | none => if sigFailed c then 0x06 else (lateCause s c).getD 0

/-! ### Verification on the PK units (R294, R347) -/

/-- Starts the two verifications of the next signer, when the steps before them have passed. -/
def startVerify (s : State) : State :=
  match s.surv.check with
  | none => s
  | some c =>
    if (earlyCause s c).isSome || sigFailed c || (nextSigner c).isNone then s
    else { s with cry := { s.cry with pkBusy := 3 } }

/-- The digests that the policy port latches (R350): REFERENCES and LIMITS of an image whose time authority's two
signatures have been reported valid. [DESIGN CHOICE, log 18] -/
def latchPolicy (c : CheckSt) (s : State) : State :=
  let valid := (List.range c.image.signers.length).any fun k =>
    ((c.image.signers[k]?).map (·.role)) == some 2 && verdictsOf c k == [true, true]
  let l := (c.image.records.filter fun r => r.payload.typeByte == 3 || r.payload.typeByte == 8).map (·.digest)
  if valid then survMod (fun v => { v with policyLatch := l }) s else s

/-- PK_VERIFY_DONE (R294): unit 0 verifies the signer's P-384 signature, unit 1 its ML-DSA-65 signature. -/
def execPkVerifyDone (unit : Fin 2) (valid : Bool) (s : State) : Res :=
  match s.surv.check with
  | none => .next s
  | some c =>
    match nextSigner c with
    | none => .next s
    | some k =>
      if !bitAt s.cry.pkBusy unit.val then .next s
      else
        let c1 := { c with verdicts := (k, unit.val, valid) :: c.verdicts }
        let u := { s with
          cry := { s.cry with pkBusy := s.cry.pkBusy - 2 ^ unit.val }
          surv := { s.surv with check := some c1 } }
        let v := rfBump 0x01D10004 15 0 1 u
        let w := if valid then v else irqRaise 12 0 v
        let x := latchPolicy c1 w
        .next (if x.cry.pkBusy = 0 then startVerify x else x)

/-! ### Flash slots (R357) -/

/-- The flash has a slot B. -/
def hasSlotB (s : State) : Bool := s.power.addr4 && s.power.flash64

/-- The image of a flash slot. -/
def slotImage (s : State) (k : Nat) : Option Image := if k = 1 ∧ hasSlotB s = false then none else (sget {} s.flash k).image

/-- The slot that boot takes next: the higher image serial, slot A when they are equal, of those not yet tried. -/
def bootSlot (s : State) : Option (Nat × Image) :=
  let cand := fun (k : Nat) => if s.surv.tried.contains k then none else (slotImage s k).map fun i => (k, i)
  match cand 0, cand 1 with
  | some a, some b => if a.2.serial < b.2.serial then some b else some a
  | some a, none => some a
  | none, b => b

/-- The slot that SURVEY_LOAD with FLASH set writes: the one that boot would not choose, which has refused the slots that it
tried (R361). -/
def writeSlot (s : State) : Nat :=
  if !hasSlotB s then 0
  else match bootSlot s with
    | some (0, _) => 1
    | _ => 0

/-! ### Reading an image (R357, R361) -/

/-- The Survey command that runs and whose check has not begun. -/
def surveyCommand (s : State) : Option Running :=
  match s.mbx.running with
  | some r => if (r.code == 0x10 || r.code == 0x11) && r.result.isNone && s.surv.check.isNone then some r else none
  | none => none

/-- The purpose of a Survey command. -/
def commandPurpose (r : Running) : CheckPurpose :=
  if r.code = 0x10 then .load (bitAt r.flags 0) else .amend (bitAt r.flags 0)

/-- Starts the checks of an image. -/
def beginCheck (p : CheckPurpose) (i : Image) (len : Nat) (ok : Bool) (s : State) : State :=
  startVerify { s with surv := { s.surv with
    check := some { purpose := p, image := i, len := len, readError := !ok } } }

/-- No valid image (R357, R360): a Critical fault. -/
def noImage (s : State) : State := faultEvent 1 1 0 (survMod (fun v => { v with state := if v.tried.isEmpty then 0 else 4 }) s)

/-- The image in the bytes of the host buffer; without any it has a wrong magic. -/
def hostImage (h : Option (List Nat)) : Image := imageOf (h.getD [])

/-- The read of an image at boot. [DESIGN CHOICE, log 13] -/
def bootRead (host : Option (List Nat)) (ok : Bool) (s : State) : State :=
  match s.hostLoad with
  | some h =>
    if ok && canSend s && digestOf (hostImage host) == h.digest then beginCheck (.boot 2) (hostImage host) h.len true s
    else noImage (survMod (fun v => { v with tried := [2], cause := 0x0F }) s)
  | none =>
    match bootSlot s with
    | some (k, i) => beginCheck (.boot k) i i.totalLength ok s
    | none => noImage s

/-- IMAGE_READ_DONE (R357, R361): `host` is the bytes of the host buffer, where the image comes from the host; `ok` says
whether the source was read without error; a host buffer is read by bus-master accesses (R379). -/
def execImageReadDone (host : Option (List Nat)) (ok : Bool) (s : State) : Res :=
  match surveyCommand s with
  | some r =>
    .next (beginCheck (commandPurpose r) (hostImage host) ((r.args[2]?).getD 0) (ok && canSend s) s)
  | none =>
    .next (if s.surv.state = 1 ∧ s.surv.check.isNone ∧ s.power.phase = .running ∧ s.power.selftestDone = true
      then bootRead host ok s else s)

/-! ### Refusal (R352) -/

/-- A load or an amendment is refused: CAUSE, the count, the Note and RESULT REFUSED. -/
def refuseImage (cause : Nat) (s : State) : State :=
  let u := survMod (fun v => { v with check := none, policyLatch := [], cause := cause }) s
  settle 3 (faultEvent 242 1 cause (rfBump 0x00000480 31 16 1 u))

/-- A boot image is refused: nothing of it is applied, and the other slot is tried (R357, R360). [DESIGN CHOICE, log 13] -/
def refuseBoot (slot cause : Nat) (s : State) : State :=
  let u := survMod (fun v => { v with check := none, policyLatch := [], cause := cause, tried := slot :: v.tried }) s
  if u.hostLoad.isSome || (bootSlot u).isNone then noImage u else u

/-! ### Putting an image in force (R356, R359) -/

/-- The fault of an unusable Dial channel that STRUCTURE uses (R114). [DESIGN CHOICE, log 26] -/
def dialOtpFaults (s : State) : State :=
  (s.otp.dialBad.filter fun n => (dialCfg s n).role != 0).foldl (fun t n => faultEvent (80 + n) 1 0 t) s

/-- A PROGRAMS record loaded into a gallery at boot: bank 0, with the picks' local store (R257). -/
def loadGallery (seq : Nat) (p : ProgramsSec) (g : Nat) (s : State) : State :=
  let b : Bank := { prog := p, seq := seq }
  let u := galMod g (fun q => { q with phase := .active, active := 0, banks := sput {} q.banks 0 b, verified := some b }) s
  let v := survMod (fun x => { x with progSeq := sput 0 x.progSeq g seq }) u
  (picksOf g).foldl (fun t k => pickMod k (loadImage b) t) v

/-- Every PROGRAMS record of an image loaded at boot into the galleries that STRUCTURE uses. -/
def loadPrograms (i : Image) (s : State) : State :=
  (programRecs i).foldl (fun t r =>
    (maskGals r.2.mask).foldl (fun t g =>
      if (galCfg t g).used then loadGallery r.1 r.2 g t
      else survMod (fun v => { v with progSeq := sput 0 v.progSeq g r.1 }) t) t) s

/-- SEAMS tokens into the shadows, and their commit (R274). -/
def putTokens (s : State) : State :=
  match s.cfg.seams.tokens with
  | none => s
  | some m => commitShaft ((List.range 16).foldl (fun t g => rfSet (shaftGal g + 8) (sget 0x00101010 m g) t) s)

/-- Sequence numbers of an image's records. -/
def putSeqs (i : Image) (s : State) : State :=
  i.records.foldl (fun t r =>
    let q := r.payload.typeByte
    if q = 2 then t else survMod (fun v => { v with seqs := sput 0 v.seqs q r.seq }) t) s

/-- A record passes the policy port: its digest is latched (R350). [DESIGN CHOICE, log 18] -/
def policyPass (s : State) (r : Record) : Bool := s.surv.policyLatch.contains (r.digest)

/-- The records of an image that come into force: REFERENCES and LIMITS only through the policy port (R350). -/
def forceRecords (i : Image) (s : State) : Image :=
  { i with records := i.records.filter fun r =>
      !(r.payload.typeByte == 3 || r.payload.typeByte == 8) || policyPass s r }

/-- REFERENCES comes into force (R31, R92): its sequence number, and its leap fields. -/
def refsInForce (s : State) : State :=
  let u := { s with assay := { s.assay with refSeq := sget 0 s.surv.seqs 3 } }
  leapOffer .survey u.cfg.refs.leapOffset u.cfg.refs.leapPending u.cfg.refs.leapInstant u

/-- Whether `b` raises a stated U, k_n, or a stated y or a above `a` (R145). -/
def statedRaised (a b : Sections) : Bool :=
  decide (a.lim.kN < b.lim.kN)
    || (b.refs.refs.any fun r => a.refs.refs.any fun q => q.id == r.id && r.raisesU q)
    || (List.range 4).any fun c =>
        let x := (a.refs.fly[c]?).getD {}
        let y := (b.refs.fly[c]?).getD {}
        decide (x.y < y.y) || decide (x.a < y.a)

/-- A policer's fill kept or clamped to the new burst, at the present instant (R313). -/
def clampPolicer (old : PolCfg) (now : Nat) (lack : Nat) (new : PolCfg) : Nat × Nat :=
  let fill := min (old.burst * oneSec - lack) (new.burst * oneSec)
  (new.burst * oneSec - fill, now)

/-- The policers of a seam at a SEAMS amendment: one that the amendment is the first to state starts at its burst (R305). -/
def amendPolicers (old new : SeamRec) (s : State) (seam : Nat) (t : State) : State :=
  (List.range 4).foldl (fun t i =>
    let n := (new.policers[i]?).getD {}
    let x := match old.policers[i]? with
      | none => (0, nowFu s)
      | some o => clampPolicer o (nowFu s) (polLack s seam i o) n
    seamMod seam (fun q => { q with pol := sput (0, 0) q.pol i x }) t) t

/-- The channel buckets of a seam, brought up to date at the old rate. -/
def amendBuckets (s : State) (seam : Nat) (t : State) : State :=
  (List.range 4).foldl (fun t m => { t with sess := { t.sess with
    bucket := sput (0, 0) t.sess.bucket (16 * m + seam) (bucketLack s seam m, nsOfTicks s.clk.ticks) } }) t

/-- An image's SEAMS record states tokens (R274). -/
def statesTokens (i : Image) : Bool :=
  i.records.any fun r => match r.payload with
    | .seamsP p => p.tokens.isSome
    | _ => false

/-- The quota subset comes into force for every seam (R313), with the tokens where the amendment states them (R274). `before` is the
state under the old section. -/
def seamsAmended (tokens : Bool) (before : State) (s : State) : State :=
  let u := (List.range 16).foldl (fun t n =>
    amendBuckets before n (amendPolicers (seamRec before n) (seamRec s n) before n t)) s
  let v := if tokens then putTokens u else u
  (confSeams v.cfg.seams).foldl (fun t e => irqRaise (96 + e.1) 5 t) v

/-- An enabled output's frequency or divider has changed, or its enable (R156). -/
def outputChanged (a b : OutputsSec) (m : Nat) : Bool :=
  let x := sget {} a.out m
  let y := sget {} b.out m
  x.en != y.en || (y.en && (x.div != y.div || (sget {} a.syn (m / 2)).fVco != (sget {} b.syn (m / 2)).fVco))

/-- An output's ALIGN mode alone has changed while it runs or starts: it goes on FREE without one, and otherwise takes its
grid from its next window, or from its next snap edge (R161, R164). [DESIGN CHOICE, log 35] -/
def outRealign (m : Nat) (s : State) : State :=
  outMod m (fun o =>
    if o.stopReq.isSome ∨ ¬(o.state = .slew ∨ o.state = .aligned ∨ o.state = .starting ∨ o.state = .free) then o
    else { o with
      state := if (outCfg s m).align = 0 then .free else .starting
      grid := none, snapDone := false, startTick := s.clk.ticks, accSum := 0, accN := 0 }) s

/-- The feedback ratio that lock loss holds is that of a new frequency from its restart on (R155, R156). -/
def synsAmended (before : OutputsSec) (s : State) : State :=
  (List.range 4).foldl (fun t n =>
    if (sget {} before.syn n).fVco = (synCfg t n).fVco ∨ (synSt t n).nHeld = none then t
    else synMod n (fun y => { y with nHeld := some (followRatio t (synCfg t n).fVco) }) t) s

/-- Playback ends on a synthesiser that an amendment leaves without the characterisation bit (R159). -/
def rampsAmended (s : State) : State :=
  (List.range 4).foldl (fun t n => if (synSt t n).run && !(synCfg t n).char then rampEnd n t else t) s

/-- The outputs at an OUTPUTS amendment (R156, R157): a running output whose frequency changes stops and restarts; one
that is newly enabled starts, with its group where that restarts (R165); one that is disabled stops; one whose ALIGN mode
alone changes goes on with it (R161). -/
def outputsAmended (before : OutputsSec) (s : State) : State :=
  startWaiting <| (List.range 8).foldl (fun t m =>
    if !outputChanged before t.cfg.outs m then
      (if (outCfg t m).en && (sget {} before.out m).align != (outCfg t m).align then outRealign m t else t)
    else if (sget {} before.out m).en then
      -- the period in progress is one of the old values
      outMod m (fun _ => outSt (outStopReq m .off true { t with cfg := { t.cfg with outs := before } }) m) t
    else outMod m (fun _ => { waiting := true }) t) (synsAmended before (rampsAmended s))

/-- The records of an accepted amendment, PROGRAMS apart, come into force (R356). The servo takes its parameters at its
next update (R59, R68), and the launch thresholds stay as they are (R191). [DESIGN CHOICE, log 60] -/
def applyRecords (i : Image) (s : State) : State :=
  let j := forceRecords i s
  let has := fun (t : Nat) => decide (0 < recCount j t)
  let k := if has 8 then keepThetas s else s
  let u := putSeqs j { k with cfg := putRecords j s.cfg }
  let w := if has 3 then irqRaise 3 8 (refsInForce u) else u
  let x := if statedRaised s.cfg w.cfg then bumpEpoch w else w
  let y := if has 7 then seamsAmended (statesTokens j) s x else x
  let z := if has 4 then outputsAmended s.cfg.outs y else y
  survMod (fun v => { v with policyLatch := [] }) z

/-! ### Amendments in force (R356) -/

/-- SWAP_DONE (R233): no pick holds an old-bank item any longer; the amendment goes on with the next gallery (R356). -/
def execSwapDone (g : GalNo) (s : State) : Res := .next (swapsGo (swapDone g s))

/-- AMENDMENT_ACTIVATION (R356): the first decision tick after the checks, or after the log write. -/
def execAmendmentActivation (s : State) : Res :=
  match s.surv.check with
  | none => .next s
  | some c =>
    let ready := c.accepted && !c.applied && match c.purpose with
      | .amend persist => !persist || c.logWritten
      | _ => false
    if !ready then .next s
    else
      let t := elapseTo (nextDecision s) s
      let u := applyRecords c.image t
      let named := (List.range 16).filter fun g => (programFor c.image g).isSome
      let gs := named.filter fun g => (galCfg u g).used
      let v := named.foldl (fun t g => match programFor c.image g with
        | some b => survMod (fun x => { x with progSeq := sput 0 x.progSeq g b.seq }) t
        | none => t) u
      let w := survMod (fun x => { x with check := some { c with applied := true }, swaps := gs }) v
      .next (swapsGo (decideNow w))

/-- AMENDMENT_LOG_WRITTEN (R361): the entry has been appended, or the flash write has failed. -/
def execAmendmentLogWritten (ok : Bool) (s : State) : Res :=
  match s.surv.check with
  | none => .next s
  | some c =>
    match c.purpose with
    | .amend true =>
      if !c.accepted || c.logWritten then .next s
      else if ok then
        let f := smod {} s.flash s.surv.src fun q => { q with log := q.log ++ [{ image := c.image }] }
        .next { s with flash := f, surv := { s.surv with check := some { c with logWritten := true } } }
      else
        .next (settle 4 (survMod (fun v => { v with check := none, policyLatch := [] }) s))
    | _ => .next s

/-! ### Boot: IMAGE_APPLIED (R359, R361) -/

/-- Replays log entries in order (R361): an entry that is incomplete or of another base ends the replay; one that fails
its checks does so with a Major fault. -/
def replayLog : List LogEntry → State → State
  | [], s => s
  | e :: l, s =>
    if !e.complete || e.image.baseDigest != s.surv.digest / 2 ^ 128 then s
    else
      let c : CheckSt := { purpose := .amend false, image := e.image, len := e.image.totalLength }
      if (earlyCause s c).isSome || !e.sigOk || (lateCause s c).isSome then faultEvent 240 1 0 s
      else
        let latch := (e.image.records.filter fun r => r.payload.typeByte == 3 || r.payload.typeByte == 8).map (·.digest)
        let u := survMod (fun v => { v with policyLatch := latch }) s
        let j := forceRecords e.image u
        let w := loadPrograms e.image (putSeqs j { u with cfg := putRecords j u.cfg })
        let x := rfBump 0x00000480 15 0 1 (survMod (fun v => { v with logReplayed := v.logReplayed + 1 }) w)
        replayLog l x

/-- Whether STRUCTURE uses any session channel, and what its classes start with: the twin joins, the outputs start, and a
Lode whose TBPLL is locked enters ACQUIRE (R62, R157, R333). -/
def startBlocks (s : State) : State :=
  let u := outsStart (putTokens (dialOtpFaults s))
  let v := if u.cfg.twin.present ∧ u.haul.twin.state = .none then
      twinMod (fun t => { t with state := .join, joinTick := u.clk.ticks }) u
    else u
  if v.lode.state ≠ .free then v
  else if v.lode.tbpllLock && v.lode.loOk then enterAcquire (calibrate v) else calibrate v

/-- The image that was verified at boot comes into force (R359). -/
def applyBoot (slot : Nat) (i : Image) (s : State) : State :=
  let u := survMod (fun v => { v with
    src := slot, svn := i.securityVersion, serial := i.serial, digest := digestOf i
    structureApplied := true, check := none }) s
  let j := forceRecords i u
  let v := loadPrograms i (putSeqs j { u with cfg := putRecords j {} })
  let w := if slot < 2 then replayLog (sget {} v.flash slot).log v else v
  let x := startBlocks (refsInForce w)
  let y := { x with lode := { x.lode with pullSlope := x.cfg.lim.pullSlope, lim := x.cfg.lim } }
  canaryUpdate (heldEnd 1 1 (survMod (fun v => { v with state := 3, policyLatch := [], booted := none }) y))

/-- IMAGE_APPLIED (R359): every section of the verified image is applied and the log replayed. -/
def execImageApplied (s : State) : Res :=
  match s.surv.check, s.surv.booted with
  | some c, some i =>
    match c.purpose with
    | .boot k => .next (if s.surv.state = 2 then applyBoot k i s else s)
    | _ => .next s
  | _, _ => .next s

end Sys2Proof.Machine
end

