-- ==== Sys2Proof/Machine/Power.lean ====
section
/-! DEFINITION. Power, resets and their reach, the PCIe endpoint's resets and power states, and the end of the checks of an image (R352, R361, R363 to R368, R379, R380, R410 to R420). -/

namespace Sys2Proof.Machine

/-! ### Reset (R413 to R416) -/

/-- What every reset leaves (R415, R416): OTP, Magazine and QSPI contents are kept, and with them what is no part of the
device: elapsed time, the host's buffers and the waiting commands. `CANARY` holds its level (R417). [DESIGN CHOICE, log 9] -/
def coldReset (cause : Nat) (s : State) : State :=
  { State.reset with
    clk := { ({} : ClockSt) with ticks := s.clk.ticks, freeCtr := s.clk.freeCtr + 1 }
    -- the entropy source seeds the LFSRs anew (R269)
    shaft := { ({} : ShaftSt) with
      groups := (List.range 3).foldl (fun m k => sput {} m k { lfsr := (s.clk.freeCtr + 1, 0) }) [] }
    otp := s.otp
    dial := { ({} : DialSt) with since := s.clk.ticks }
    cry := { ({} : CryptoSt) with mag := s.cry.mag }
    flash := s.flash
    haul := { ({} : HaulSt) with snap := { ({} : SnapSt) with halves := s.haul.snap.halves } }
    fault := { ({} : FaultSt) with canaryLevel := s.fault.canaryLevel, heartbeatTick := s.clk.ticks, oscFrom := s.clk.ticks }
    power := { ({} : PowerSt) with
      phase := .inReset, cause := cause, resetPinLow := s.power.resetPinLow, railsLow := s.power.railsLow
      keyPriv := s.power.keyPriv }
    pending := s.pending }

/-- Registers of the PCIe endpoint in the register file: the MSI-X tables (R364, R366). -/
def isEndpointReg (a : Nat) : Bool := decide (0x03F00000 ≤ a ∧ a < 0x03F08000) || decide (0x100000000 ≤ a)

/-- A configuration reset (R415): every block except the PCIe endpoint; KEY_PRIV, the orbit cache, the fault log and its
sequence are kept. `load` is what SURVEY_LOAD leaves for the boot (R361). [DESIGN CHOICE, log 9] [DESIGN CHOICE, log 24] -/
def configReset (cause : Nat) (load : Option HostLoad) (s : State) : State :=
  let u := coldReset cause s
  { u with
    dayl := { u.dayl with orbit := s.dayl.orbit }
    fault := { u.fault with log := s.fault.log, seq := s.fault.seq }
    -- every status is 0, so no vector's summary is left to wait for (R368)
    pcie := { s.pcie with vecs := smap {} (fun m => { m with pending := false }) s.pcie.vecs }
    hostLoad := load
    rf := (skeep isEndpointReg s.rf).foldl (fun m e => sput 0 m e.1 e.2)
      (sput 0 [] 0x20 (setBits 15 8 (rfField s 0x20 15 8) 0)) }

/-- The erasure of a life-cycle change (R298, R420). -/
def lifecycleErase (s : State) : State :=
  let u := eraseSessions { s with
    otp := { s.otp with erasePending := false }
    cry := { s.cry with mag := [], lanes := smap {} (fun l => { l with drbg := 0 }) s.cry.lanes } }
  irqRaise 0 1 (irqRaise 13 0 u)

/-- The endpoint leaves reset: configuration retry for 100 ms (R364). -/
def endpointUp (s : State) : State :=
  { s with pcie := { ({} : PcieSt) with inReset := false, retryEndTick := s.clk.ticks + 100 * ticksPerMs } }

/-- The device leaves reset (R419): straps, KEY_PRIV on a RESET_N edge, and an interrupted erasure (R374, R420). The
marker of a configuration reset is the first record after it (R389). [DESIGN CHOICE, log 25] -/
def leaveReset (pin : Bool) (bootSrc : Nat) (addr4 flash64 : Bool) (s : State) : State :=
  let config := s.power.cause == 2 || s.power.cause == 3
  let u := { s with
    power := { s.power with
      phase := .running, resetPinLow := false, railsLow := [], bootSrc := bootSrc, addr4 := addr4
      flash64 := flash64, releaseTick := s.clk.ticks, keyPriv := s.power.keyPriv || pin
      lcResumed := s.otp.erasePending }
    dial := { s.dial with since := s.clk.ticks }
    fault := { s.fault with heartbeatTick := s.clk.ticks } }
  let v := if config then u else endpointUp u
  let w := if s.otp.erasePending then lifecycleErase v else v
  canaryUpdate (if config then faultEvent 1 3 0 w else w)

/-- POWER_ON (R412, R413): from no power, the power-on reset holds; RESET_N is low (R413). -/
def execPowerOn (s : State) : Res :=
  if s.power.phase = .off then
    let u := coldReset 0 s
    .next { u with
      power := { u.power with resetPinLow := true, railsLow := [], keyPriv := false }
      fault := { u.fault with canaryLevel := false } }
  else .next s

/-- BROWN_OUT (R413): rail `rail` falls below its reset threshold. KEY_PRIV is cleared. -/
def execBrownOut (rail : Fin 7) (s : State) : Res :=
  if s.power.phase = .off then .next s
  else
    let u := coldReset 4 s
    let low := if s.power.railsLow.contains (304 + rail.val) then s.power.railsLow
      else (304 + rail.val) :: s.power.railsLow
    .next { u with power := { u.power with railsLow := low, keyPriv := false } }

/-- POWER_DOWN (R414): what is not non-volatile is lost. -/
def execPowerDown (s : State) : Res :=
  if s.power.phase = .off then .next s
  else
    let u := coldReset 0 s
    .next { u with
      power := { u.power with phase := .off, resetPinLow := true, railsLow := [], keyPriv := false }
      fault := { u.fault with canaryLevel := false } }

/-- RESET_N_ASSERT (R415). -/
def execResetNAssert (s : State) : Res :=
  if s.power.phase = .off ∨ s.power.resetPinLow then .next s
  else
    let u := coldReset 1 s
    .next { u with power := { u.power with resetPinLow := true } }

/-- RESET_RELEASE (R413, R419): a rising edge of RESET_N (`pin`) or the end of an internal reset. The device is released
once neither holds it. [DESIGN CHOICE, log 25] -/
def execResetRelease (pin : Bool) (bootSrc : Fin 4) (addr4 flash64 : Bool) (s : State) : Res :=
  if s.power.phase ≠ .inReset then .next s
  else if pin then
    (if s.power.resetPinLow = false then .next s
     else if s.power.railsLow.isEmpty then .next (leaveReset true bootSrc addr4 flash64 s)
     else .next { s with power := { s.power with resetPinLow := false } })
  else
    (if s.power.resetPinLow then .next { s with power := { s.power with railsLow := [] } }
     else .next (leaveReset false bootSrc addr4 flash64 s))

/-- BOOT_SELFTEST_DONE (R359, R114): `pass` of the self-test, and the Dial channels whose OTP CRC fails (OTP_FAIL). The mailboxes
accept commands from now on (R418), and the read of an image begins where the strap or SURVEY_LOAD gives one. [DESIGN CHOICE, log 13] -/
def execBootSelftestDone (pass : Bool) (dialBad : List Nat) (s : State) : Res :=
  if s.power.phase ≠ .running ∨ s.power.selftestDone then .next s
  else
    let u := { s with
      power := { s.power with selftestDone := true, selftestFailed := !pass, entropySeeded := true }
      otp := { s.otp with dialBad := dialBad } }
    let w := if pass then u else faultEvent 2 1 0 u
    let v := if dialBad.isEmpty then w else irqRaise 4 5 w
    if s.power.bootSrc = 3 then .next (faultEvent 1 2 0 v)
    else if s.hostLoad.isSome ∨ s.power.bootSrc = 0 ∨ s.power.bootSrc = 2 then
      .next (survMod (fun x => { x with state := 1 }) v)
    else .next v

/-- SPI_ACCESS_START (R418). -/
def execSpiAccessStart (s : State) : Res :=
  if s.power.phase = .running ∧ s.spi.access = false then
    let u := elapseTo (s.power.releaseTick + 10 * ticksPerMs) s
    .next { u with spi := { u.spi with access := true } }
  else .next s

/-! ### The end of the checks (R352, R359, R361) -/

/-- The PATCH record of an image comes into force, before any other section (R358, R359): the redirections, and the code in the
patch area. -/
def applyPatch (i : Image) (s : State) : State :=
  i.records.foldl (fun t r => match r.payload with
    | .patchP p => survMod (fun v => { v with patchVersion := p.version, patchEntries := p.entries, patchArea := p.code }) t
    | _ => t) s

/-- An accepted image goes on to what it is for. -/
def acceptImage (c : CheckSt) (s : State) : State :=
  let held := survMod (fun v => { v with check := some { c with accepted := true } }) s
  match c.purpose with
  | .boot _ => applyPatch c.image (survMod (fun v => { v with state := 2, booted := some c.image }) held)
  | .load false =>
    let a := ((s.mbx.running.map (·.args)).getD [])
    configReset 3 (some {
      addr := (a[0]?).getD 0 + 2 ^ 32 * (a[1]?).getD 0, len := c.len, digest := digestOf c.image }) s
  | .load true =>
    let k := writeSlot s
    let u := { held with
      flash := sput {} held.flash k {}
      surv := { held.surv with check := some { c with accepted := true, slot := k } } }
    if k = s.surv.src then survMod (fun v => { v with logOwnerChanged := true }) u else u
  | .amend _ => held

/-- IMAGE_CHECKS_DONE (R352): the checks end in acceptance or in a refusal cause, once every verification that they need
has ended. -/
def execImageChecksDone (s : State) : Res :=
  match s.surv.check with
  | none => .next s
  | some c =>
    let open' := (earlyCause s c).isNone && !sigFailed c && (nextSigner c).isSome
    if c.accepted || open' || s.cry.pkBusy != 0 then .next s
    else
      let k := checkCause s c
      .next (if k = 0 then acceptImage c s
        else match c.purpose with
          | .boot slot => refuseBoot slot k s
          | _ => refuseImage k s)

/-! ### The PCIe endpoint (R364, R365, R368, R379, R380) -/

/-- Messages that waited for the endpoint go out (R368, R380). -/
def flushVectors (s : State) : State :=
  if canSend s then
    s.pcie.vecs.foldl (fun t e => if e.2.pending && !vectorMasked t e.1 then msixSend e.1 t else t) s
  else s

/-- A reset of the endpoint only (R415). -/
def endpointReset (s : State) : State :=
  let u := endpointUp { s with rf := skeep (fun a => !isEndpointReg a) s.rf }
  rfBump 0x20 15 8 1 u

/-- PERST (R415): `PERST_N` or a PCIe hot reset. The endpoint is up while the device runs, and through a configuration reset. -/
def execPerst (s : State) : Res :=
  .next (if s.power.phase = .running ∨ s.pcie.inReset = false then endpointReset s else s)

/-- CONFIG_RETRY_END (R364). -/
def execConfigRetryEnd (s : State) : Res :=
  if s.pcie.cfgRetry && !s.pcie.inReset then
    let u := elapseTo s.pcie.retryEndTick s
    .next { u with pcie := { u.pcie with cfgRetry := false } }
  else .next s

/-- The host's own exit satisfies a request that is pending and not yet sent: vector 0's message is left to go out on the
restored link (R380). -/
def wakeSatisfied (s : State) : State :=
  if s.pcie.wakePending then
    { s with pcie := { s.pcie with
      wakePending := false, vecs := smod {} s.pcie.vecs 0 fun m => { m with pending := true } } }
  else s

/-- POWER_STATE_CHANGE (R379, R380): the host moves PF0 to D3hot or D0, by a configuration write, which gets retry status
while R364 says so. The change to D0 satisfies a pending wake request, and the messages that waited are sent. -/
def execPowerStateChange (d3hot : Bool) (s : State) : Res :=
  if s.pcie.inReset ∨ s.pcie.cfgRetry then .next s
  else if d3hot then .next { s with pcie := { s.pcie with d3hot := true } }
  else
    let u := if s.pcie.d3hot then wakeSatisfied s else s
    .next (flushVectors { u with pcie := { u.pcie with d3hot := false, linkL1 := false } })

/-- LINK_L1_ENTRY (R380). -/
def execLinkL1Entry (s : State) : Res :=
  .next (if s.pcie.inReset then s else { s with pcie := { s.pcie with linkL1 := true } })

/-- LINK_L1_EXIT (R380): the host's exit satisfies a pending request. -/
def execLinkL1Exit (s : State) : Res :=
  let u := if s.pcie.d3hot then s else wakeSatisfied s
  .next (flushVectors { u with pcie := { u.pcie with linkL1 := false, wakePending := false } })

/-- The PME message of a wake request in D3hot goes out (R380). [PRESUMED, log 19] -/
def pmeSend (s : State) : State :=
  if s.pcie.wakePending && s.pcie.d3hot && !s.pcie.inReset then
    { s with pcie := { s.pcie with wakePending := false, pmeSent := s.pcie.pmeSent + 1 } }
  else s

/-- What the device does on its own while no command waits: one tick passes, and a pending PME message is sent. [DESIGN CHOICE, log 2] -/
def idleTick (s : State) : State := pmeSend (elapse 1 s)

/-- MSIX_UNMASK (R368): vector `vec` sends its message only if its pending bit is still set. -/
def execMsixUnmask (vec : Nat) (s : State) : Res :=
  let u := rfSet (vectorCtl vec) (setBits 0 0 0 (rfGet s (vectorCtl vec))) s
  .next (if 128 ≤ vec ∨ s.pcie.inReset = true then s
    else if (sget {} s.pcie.vecs vec).pending then msixSend vec u else u)

/-- Base address of a mailbox set. -/
def mbxBase (src : MbxSrc) : Nat := match src with
  | .pf => 0x200
  | .spi => 0x300

/-- Base address of a VF's mailbox set, in its seam's window. -/
def vfMbxBase (v : Nat) : Nat := seamBase v + 0x2000

/-- Clears the registers of a mailbox set. -/
def clearSet (b : Nat) (s : State) : State := { s with rf := skeep (fun a => decide (a < b ∨ b + 0x90 ≤ a)) s.rf }

/-- PF_FLR (R365). -/
def execPfFlr (s : State) : Res :=
  if s.pcie.inReset then .next s
  else
    let u := clearSet 0x200 { s with
      rf := skeep (fun a => decide (a < 0x03F00000 ∨ 0x03F08000 ≤ a)) s.rf
      mbx := { s.mbx with
        pf := {}
        running := s.mbx.running.map fun r => if r.src = .pf then { r with discard := true } else r }
      pcie := { s.pcie with busMaster := false, vecs := skeep (fun v => decide (64 ≤ v)) s.pcie.vecs } }
    .next ((List.range 96).foldl (fun t i => irqWriteEnable i 0 t) u)

/-- VF_FLR (R365). -/
def execVfFlr (v : SeamNo) (s : State) : Res :=
  if s.pcie.inReset then .next s
  else
    let lo := vectorCtl (64 + 4 * v.val) - 12
    let u := clearSet (vfMbxBase v) { s with
      rf := skeep (fun a => decide (a < lo ∨ lo + 64 ≤ a)) s.rf
      mbx := { s.mbx with vf := sput {} s.mbx.vf v {} }
      pcie := { s.pcie with vecs := skeep (fun k => decide (k < 64 + 4 * v.val ∨ 68 + 4 * v.val ≤ k)) s.pcie.vecs } }
    .next (irqWriteEnable (96 + v) 0 u)

end Sys2Proof.Machine
end

