-- ==== Sys2Proof/Machine/Mailbox.lean ====
section
/-! DEFINITION. The mailbox: its sets, the command engine, and every command of R372 (R294 to R299, R370 to R375). -/

namespace Sys2Proof.Machine

/-! ### Sets (R370, R371) -/

/-- A set that reaches the engine. -/
def setOf (s : State) : MbxSrc → MbxSet
  | .pf => s.mbx.pf
  | .spi => s.mbx.spi

/-- Changes a set. -/
def setMod (src : MbxSrc) (f : MbxSet → MbxSet) (s : State) : State :=
  match src with
  | .pf => { s with mbx := { s.mbx with pf := f s.mbx.pf } }
  | .spi => { s with mbx := { s.mbx with spi := f s.mbx.spi } }

/-- A command of a set has ended or was refused: DONE, with its interrupt or alert. -/
def setDone (src : MbxSrc) (res code : Nat) (s : State) : State :=
  let u := setMod src (fun m => { m with done := true, result := res, doneCode := code % 256 }) s
  match src with
  | .pf => irqRaise 0 0 u
  | .spi => alertSet 0 u

/-- Writes MBX_CMD and the first arguments of a set. -/
def writeSet (b code flags : Nat) (args : List Nat) (s : State) : State :=
  ((List.range args.length).zip args).foldl (fun t e => rfSet (b + 4 + 4 * e.1) e.2 t)
    (rfSet b (code % 256 + flags % 256 * 256) s)

/-- The master of a set can reach it: the PF through the endpoint, SPI from 10 ms after release (R418). -/
def setReachable (s : State) (src : MbxSrc) : Bool :=
  s.power.phase == .running && match src with
    | .pf => !s.pcie.inReset
    | .spi => s.spi.access

/-- The engine refuses with BUSY: a command runs, the self-test has not ended, or the Foreman stalls (R19, R371, R418). -/
def engineBusy (s : State) : Bool := s.mbx.running.isSome || !s.power.selftestDone || s.fault.stall

/-! ### Keys (R295 to R299) -/

/-- Ends the running command with DENIED at exactly 4 us (R299, R372). -/
def denyKey (s : State) : State :=
  { s with mbx := { s.mbx with running := s.mbx.running.map fun r => { r with result := some 2, exact4us := true } } }

/-- A slot with the attributes of ARG1 in MAG_ATTR0's layout (R372). -/
def attrSlot (attr label value : Nat) : MagSlot :=
  { owner := bitsOf 3 0 attr, device := bitAt attr 4, usage := bitsOf 6 5 attr, len32 := bitAt attr 7
    bind := bitsOf 9 8 attr, loaded := true, isSealed := false, lanes := bitsOf 31 16 attr, label := label
    -- a 16-byte key sits in the first 16 bytes (R295)
    value := if bitAt attr 7 then value else value / 2 ^ 128 * 2 ^ 128 }

/-- Usage and binding go together (R295). -/
def usageBindOk (m : MagSlot) : Bool :=
  match m.usage with
  | 0 => m.bind == 0 || m.bind == 1
  | 1 => m.bind == 0
  | 2 => m.bind == 2 && m.len32
  | _ => m.bind == 3 && m.len32

/-- The slot lies where its owner's slots lie (R295, R348). [DESIGN CHOICE, log 16] -/
def slotPlaceOk (s : State) (i : Nat) (m : MagSlot) : Bool :=
  let q := s.cfg.seams
  if m.device then
    if m.bind = 2 then decide (4092 ≤ i ∧ i < 4096)
    else decide (q.devBase ≤ i ∧ i < q.devBase + q.devCount)
  else
    let r := seamRec s m.owner
    m.bind == 0 && r.configured && decide (r.magBase ≤ i ∧ i < r.magBase + r.magCount)

/-- KEY_WRITE's attributes obey R293 and R295. -/
def keyAttrOk (s : State) (i : Nat) (m : MagSlot) : Bool :=
  usageBindOk m && slotPlaceOk s i m && (m.device || laneMaskOk s.cfg.seams m.owner m.lanes)

/-- Changes a Magazine slot. -/
def magPut (i : Nat) (m : MagSlot) (s : State) : State := { s with cry := { s.cry with mag := sput {} s.cry.mag i m } }

/-- Argument `k` of a command. -/
def argOf (r : Running) (k : Nat) : Nat := (r.args[k]?).getD 0

/-- Arguments `k` on, `n` of them, as one number with the first most significant. -/
def argWords (r : Running) (k n : Nat) : Nat := (slice k n r.args).foldl (fun a b => a * 2 ^ 32 + b) 0

/-- KEY_WRITE (R297). -/
def runKeyWrite (r : Running) (s : State) : State :=
  let i := argOf r 0 % 4096
  let m := attrSlot (argOf r 1) (argOf r 2) (argWords r 3 8)
  if (magSlot s i).loaded || s.otp.lifecycle == 3 || !keyAttrOk s i m then denyKey s
  else
    let sealIt := s.otp.lifecycle == 2 && (m.bind == 2 || m.bind == 3)
    settle 0 (magPut i { m with isSealed := sealIt } s)

/-- The operations that have not fetched the key of slot `i` are refused when they come to it (R297). -/
def denyFetches (i : Nat) (s : State) : State :=
  let late := fun (r : ShReq) => r.kind == .crypto && !r.keyFetched && r.op.slot == some i
  { s with shaft := { s.shaft with reqs := s.shaft.reqs.map fun r => if late r then { r with denied := true } else r } }

/-- KEY_ERASE (R297). -/
def runKeyErase (r : Running) (s : State) : State :=
  let i := argOf r 0 % 4096
  if !(magSlot s i).loaded || (magSlot s i).isSealed then denyKey s else settle 0 (denyFetches i (magPut i {} s))

/-- What ATTEST signs (R372): the nonce, GLB_SERIAL, GLB_LIFECYCLE and M. [DESIGN CHOICE, log 16] -/
def attestMessage (r : Running) (s : State) : List Nat :=
  let life := s.otp.lifecycle + 4 * s.power.keyPriv.toNat + 8 * s.surv.structureApplied.toNat
    + (if s.cfg.str.role = .face then 16 else 0)
  beBytes 32 (argWords r 0 8) ++ beBytes 8 s.otp.serial ++ beBytes 4 life ++ beBytes 48 s.surv.digest

/-- ATTEST (R294): a P-256 signature with a SIGN key bound to a PK unit. -/
def runAttest (r : Running) (s : State) : State :=
  let m := magSlot s (argOf r 8 % 4096)
  if !(m.loaded && m.device && m.usage == 3 && m.bind == 3) then denyKey s
  else
    let n := takeFree s
    let sig := fit 64 (Config.ecdsaSign (magKey m) (Config.entropy n.1) (attestMessage r s))
    let outs := (List.range 16).map fun k => beAt sig (4 * k) 4
    let u := rfBump 0x01D10004 31 16 1 n.2
    settle 0 { u with mbx := { u.mbx with running := u.mbx.running.map fun q => { q with outs := outs } } }

/-- PRIV_DROP (R374). -/
def runPrivDrop (s : State) : State := settle 0 { s with power := { s.power with keyPriv := false } }

/-- LIFECYCLE_ADVANCE (R298, R420): the OTP step; the erasure follows before the command ends. [DESIGN CHOICE, log 15] -/
def runLifecycle (r : Running) (s : State) : State :=
  if argOf r 0 = s.otp.lifecycle + 1 ∧ s.otp.lifecycle < 3 then
    settle 0 { s with otp := { s.otp with lifecycle := s.otp.lifecycle + 1, erasePending := true } }
  else denyKey s

/-- A key-family command: from a source that may issue it, or DENIED (R299, R372). -/
def runKeyFamily (r : Running) (s : State) : State :=
  let pf := r.src == .pf
  let priv := pf && s.power.keyPriv
  match r.code with
  | 0x20 => if priv then runKeyWrite r s else denyKey s
  | 0x21 => if priv then runKeyErase r s else denyKey s
  | 0x22 => runAttest r s
  | 0x23 => if pf then runPrivDrop s else denyKey s
  | _ => if priv then runLifecycle r s else denyKey s

/-! ### Galleries, picks, Dial, snapshots, faults, resets -/

/-- A gallery that STRUCTURE uses. -/
def galUsed (s : State) (g : Nat) : Bool := decide (g < 16) && (galSt s g).phase != .off

/-- SELFTEST (R232): a gallery that is not fenced is fenced first. -/
def runSelftest (r : Running) (s : State) : State :=
  let g := argOf r 0
  if !galUsed s g then settle 2 s
  else startReadmit g (if (galSt s g).phase = .fenced then s else fenceGallery g 5 s)

/-- GALLERY_FENCE (R230). [DESIGN CHOICE, log 16] -/
def runGalleryFence (r : Running) (s : State) : State :=
  let g := argOf r 0
  if !galUsed s g then settle 2 s
  else settle 0 (if (galSt s g).phase = .fenced then s else fenceGallery g 5 s)

/-- GALLERY_READMIT (R232). -/
def runGalleryReadmit (r : Running) (s : State) : State :=
  let g := argOf r 0
  if galUsed s g && (galSt s g).phase == .fenced then startReadmit g s else settle 2 s

/-- PICK_READMIT (R229): the self-test of a fenced pick of a gallery that is in service (R230). -/
def runPickReadmit (r : Running) (s : State) : State :=
  let p := argOf r 0
  if p < 512 ∧ (pickSt s p).phase = .fenced ∧ galRuns s (p / 32) = true then
    pickMod p (fun x => { x with testing := true, reload := true }) s
  else settle 2 s

/-- DIAL_CHECK (R113): a check of every channel at once. -/
def runDialCheck (s : State) : State :=
  (List.range 24).foldl (fun t n => checkStart n t) { s with dial := { s.dial with chkRun := true } }

/-- The host buffer half at an address, as the device's own saves have left it (R340). -/
def halfAt (s : State) (addr : Nat) : Option Snap := sget none s.haul.snap.halves addr

/-- SNAPSHOT_RESTORE (R341): `buf` is what the buffer holds. -/
def runRestore (buf : Option Snap) (s : State) : State :=
  match buf with
  | some x =>
    -- the buffer is read by bus-master accesses (R379)
    if !canWriteHost s then settle 4 s
    else if restoreDenied s x then settle 2 s
    else settle 0 (snapMod (fun z => { z with restoring := true }) (restore x s))
  | none => settle 2 s

/-- FAULT_ACK (R386). [DESIGN CHOICE, log 16] -/
def runFaultAck (r : Running) (s : State) : State :=
  if argOf r 1 = 1 then settle 0 (ackAll s)
  else if argOf r 1 = 0 ∧ argOf r 0 ≤ 319 then settle 0 (ackSource (argOf r 0) s)
  else settle 2 s

/-- SVN_COMMIT (R351). -/
def runSvnCommit (s : State) : State :=
  settle 0 { s with otp := { s.otp with svnFloor := max s.otp.svnFloor s.surv.svn } }

/-- A Survey command waits for its image; it is DENIED while an image is being read or applied at boot. [DESIGN CHOICE, log 14] -/
def runSurvey (s : State) : State := if s.surv.state = 1 ∨ s.surv.state = 2 then settle 2 s else s

/-! ### The engine (R370, R372) -/

/-- The codes of R372. -/
def knownCode (c : Nat) : Bool :=
  [0x00, 0x10, 0x11, 0x12, 0x20, 0x21, 0x22, 0x23, 0x24, 0x30, 0x31, 0x32, 0x33, 0x34, 0x40, 0x41, 0x50, 0x60,
    0x61].contains c

/-- Sources from which a command outside the key family may be issued (R372). -/
def sourceOk (r : Running) : Bool :=
  match r.src with
  | .pf => r.code != 0x61
  | .spi => [0x00, 0x30, 0x31, 0x32, 0x33, 0x40, 0x50, 0x60, 0x61].contains r.code

/-- What an accepted command does (R372). [DESIGN CHOICE, log 15] -/
def runCommand (r : Running) (buf : Option Snap) (s : State) : State :=
  if 0x20 ≤ r.code ∧ r.code ≤ 0x24 then runKeyFamily r s
  else if !knownCode r.code then settle 5 s
  else if !sourceOk r then settle 2 s
  else match r.code with
    | 0x00 => settle 0 s
    | 0x10 => runSurvey s
    | 0x11 => runSurvey s
    | 0x12 => runSvnCommit s
    | 0x30 => runSelftest r s
    | 0x31 => runGalleryFence r s
    | 0x32 => runGalleryReadmit r s
    | 0x33 => runPickReadmit r s
    | 0x34 => runDialCheck s
    | 0x40 => saveStart true (r.src == .spi) s
    | 0x41 => runRestore buf s
    | 0x50 => runFaultAck r s
    | 0x60 => if argOf r 0 = 0x52455345 then configReset 2 none s else settle 2 s
    | _ => settle 0 (endpointReset s)

/-- The CRC of a WRITE over its opcode, address, count and words (R376). -/
def spiWriteCrc (addr n : Nat) (words : List Nat) : Nat :=
  crc32c ([0x02] ++ beBytes 4 addr ++ beBytes 2 n ++ (words.map (beBytes 4)).flatten)

/-- A WRITE with the count it states, its words and the CRC that follows them is whole (R376). [DESIGN CHOICE, log 21] -/
def spiWriteOk (addr n : Nat) (words : List Nat) (crc : Nat) : Bool :=
  words.length == n && crc == spiWriteCrc addr n words

/-- A WRITE rings the SPI set's doorbell, at 0x344 (R377). -/
def spiWriteRings (addr n : Nat) (words : List Nat) (crc : Nat) : Bool :=
  spiWriteOk addr n words crc && decide (addr ≤ 0x344 ∧ addr % 4 = 0) && (words[(0x344 - addr) / 4]?).any (bitAt · 0)

/-- The commands of the table by which the board controller rings the SPI set's doorbell. -/
def spiRing : Instr → Bool
  | .nopCommand .spi => true
  | .surveyLoad .spi _ _ _ => true
  | .surveyAmend .spi _ _ _ => true
  | .svnCommit .spi => true
  | .keyWrite .spi _ _ _ _ => true
  | .keyErase .spi _ => true
  | .attest .spi _ _ => true
  | .privDrop .spi => true
  | .lifecycleAdvance .spi _ => true
  | .selftest .spi _ => true
  | .galleryFence .spi _ => true
  | .galleryReadmit .spi _ => true
  | .pickReadmit .spi _ => true
  | .dialCheck .spi => true
  | .snapshotSave .spi => true
  | .snapshotRestore .spi _ _ _ => true
  | .faultAck .spi _ _ => true
  | .deviceReset .spi _ => true
  | .pcieReset .spi => true
  | .unknownCommand .spi _ => true
  | .spiWrite addr words check => spiWriteRings addr check.1 words check.2
  | _ => false

/-- An SPI doorbell arrives in the gate cycle of the present one: it is the next command that waits (R371). [DESIGN CHOICE, log 15] -/
def spiTogether (s : State) : Bool := setReachable s .spi && (s.pending.head?).any spiRing

/-- The gate refuses a set's doorbell with BUSY: the engine is busy, or for the PF an SPI doorbell comes with it (R371). -/
def gateRefuses (src : MbxSrc) (s : State) : Bool := engineBusy s || (src == .pf && spiTogether s)

/-- A doorbell of a set: acceptance, or refusal with BUSY (R370, R371). -/
def ringBuf (src : MbxSrc) (buf : Option Snap) (s : State) : State :=
  if !setReachable s src then s
  else
    let b := mbxBase src
    let code := rfField s b 7 0
    if gateRefuses src s then setDone src 1 code s
    else
      let r : Running := {
        src := src, code := code, flags := rfField s b 15 8
        args := (List.range 16).map fun k => rfGet s (b + 4 + 4 * k), startTick := s.clk.ticks }
      let u := setMod src (fun m => { m with tag := (m.tag + 1) % 256 }) s
      runCommand r buf { u with mbx := { u.mbx with running := some r } }

/-- A doorbell written to a register: a snapshot's buffer is one of the halves that the device writes. -/
def ring (src : MbxSrc) (s : State) : State :=
  let b := mbxBase src
  ringBuf src (halfAt s (rfGet s (b + 4) + 2 ^ 32 * rfGet s (b + 8))) s

/-- A master writes a command with its arguments and rings the doorbell. -/
def command (src : MbxSrc) (code flags : Nat) (args : List Nat) (s : State) : State :=
  if setReachable s src then ringBuf src none (writeSet (mbxBase src) code flags args s) else s

/-! ### The commands of the table -/

/-- NOP_COMMAND. -/
def execNopCommand (src : MbxSrc) (s : State) : Res := .next (command src 0x00 0 [] s)

/-- SURVEY_LOAD (R361). -/
def execSurveyLoad (src : MbxSrc) (addr len : Nat) (flash : Bool) (s : State) : Res :=
  .next (command src 0x10 flash.toNat [addr % 2 ^ 32, addr / 2 ^ 32, len] s)

/-- SURVEY_AMEND (R356). -/
def execSurveyAmend (src : MbxSrc) (addr len : Nat) (persist : Bool) (s : State) : Res :=
  .next (command src 0x11 persist.toNat [addr % 2 ^ 32, addr / 2 ^ 32, len] s)

/-- SVN_COMMIT (R351). -/
def execSvnCommit (src : MbxSrc) (s : State) : Res := .next (command src 0x12 0 [] s)

/-- KEY_WRITE (R297): the value's eight words, the first most significant. -/
def execKeyWrite (src : MbxSrc) (slot attr label : Nat) (value : List Nat) (s : State) : Res :=
  .next (command src 0x20 0 ([slot, attr, label] ++ (value ++ List.replicate 8 0).take 8) s)

/-- KEY_ERASE (R297). -/
def execKeyErase (src : MbxSrc) (slot : Nat) (s : State) : Res := .next (command src 0x21 0 [slot] s)

/-- ATTEST (R294): the nonce's eight words, and the key's slot. -/
def execAttest (src : MbxSrc) (nonce : List Nat) (slot : Nat) (s : State) : Res :=
  .next (command src 0x22 0 ((nonce ++ List.replicate 8 0).take 8 ++ [slot]) s)

/-- PRIV_DROP (R374). -/
def execPrivDrop (src : MbxSrc) (s : State) : Res := .next (command src 0x23 0 [] s)

/-- LIFECYCLE_ADVANCE (R298). -/
def execLifecycleAdvance (src : MbxSrc) (target : Nat) (s : State) : Res := .next (command src 0x24 0 [target] s)

/-- SELFTEST (R232). -/
def execSelftest (src : MbxSrc) (g : Nat) (s : State) : Res := .next (command src 0x30 0 [g] s)

/-- GALLERY_FENCE (R230). [DESIGN CHOICE, log 16] -/
def execGalleryFence (src : MbxSrc) (g : Nat) (s : State) : Res := .next (command src 0x31 0 [g] s)

/-- GALLERY_READMIT (R232). -/
def execGalleryReadmit (src : MbxSrc) (g : Nat) (s : State) : Res := .next (command src 0x32 0 [g] s)

/-- PICK_READMIT (R229). -/
def execPickReadmit (src : MbxSrc) (p : Nat) (s : State) : Res := .next (command src 0x33 0 [p] s)

/-- DIAL_CHECK (R113). -/
def execDialCheck (src : MbxSrc) (s : State) : Res := .next (command src 0x34 0 [] s)

/-- SNAPSHOT_SAVE (R340). -/
def execSnapshotSave (src : MbxSrc) (s : State) : Res := .next (command src 0x40 0 [] s)

/-- SNAPSHOT_RESTORE (R341): `buf` is the snapshot that the buffer holds. -/
def execSnapshotRestore (src : MbxSrc) (addr len : Nat) (buf : Option Snap) (s : State) : Res :=
  .next (if setReachable s src then
      ringBuf src buf (writeSet (mbxBase src) 0x41 0 [addr % 2 ^ 32, addr / 2 ^ 32, len] s)
    else s)

/-- FAULT_ACK (R386). [DESIGN CHOICE, log 16] -/
def execFaultAck (src : MbxSrc) (id all : Nat) (s : State) : Res := .next (command src 0x50 0 [id, all] s)

/-- DEVICE_RESET (R415). -/
def execDeviceReset (src : MbxSrc) (magic : Nat) (s : State) : Res := .next (command src 0x60 0 [magic] s)

/-- PCIE_RESET (R415). -/
def execPcieReset (src : MbxSrc) (s : State) : Res := .next (command src 0x61 0 [] s)

/-- UNKNOWN_COMMAND (R373): a code of the table runs as that command. -/
def execUnknownCommand (src : MbxSrc) (code : Nat) (s : State) : Res := .next (command src code 0 [] s)

/-- SNAPSHOT_SAVE_DONE (R340). -/
def execSnapshotSaveDone (ok : Bool) (s : State) : Res :=
  match s.haul.snap.save with
  | none => .next s
  | some v =>
    let good := ok && (snapKey s).isSome && (v.forSpi || canWriteHost s)
    let u := saveDone ok s
    .next (if v.mailbox then settle (if good then 0 else 4) u else u)

/-! ### The end of a command (R370, R372) -/

/-- RESULT of the running command, once it can end. `ok` says whether a flash write has succeeded. -/
def endResult (r : Running) (ok : Bool) (s : State) : Option Nat :=
  match r.result with
  | some x => some x
  | none =>
    if r.code = 0x10 then
      (match s.surv.check with
        | some c => if c.accepted then some (if ok then 0 else 4) else none
        | none => none)
    else if r.code = 0x30 ∨ r.code = 0x32 then
      (match (galSt s (argOf r 0)).phase with
        | .active => some 0
        | .fenced => some 4
        | _ => none)
    else if r.code = 0x33 then
      (if (pickSt s (argOf r 0)).testing then none
       else if (pickSt s (argOf r 0)).phase = .fenced then some 4 else some 0)
    else if r.code = 0x34 then some 0
    else none

/-- The end of DIAL_CHECK (R113): a channel that has not completed by 250 ms reports stale; CHK_DONE. -/
def endDialCheck (r : Running) (s : State) : State :=
  let left := (List.range 24).filter fun n => (dialCh s n).checking.isSome
  let u := if left.isEmpty then s else elapseTo (r.startTick + 250 * ticksPerMs) s
  let v := left.foldl (fun t n => checkAbandon n (lineStale n true (lineStale n false t))) u
  irqRaise 4 0 { v with dial := { v.dial with chkRun := false } }

/-- The image of SURVEY_LOAD with FLASH set is in its slot (R361). -/
def endFlash (ok : Bool) (s : State) : State :=
  match s.surv.check with
  | none => s
  | some c =>
    let f := if ok then sput {} s.flash c.slot { image := some c.image } else s.flash
    -- an image that has been written has not been tried (R357)
    survMod (fun v => { v with
      check := none, policyLatch := [], tried := if ok then v.tried.filter (· != c.slot) else v.tried }) { s with flash := f }

/-- What the end of a command brings with it. -/
def endEffects (r : Running) (res : Nat) (ok : Bool) (s : State) : State :=
  if r.code = 0x24 ∧ res = 0 then lifecycleErase s
  else if r.code = 0x34 ∧ res = 0 then endDialCheck r s
  else if r.code = 0x10 ∧ r.result.isNone then endFlash ok s
  else if r.code = 0x41 then snapMod (fun z => { z with restoring := false }) s
  else s

/-- Duration in us, rounded up. -/
def elapsedUs (r : Running) (s : State) : Nat := ceilDiv ((s.clk.ticks - r.startTick) * 16) 25000

/-- OUT registers of a set. -/
def outMap (l : List Nat) : Sparse Nat := ((List.range 16).zip l).foldl (fun m e => sput 0 m e.1 (e.2 % 2 ^ 32)) []

/-- The running command ends with a result. [DESIGN CHOICE, log 15] -/
def endCommand (r : Running) (res : Nat) (ok : Bool) (s : State) : State :=
  let t := if r.exact4us then elapseTo (r.startTick + 6250) s else s
  let u := endEffects r res ok t
  let v := { u with mbx := { u.mbx with running := none } }
  if r.discard then irqRaise 0 3 v
  else
    let w := setMod r.src (fun m => { m with elapsed := elapsedUs r v, outs := outMap (if res = 0 then r.outs else []) }) v
    let x := setDone r.src res r.code w
    match r.src with
    | .pf => wakeSet 0 x
    | .spi => x

/-- MAILBOX_COMMAND_END (R370): the running command ends, once it can; `ok` says whether its flash write succeeded. -/
def execMailboxCommandEnd (ok : Bool) (s : State) : Res :=
  match s.mbx.running with
  | none => .next s
  | some r => match endResult r ok s with
    | none => .next s
    | some res => .next (endCommand r res ok s)

/-! ### VF sets (R375) -/

/-- A VF's set. -/
def vfSet (s : State) (v : Nat) : VfSet := sget {} s.mbx.vf v

/-- Changes a VF's set, with its completion vector (R369). -/
def vfMod (v : Nat) (f : VfSet → VfSet) (s : State) : State :=
  vectorEdge s (64 + 4 * v) { s with mbx := { s.mbx with vf := smod {} s.mbx.vf v f } }

/-- A VF's doorbell. -/
def vfRing (v : Nat) (s : State) : State :=
  if s.power.phase != .running || s.pcie.inReset then s
  else
    let code := rfField s (vfMbxBase v) 7 0
    match (vfSet s v).running with
    | some _ => vfMod v (fun x => { x with set := { x.set with done := true, result := 1, doneCode := code } }) s
    | none => vfMod v (fun x => { x with
        running := some (code, s.clk.ticks), set := { x.set with tag := (x.set.tag + 1) % 256 } }) s

/-- VF_MAILBOX_COMMAND (R375). -/
def execVfMailboxCommand (v : SeamNo) (code : Nat) (s : State) : Res :=
  .next (vfRing v (rfSet (vfMbxBase v) (setBits 7 0 code (rfGet s (vfMbxBase v))) s))

/-- VF_MAILBOX_ANSWER (R375): exactly 4 us after the doorbell. -/
def execVfMailboxAnswer (v : SeamNo) (s : State) : Res :=
  match (vfSet s v).running with
  | none => .next s
  | some (code, t) =>
    .next (vfMod v (fun x => { x with
        running := none
        set := { x.set with done := true, result := if code = 0 then 0 else 2, doneCode := code, elapsed := 4 } })
      (elapseTo (t + 6250) s))

end Sys2Proof.Machine
end

