-- ==== Sys2Proof/Machine/Weigh.lean ====
section
/-! DEFINITION. The Weighbridge: occupancies, commits, snapshots and the reading of its counters (R403 to R408). -/

namespace Sys2Proof.Machine

/-- Base address of the Weighbridge's registers. -/
def wbrBase : Nat := 0x01F00000

/-- Changes the Weighbridge. -/
def wbrMod (f : WbrSt → WbrSt) (s : State) : State := { s with wbr := f s.wbr }

/-! ### Occupancies (R405, R406) -/

/-- Number of requests that satisfy a condition. -/
def countReqs (s : State) (p : ShReq → Bool) : Nat := (s.shaft.reqs.filter p).length

/-- The occupancy `code` of instance `i`. [DESIGN CHOICE, log 37] -/
def occupancyAt (s : State) (code i : Nat) : Nat :=
  if code = 0x20 then (galSt s i).qRx.length
  else if code = 0x21 then ((picksOf i).filter fun p => busyPick (pickSt s p)).length
  else if code = 0x22 then countReqs s fun r => r.gal == i && r.kind == .crypto && !r.denied && r.lane.isNone
  else if code = 0x23 then (galSt s i).qCtrl.length
  else if code = 0x24 then countReqs s fun r => (r.kind == .get || r.kind == .put) && r.addr.isSome && !r.denied
  else if code = 0x25 then
    min (sumNat (((portSt s i).tx.filter fun x => !x.dead && !x.vacant).map fun x => x.bytes.length - x.arrived)) 16384
  else if code = 0x26 then
    ceilDiv (gateLevel s i) accessUnit
  else (laneBound s i).toNat

/-- Instances of an occupancy's scope. -/
def occupancyScope (code : Nat) : Nat :=
  if code = 0x24 then 1 else if code = 0x25 then 64 else if code = 0x26 then 4 else 16

/-- The occupancy that a selection asks for, the sum over its scope with ALL. -/
def occupancySel (s : State) (sel : Nat) : Nat :=
  if evtAll sel then sumNat ((List.range (occupancyScope (evtEvent sel))).map (occupancyAt s (evtEvent sel)))
  else occupancyAt s (evtEvent sel) (if evtEvent sel = 0x24 then 0 else evtIndex sel)

/-- An event counter at a sample. -/
def evtSample (s : State) (e : EvtSt) : EvtSt :=
  if !isOccupancy (evtEvent e.sel) then e
  else
    let o := occupancySel s e.sel
    let hi := decide (evtT e.sel ≤ o)
    let n := match evtMode e.sel with
      | 0 => o
      | 1 => o
      | 2 => hi.toNat
      | _ => (hi && !e.above).toNat
    { e with count := (e.count + n) % 2 ^ 64, above := hi }

/-- Address of an event counter's selection. -/
def evtSelAddr (n : Nat) : Nat := wbrBase + 0x100 + 0x20 * n

/-- The shadows come into force: a counter whose selection changes is set to 0 (R407). -/
def commitEvts (s : State) : Sparse EvtSt :=
  (List.range 16).foldl (fun m n =>
    let v := rfGet s (evtSelAddr n)
    if (sget {} m n).sel = v then m else sput {} m n { sel := v }) s.wbr.evts

/-- The sample of an instant, then the shadows that a commit brings into force at this boundary. -/
def occupancySample (s : State) : State :=
  let evts := (List.range 16).foldl (fun m n => sput {} m n (evtSample s (sget {} m n))) s.wbr.evts
  let u := wbrMod (fun w => { w with evts := evts, samples := (w.samples + 1) % 2 ^ 64 }) s
  if u.wbr.commit then wbrMod (fun w => { w with evts := commitEvts u, commit := false }) u else u

/-- OCCUPANCY_SAMPLE (R406): every 16 ticks of the TBPLL; none while COARSE is 1. -/
def execOccupancySample (s : State) : Res :=
  .next (if s.lode.coarse then s else occupancySample (elapseTo (nextMultiple 16 s) s))

/-- WBR_COMMIT (R407): a write of `v`; bit 0 schedules the commit. -/
def execWbrCommit (v : Nat) (s : State) : Res :=
  .next (if bitAt v 0 then wbrMod (fun w => { w with commit := true }) s else s)

/-! ### Snapshots (R408) -/

/-- RETIRED, WASTED, OPEN, BACK, FRONT and FENCED of a pick (R404). -/
def tdPick (p : PickSt) : List Nat := [p.retired, p.wasted, p.steps, p.back, p.front, p.fencedSlots]

/-- The sums over a gallery's picks. -/
def tdGal (s : State) (g : Nat) : List Nat :=
  (List.range 6).map fun j => sumNat ((picksOf g).map fun p => ((tdPick (pickSt s p))[j]?).getD 0) % 2 ^ 64

/-- WBR_SNAP_GAL: bit 2g FENCED, bit 2g + 1 not ACTIVE. -/
def galWord (s : State) : Nat :=
  sumNat ((List.range 16).map fun g =>
    (if (galSt s g).phase = .fenced then 2 ^ (2 * g) else 0) + (if (galSt s g).phase = .active then 0 else 2 ^ (2 * g + 1)))

/-- A capture at the present instant; `t` is t_s in 2^-16 ns. -/
def wbrCapture (t : Nat) (s : State) : State :=
  let c : WbrSnap := {
    samples := s.wbr.samples
    evts := (List.range 16).map fun n => (sget {} s.wbr.evts n).count
    td := (List.range 16).map (tdGal s)
    gal := galWord s, level := deviceLevel s, time := t, coarse := s.lode.coarse }
  wbrMod (fun w => { w with snap := c, seq := (w.seq + 1) % 2 ^ 32 }) s

/-- WBR_SNAPSHOT_ARM (R408): a write `v` of WBR_SNAP_SEC_HI; GO arms the assembled instant, or is refused as too late. -/
def execWbrSnapshotArm (v : Nat) (s : State) : Res :=
  if !bitAt v 31 then .next s
  else
    let t := (s.wbr.asmSecLo + 2 ^ 32 * (v % 65536)) * oneSec + s.wbr.asmNs * 65536
    .next (if t < nowFu s + fuOfNs 1000 then rfBump (wbrBase + 8) 31 24 1 s
      else wbrMod (fun w => { w with oneShot := some t }) s)

/-- Period of the periodic snapshots in 2^-16 ns; 0 off. -/
def wbrPeriod (s : State) : Nat := rfField s (wbrBase + 8) 16 0 * fuOfNs 1000000

/-- WBR_SNAPSHOT_CAPTURE (R408): the one-shot instant, or the next periodic one; one capture where they coincide. -/
def execWbrSnapshotCapture (periodic : Bool) (s : State) : Res :=
  if periodic then
    (if wbrPeriod s = 0 then .next s
     else
      let t := (nowFu s / wbrPeriod s + 1) * wbrPeriod s
      let u := wbrCapture t (elapseTo (tickOfLode t s) s)
      .next (wbrMod (fun w => { w with
        oneShot := if w.oneShot = some t then none else w.oneShot }) u))
  else
    match s.wbr.oneShot with
    | none => .next s
    | some t =>
      let u := wbrCapture t (elapseTo (tickOfLode t s) s)
      .next (wbrMod (fun w => { w with oneShot := none }) u)

/-! ### Reading counters (R403) -/

/-- The 64-bit counter whose LO word lies at offset `x` of the block. -/
def wbrCounter (s : State) (x : Nat) : Option Nat :=
  if x = 0x20 then some s.wbr.samples
  else if x = 0x28 then some s.wbr.snap.samples
  else if 0x100 ≤ x ∧ x < 0x300 ∧ x % 0x20 = 8 then some (sget {} s.wbr.evts ((x - 0x100) / 0x20)).count
  else if 0x100 ≤ x ∧ x < 0x300 ∧ x % 0x20 = 0x10 then some ((s.wbr.snap.evts[(x - 0x100) / 0x20]?).getD 0)
  else if 0x1000 ≤ x ∧ x < 0x2000 ∧ x % 8 = 0 ∧ x % 0x100 < 0x30 then
    some (((tdGal s ((x - 0x1000) / 0x100))[x % 0x100 / 8]?).getD 0)
  else if 0x1000 ≤ x ∧ x < 0x2000 ∧ x % 8 = 0 ∧ 0x40 ≤ x % 0x100 ∧ x % 0x100 < 0x70 then
    some ((((s.wbr.snap.td[(x - 0x1000) / 0x100]?).getD [])[(x % 0x100 - 0x40) / 8]?).getD 0)
  else if 0x2008 ≤ x ∧ x < 0x2038 ∧ x % 8 = 0 then
    some (((tdPick (pickSt s (rfField s (wbrBase + 0x2000) 8 0)))[(x - 0x2008) / 8]?).getD 0)
  else none

/-- WBR_COUNTER_READ (R403): a read of the LO word at `addr` latches the HI word. -/
def execWbrCounterRead (addr : Nat) (s : State) : Res :=
  if addr < wbrBase then .next s
  else match wbrCounter s (addr - wbrBase) with
    | none => .next s
    | some v =>
      let u := wbrMod (fun w => { w with hiLatch := sput 0 w.hiLatch (addr + 4) (v / 2 ^ 32 % 2 ^ 32) }) s
      .next { u with pcie := { u.pcie with readData := v % 2 ^ 32 } }

end Sys2Proof.Machine
end

