-- ==== Sys2Proof/Machine/RegsTime.lean ====
section
/-! DEFINITION. What the read-only fields of the LODE, ASSAY, DIAL, DAYLIGHT and TALLY registers show (chapters 3 to 7). Each view takes the offset inside its block and answers 0 where the block lists nothing; the stored fields are added by `readReg`. -/

namespace Sys2Proof.Machine

/-! ### Packing -/

/-- A register word from its fields: (value, width, lowest bit). -/
def pack (l : List (Nat × Nat × Nat)) : Nat := sumNat (l.map fun e => e.1 % 2 ^ e.2.1 * 2 ^ e.2.2)

/-- A value that saturates at the largest of `n` bits. -/
def satBits (n v : Nat) : Nat := min v (2 ^ n - 1)

/-- A signed 32-bit field that saturates at ±(2^31 - 1). -/
def signed32 (x : Int) : Nat := twosComp 32 (satSigned 32 x)

/-- A signed offset in 2^-16 ns as a field in units of 2^-8 ns, truncated toward zero. -/
def signed8 (x : Int) : Nat := signed32 (truncDiv x 256)

/-- An unsigned time in 2^-16 ns as a field in units of 2^-8 ns, rounded up and saturating. -/
def unsigned8 (x : Nat) : Nat := satBits 32 (ceilDiv x 256)

/-- A fractional frequency in 2^-64 as a signed field in units of 2^-44, truncated toward zero. -/
def signed44 (x : Int) : Nat := signed32 (truncDiv x (2 ^ 20))

/-- The time left until tick `due`, in units of `per` ticks, rounded up. -/
def ticksLeft (s : State) (due per : Nat) : Nat := ceilDiv (due - s.clk.ticks) per

/-- Whole seconds of an elapsed tick count. -/
def wholeSecs (n : Nat) : Nat := n / ticksPerSec

/-! ### LODE -/

/-- LODE_STATE (R60). -/
def lodeStateReg (s : State) : Nat :=
  pack [(s.lode.state.code, 3, 0), (s.lode.coarse.toNat, 1, 3), (s.lode.tbpllLock.toNat, 1, 4), (s.lode.loOk.toNat, 1, 5),
    (s.lode.svc.toNat, 1, 6), (s.lode.ageValid.toNat, 1, 7), (s.lode.selRef, 6, 8), (s.lode.fwRef, 6, 14), (s.lode.fwClass, 6, 20)]

/-- LODE_PULL_REM: r in 2^-8 ns, rounded away from zero. -/
def pullRemReg (s : State) : Nat :=
  let r := rNow s
  let m : Int := ceilDiv r.natAbs 256
  signed32 (if r < 0 then -m else m)

/-- LODE_HOLD_TIME: t_h in whole seconds while in HOLDOVER (R70). -/
def holdTimeReg (s : State) : Nat :=
  if s.lode.state = .holdover then
    match s.lode.goodTick with
    | some t => satBits 32 (wholeSecs (s.clk.ticks - t))
    | none => 0
  else 0

/-- LODE_FREQ_OFS: the increment relative to nominal in 2^-44, truncated toward zero. -/
def freqOfsReg (s : State) : Nat := signed32 (truncDiv (((s.clk.inc : Int) - nominalInc) * 2 ^ 44) nominalInc)

/-- The LODE block at offset `o`. [DESIGN CHOICE, log 22] -/
def lodeView (s : State) (o : Nat) : Nat :=
  match o with
  | 0x00 => lodeStateReg s
  | 0x14 => fracOf s.lode.latchTime
  | 0x18 => nsOf s.lode.latchTime
  | 0x1C => secOf s.lode.latchTime % 2 ^ 32
  | 0x20 => pack [(secOf s.lode.latchTime / 2 ^ 32, 16, 0), (s.lode.latchCoarse.toNat, 1, 31)]
  | 0x30 => s.lode.latchInc % 2 ^ 32
  | 0x34 => s.lode.latchInc / 2 ^ 32 % 2 ^ 32
  | 0x38 => freqOfsReg s
  | 0x3C => signed8 s.lode.phaseErr
  | 0x40 => pullRemReg s
  | 0x44 => holdTimeReg s
  | 0x48 => signed32 s.lode.ageRate
  | 0x4C => satBits 20 s.lode.fitN
  | 0x50 => s.lode.servoFn % 2 ^ 24
  | 0x54 => s.lode.servoDamp % 2 ^ 7
  | 0x58 => s.lode.pullSlope % 2 ^ 20
  | 0x64 => s.lode.realignErr % 2 ^ 32
  | _ => 0

/-! ### ASSAY -/

/-- ASSAY_SEL. -/
def assaySelReg (s : State) : Nat :=
  let none' := (timeList s).all fun p => !isQualified s p.2.id
  pack [(s.assay.selRef, 6, 0), (s.assay.selPos, 3, 6), (none'.toNat, 1, 9), (s.cfg.refs.flywheel.getD 63, 6, 10),
    (s.assay.fwOk.toNat, 1, 16), ((yRaised s).toNat, 1, 17), ((aRaised s).toNat, 1, 18), (s.assay.refSeq, 13, 19)]

/-- A byte of ASSAY_LIST: ID, REVERT and VALID of a position. -/
def listByte (s : State) (i : Nat) : Nat :=
  match (timeList s).find? fun p => p.1 == i with
  | some p => pack [(p.2.id, 6, 0), (p.2.revertive.toNat, 1, 6), (1, 1, 7)]
  | none => 0

/-- Four positions of ASSAY_LIST from `i`. -/
def listWord (s : State) (i : Nat) : Nat := pack ((List.range 4).map fun k => (listByte s (i + k), 8, 8 * k))

/-- The remaining soak, hold-off or wait-to-restore time of a reference in units of 100 ms. -/
def refTimer (s : State) (n : Nat) : Nat :=
  let left := fun due => satBits 16 (ticksLeft s due (100 * ticksPerMs))
  match (refSt s n).q with
  | .soak => left (soakDue s n)
  | .holdoff => left (holdoffDue s n)
  | .qualified => left (wtrDue s n)
  | _ => 0

/-- ASSAY_REF_STATE (R85). -/
def refStateReg (s : State) (n : Nat) : Nat :=
  let r := refSt s n
  let e := refRec s n
  if r.q = .disabled ∨ refOff s n = true then 0
  else pack [(r.q.code, 3, 0), ((!e.isTime).toNat, 1, 3), (r.active.toNat, 1, 4), ((freqInside r e.fRej true).toNat, 1, 5),
    (r.consRej.toNat, 1, 6), ((srcCheck s n).2.toNat, 1, 7), ((inAccept s n).toNat, 1, 8),
    ((isUsable s n && wtrExpired s n).toNat, 1, 9), (refTimer s n, 16, 16)]

/-- The registers of reference `n` at offset `o`. -/
def refView (s : State) (n o : Nat) : Nat :=
  let r := refSt s n
  match o with
  | 0x00 => refStateReg s n
  | 0x04 => signed44 (r.freq.getD 0)
  | 0x08 => if (refRec s n).isTime then signed8 r.lastE else 0
  | 0x0C => unsigned8 r.cons
  | 0x10 => secOf r.goodTime % 2 ^ 32
  | 0x1C => pack [(if 8 ≤ n ∧ n < 12 then r.ql else 0, 4, 0), (if 12 ≤ n ∧ n < 16 then r.ptpClass else 0, 8, 8)]
  | _ => 0

/-- The ASSAY block at offset `o`. -/
def assayView (s : State) (o : Nat) : Nat :=
  match o with
  | 0x00 => assaySelReg s
  | 0x04 => listWord s 0
  | 0x08 => listWord s 4
  | 0x20 => yInForce s
  | 0x24 => aInForce s
  | _ => if 0x1000 ≤ o ∧ o < 0x1840 then refView s ((o - 0x1000) / 0x40) (o % 0x40) else 0

/-! ### DIAL -/

/-- DIAL_CH_CHK (R110 to R112). -/
def dialChkReg (s : State) (n : Nat) : Nat :=
  let c := dialCh s n
  -- 2^-16 ps to 1/16 ps
  let up := fun x => satBits 12 (ceilDiv x 4096)
  pack [(up (max c.drift0 c.drift1), 12, 0), (up c.excess, 12, 12), ((c.stale0 || c.stale1).toNat, 1, 24),
    (satBits 7 (wholeSecs (s.clk.ticks - min (lastCheck s n false) (lastCheck s n true))), 7, 25)]

/-- The registers of channel `n` at offset `o`: on REF and MON channels the values that the Foreman sets (R99, R102). -/
def dialChView (s : State) (n o : Nat) : Nat :=
  let res := fun (k : Nat) => dialResWord (dialCh s n).latched (dialCh s n).latchedNew k
  let fixed := decide ((dialCfg s n).role = 1 ∨ (dialCfg s n).role = 2)
  match o with
  | 0x00 => pack [((dialCfg s n).source, 5, 0), ((dialCfg s n).role, 2, 5)]
  | 0x04 => if fixed then dialPresc s n % 2 ^ 25 else 0
  | 0x08 => if fixed then dialGateMs s n % 2 ^ 17 else 0
  | 0x0C => if fixed then (dialNom s n).1 / (dialNom s n).2 % 2 ^ 32 else 0
  | 0x20 => res 0
  | 0x24 => res 1
  | 0x28 => res 2
  | 0x2C => res 3
  | 0x30 => dialChkReg s n
  | _ => 0

/-- The DIAL block at offset `o`. -/
def dialView (s : State) (o : Nat) : Nat :=
  match o with
  | 0x00 => pack [(twosComp 8 s.dial.temp, 8, 0), (s.dial.chkRun.toNat, 1, 8)]
  | 0x04 => sumNat ((List.range 24).map fun n => if s.otp.dialBad.contains n then 2 ^ n else 0)
  | _ => if 0x1000 ≤ o ∧ o < 0x1600 then dialChView s ((o - 0x1000) / 0x40) (o % 0x40) else 0

/-! ### DAYLIGHT -/

/-- DAYL_STATUS. -/
def daylStatusReg (s : State) : Nat :=
  let run := antUsed s 0 || antUsed s 1
  let burst := (antSt s 0).burst || (antSt s 1).burst
  pack [(run.toNat, 1, 0), (burst.toNat, 1, 1), (aidLevel s, 2, 2), ((orbitOk s).toNat, 1, 4), (s.assay.fwOk.toNat, 1, 5),
    (s.dayl.geomOn.toNat, 1, 6), ((s.dayl.chans.filter fun e => e.2.state != 0).length, 9, 16)]

/-- DAYL_ANT_STATUS. -/
def antStatusReg (s : State) (a : Nat) : Nat :=
  let x := antSt s a
  pack [(x.valid.toNat, 1, 0), ((x.valid && x.dual.getD false).toNat, 1, 1), (x.alarm.toNat, 1, 2), (x.intf1.toNat, 1, 3),
    (x.intf2.toNat, 1, 4), (x.sysExcl, 3, 5), (x.used, 8, 8), (x.trk, 8, 16)]

/-- DAYL_ANT_ALARM (R132). -/
def antAlarmReg (s : State) (a : Nat) : Nat :=
  let x := antSt s a
  let left := if x.alarm then satBits 16 (ticksLeft s (x.lastFail + (antCfg s a).clearS * ticksPerSec) ticksPerSec) else 0
  pack [(x.causes, 7, 0), (left, 16, 16)]

/-- The solution and survey registers of antenna `a`. -/
def solView (s : State) (a o : Nat) : Nat :=
  let x := antSt s a
  match o with
  | 0x00 => twosComp 64 x.latch.e % 2 ^ 32
  | 0x04 => twosComp 64 x.latch.e / 2 ^ 32
  | 0x08 => unsigned8 x.latch.sigma
  | 0x0C => unsigned8 x.latch.cd
  | 0x10 => signed44 x.latch.rate
  | 0x14 => x.latch.sec % 2 ^ 32
  | _ => 0

/-- The DAYLIGHT block at offset `o`. -/
def daylView (s : State) (o : Nat) : Nat :=
  if o = 0 then daylStatusReg s
  else if 0x10 ≤ o ∧ o < 0x30 then
    let a := (o - 0x10) / 0x10
    match o % 0x10 with
    | 0x0 => antStatusReg s a
    | 0x4 => antAlarmReg s a
    | 0x8 => pack [((antSt s a).mag1, 16, 0), ((antSt s a).mag2, 16, 16)]
    | _ => 0
  else if 0x200 ≤ o ∧ o < 0x240 then solView s ((o - 0x200) / 0x20) (o % 0x20)
  else if 0x300 ≤ o ∧ o < 0x320 then
    let x := antSt s ((o - 0x300) / 0x10)
    match o % 0x10 with
    | 0x0 => signed32 x.survX
    | 0x4 => signed32 x.survY
    | 0x8 => signed32 x.survZ
    | 0xC => pack [(satBits 16 x.survSigma, 16, 0), (min x.survHours 24, 7, 16)]
    | _ => 0
  else if 0x1000 ≤ o ∧ o < 0x1600 ∧ o % 4 = 0 then
    let c := sget {} s.dayl.chans ((o - 0x1000) / 4)
    pack [(c.state, 3, 0), (c.ant, 1, 3), (c.signal, 4, 4), (c.sv, 8, 8), (c.cn0, 8, 16)]
  else 0

/-! ### TALLY -/

/-- TALLY_STATUS. -/
def tallyStatusReg (s : State) : Nat :=
  pack [(s.tally.epoch, 8, 0), (flagsAt s (nowFu s) false, 8, 8), ((unboundedNow s).toNat, 1, 16), (s.tally.split.toNat, 1, 17),
    ((decide (s.lode.ec ≠ 0)).toNat, 1, 18), (s.tally.hold.toNat, 1, 19)]

/-- TALLY_SEAM_LIMIT and TALLY_SEAM_STATE of a seam (R151). -/
def tallySeamView (s : State) (n o : Nat) : Nat :=
  match o with
  | 0x0 => if (seamRec s n).configured then (seamRec s n).limit % 2 ^ 32 else 0
  | 0x4 =>
    let left := match resumeDue s n with
      | some t => satBits 16 (ticksLeft s t (10 * ticksPerMs))
      | none => if (seamGate s n).stopped && (seamRec s n).configured then satBits 16 (ceilDiv (seamRec s n).resumeMs 10) else 0
    pack [((seamGate s n).stopped.toNat, 1, 0), (left, 16, 16)]
  | _ => 0

/-- The TALLY block at offset `o`. -/
def tallyView (s : State) (o : Nat) : Nat :=
  let l := s.tally.latch
  match o with
  | 0x00 => tallyStatusReg s
  | 0x08 => l.bound
  | 0x0C => l.boundHaul
  | 0x10 => pack [(l.growth, 16, 0), (l.hop, 8, 16)]
  | 0x14 => l.trace
  | 0x18 => l.origin
  | 0x1C => l.lastGood
  | _ =>
    if 0x40 ≤ o ∧ o < 0x70 then sget 0xFFFFFFFF l.terms o
    else if 0x1000 ≤ o ∧ o < 0x1100 then tallySeamView s ((o - 0x1000) / 0x10) (o % 0x10) else 0

end Sys2Proof.Machine
end

