-- ==== Sys2Proof/Machine/RegsData.lean ====
section
/-! DEFINITION. What the read-only fields of the OUTS, PORT, GAL, SHAFT, session, CRYPTO, PK, MAG, seam and HAUL registers show (chapters 8, 9, 11, 13 to 16). -/

namespace Sys2Proof.Machine

/-! ### OUTS -/

/-- A group holds: a synthesiser that drives a member is held (R160). -/
def groupHeld (s : State) (g : Nat) : Bool := (groupMembers s g).any fun m => (synSt s (m / 2)).hold

/-- OUTS_STATUS. -/
def outsStatusReg (s : State) : Nat :=
  let bits := fun (n : Nat) (f : Nat → Bool) => sumNat ((List.range n).map fun k => (f k).toNat * 2 ^ k)
  pack [(bits 8 fun m => (outSt s m).state == .aligned, 8, 0), (bits 8 fun m => (outCfg s m).en, 8, 8),
    (bits 4 fun g => groupAligned s (g + 1), 4, 16), (bits 4 fun g => groupHeld s (g + 1), 4, 20)]

/-- The registers of synthesiser `n` (R155, R159). -/
def synView (s : State) (n o : Nat) : Nat :=
  let c := synCfg s n
  let y := synSt s n
  let used := decide (c.fVco ≠ 0)
  match o with
  | 0x00 => pack [(c.fVco / 2 ^ 32, 2, 0), ((used && s.lode.loOk).toNat, 1, 2), (c.char.toNat, 1, 3)]
  | 0x04 => c.fVco % 2 ^ 32
  | 0x08 => if used then synN s n % 2 ^ 32 else 0
  | 0x0C => if used then synN s n / 2 ^ 32 % 2 ^ 24 else 0
  | 0x10 => if used then synN s n / 2 ^ 56 % 2 ^ 12 else 0
  | 0x24 => pack [(y.run.toNat, 1, 0), (y.hold.toNat, 1, 1), (y.half.toNat, 1, 2), (y.nextReady.toNat, 1, 3),
      (y.refused.toNat, 1, 4), (y.seg, 14, 16)]
  | 0x28 => signed44 y.yr
  | _ => 0

/-- The registers of output `m` (R156, R161 to R166). -/
def outView (s : State) (m o : Nat) : Nat :=
  let c := outCfg s m
  let paired := s.cfg.outs.todout.any fun t => t.2.baud != 0 && t.2.out == m
  if !c.en then 0 else
  match o with
  | 0x00 => pack [(1, 1, 0), (c.std, 2, 1), (c.pulse.toNat, 1, 3), (c.group, 3, 4), (c.align, 2, 7), (c.snapCh, 5, 9),
      (paired.toNat, 1, 14), (c.pol.toNat, 1, 15)]
  | 0x04 => c.div % 2 ^ 25
  | 0x08 => pack [((outSt s m).state.code, 3, 0), ((decide (c.group ≠ 0) && groupHeld s c.group).toNat, 1, 3)]
  | 0x0C => signed32 (truncDiv (outSt s m).phi 16000)
  | 0x10 => c.pe % 2 ^ 32
  | 0x14 => c.we % 2 ^ 32
  | 0x18 => c.oe % 2 ^ 32
  | 0x1C => twosComp 32 c.finePs
  | _ => 0

/-- The registers of a TODOUT and of a TODIN (R168 to R170). -/
def todView (s : State) (o : Nat) : Nat :=
  if o < 0x40 then
    let k := o / 0x20
    let c := sget {} s.cfg.outs.todout k
    match o % 0x20 with
    | 0x0 => if c.baud = 0 then 0 else pack [(c.baud, 20, 0), (c.out, 3, 20), (c.delayMs, 9, 23)]
    | 0x4 => (sget {} s.outs.todout k).seq % 2 ^ 16
    | _ => 0
  else if 0x100 ≤ o ∧ o < 0x140 ∧ o % 0x20 = 0 then
    let t := sget {} s.outs.todin ((o - 0x100) / 0x20)
    pack [(t.seq, 16, 0), (t.isMatch.toNat, 1, 16)]
  else 0

/-- The registers of event pin `p` (R171, R172). -/
def evView (s : State) (p o : Nat) : Nat :=
  let c := evCfg s p
  let e := evSt s p
  let fine := dialOf s 3 (0x15 + p)
  let t := (e.popped.map (·.time)).getD 0
  match o with
  | 0x00 => pack [(c.role, 2, 0), (c.edge, 2, 2), (fine.isSome.toNat, 1, 4), (fine.getD 0, 5, 5), (c.pol.toNat, 1, 10)]
  | 0x20 => if e.popped.isSome then knockWord e.popped else 0
  | 0x24 => nsOf t
  | 0x28 => secOf t % 2 ^ 32
  | 0x2C => secOf t / 2 ^ 32
  | 0x30 => pack [(e.knocks.length, 5, 0), (e.bells.length, 3, 5)]
  | _ => 0

/-- The OUTS block at offset `o`. -/
def outsView (s : State) (o : Nat) : Nat :=
  if o = 0 then outsStatusReg s
  else if 0x1000 ≤ o ∧ o < 0x1400 then synView s ((o - 0x1000) / 0x100) (o % 0x100)
  else if 0x2000 ≤ o ∧ o < 0x2200 then outView s ((o - 0x2000) / 0x40) (o % 0x40)
  else if 0x3000 ≤ o ∧ o < 0x3200 then todView s (o - 0x3000)
  else if 0x4000 ≤ o ∧ o < 0x4200 then evView s ((o - 0x4000) / 0x40) (o % 0x40)
  else 0

/-! ### PORT -/

/-- PORT_CFG. -/
def portCfgReg (s : State) (p : Nat) : Nat :=
  let c := portCfg s p
  let r := portSync s p
  let ptp := s.cfg.refs.refs.any fun e => e.port == some p && decide (12 ≤ e.id ∧ e.id < 16)
  if !portEn s p then 0
  else pack [(1, 1, 0), (c.speed, 2, 1), (c.fec, 2, 3), (c.pmd, 2, 5), (c.synceTx.toNat, 1, 7), (r.isSome.toNat, 1, 8),
    ((r.map (· - 8)).getD 0, 2, 9), (ptp.toNat, 1, 11)]

/-- PORT_SSM (R195). -/
def portSsmReg (s : State) (p : Nat) : Nat :=
  let own := match portSync s p with
    | some n => s.cfg.refs.flywheel == some n
    | none => false
  pack [(txQl s p, 4, 0), ((s.cfg.str.ssmOption == 2).toNat, 1, 4), ((own && !s.lode.coarse && decide (s.lode.state ≠ .invalid ∧ s.lode.state ≠ .free)).toNat, 1, 5)]

/-- TRAIN of a port (R175): a KR or CR port that is not down trains until it has ended. -/
def portTrain (s : State) (p : Nat) : Nat :=
  if (portSt s p).train = 0 ∧ portEn s p = true ∧ portDown s p = false ∧ (portCfg s p).pmd ≠ 2 then 1 else (portSt s p).train

/-- The registers of client port `p`. [DESIGN CHOICE, log 22] -/
def portView (s : State) (p o : Nat) : Nat :=
  let c := portCfg s p
  let q := portSt s p
  let en := portEn s p
  match o with
  | 0x00 => portCfgReg s p
  | 0x04 => pack [(q.link.toNat, 1, 0), (q.blockLock.toNat, 1, 1), (q.amLock.toNat, 1, 2), (q.fecLock.toNat, 1, 3),
      (q.hiBer.toNat, 1, 4), (q.localFault.toNat, 1, 5), (q.remoteFault.toNat, 1, 6), (portTrain s p, 2, 7), (q.tsValid.toNat, 1, 9),
      ((en && (portSync s p).isSome && squelched s p).toNat, 1, 10)]
  | 0x08 => (portDown s p).toNat
  | 0x10 => if en then portCin s p % 2 ^ 32 else 0
  | 0x14 => if en then portCout s p % 2 ^ 32 else 0
  | 0x18 => if en then twosComp 32 c.aP else 0
  | 0x1C => if en then pack [(sget 500 s.cfg.str.uPort p, 16, 0), (c.uA, 16, 16)] else 0
  | 0x20 => pack [(theta s p, 16, 0), (thetaMin s p, 16, 16)]
  | 0x24 => portSsmReg s p
  | _ => 0

/-! ### GAL -/

/-- GAL_CFG (R10, R231). -/
def galCfgReg (s : State) (g : Nat) : Nat :=
  if (galSt s g).phase = .off then 0
  else pack [(galSeam s g, 4, 0), ((galCfg s g).alt, 4, 4), ((galSt s g).boundTo.getD g, 4, 8), ((galSt s g).unbound.toNat, 1, 12)]

/-- GAL_PICK_STAT of a pick (R228, R229). -/
def pickStatReg (s : State) (p : Nat) : Nat :=
  let x := pickSt s p
  let st := match x.phase with
    | .idle => 0
    | .running => 1
    | .wait => 2
    | .fenced => 3
  let item := x.item.isSome.toNat
  pack [(st, 2, 0), (item * (x.item.map (·.cls)).getD 0, 4, 2), (item * x.bank, 1, 6),
    (if x.phase = .fenced then x.fenceCause else 0, 3, 7), (x.held.toNat, 1, 10)]

/-- The registers of gallery `g`. -/
def galView (s : State) (g o : Nat) : Nat :=
  let q := galSt s g
  match o with
  | 0x00 => galCfgReg s g
  | 0x04 =>
    let day := (q.fences.filter fun t => decide (s.clk.ticks < t + 86400 * ticksPerSec)).length
    pack [(q.phase.code, 3, 0), (if q.phase = .fenced then q.fenceCause else 0, 3, 3), (min day 3, 2, 6)]
  | 0x08 => pack [(q.active, 1, 0), (q.swapTick.isSome.toNat, 1, 1), ((activeBank s g).seq, 16, 16)]
  | 0x0C => sumNat ((List.range 32).map fun l => if (pickSt s (32 * g + l)).phase = .fenced then 2 ^ l else 0)
  | 0x10 => q.stepRate % 2 ^ 32
  | 0x14 => pack [(q.qRx.length, 9, 0), (q.qCtrl.length, 7, 9), (q.qInbox.length, 5, 16), (q.qTick.length, 4, 21),
      (((picksOf g).filter fun p => busyPick (pickSt s p)).length, 7, 25)]
  | 0x18 => if q.phase = .off then 0 else freeCells s g % 2 ^ 11
  | _ =>
    if 0x800 ≤ o ∧ o < 0x900 ∧ o % 4 = 0 then sget 0 q.pcnt ((o - 0x800) / 4)
    else if 0x1000 ≤ o ∧ o < 0x1200 ∧ o % 0x10 = 0 then pickStatReg s (32 * g + (o - 0x1000) / 0x10)
    else 0

/-! ### SHAFT and session -/

/-- Quadrant of a gallery or target (R258); 4 is the centre. -/
def quadrant (t : Nat) : Nat :=
  if t < 16 then t / 4 else if t < 20 then t - 16 else if t < 22 then 4 else if t < 38 then (t - 22) / 4 else (t - 38) / 16

/-- Distance class of a path (R260). -/
def pathDist (g t : Nat) : Nat :=
  let a := quadrant g
  let b := quadrant t
  if a = b then 0 else if b = 4 then 1 else if a ^^^ b = 3 then 2 else 1

/-- SHAFT_PATH. -/
def pathReg (s : State) (g t : Nat) : Nat :=
  if !s.surv.structureApplied then 0
  else
    let st := sget 0 s.cfg.str.stages (128 * g + t)
    pack [(st, 2, 0), (pathDist g t, 2, 2), ((decide (st < pathDist g t)).toNat, 1, 4)]

/-- SHAFT_QUOTA, USE0 and USE1 of a seam (R271). -/
def quotaView (s : State) (n o : Nat) : Nat :=
  let q := fun k => if (seamRec s n).configured then quotaOf s n k else 0
  match o with
  | 0x0 => pack [(q 0, 9, 0), (q 1, 9, 9), (q 2, 9, 18)]
  | 0x4 => pack [(quotaUse s n 0, 13, 0), (quotaUse s n 1, 13, 16)]
  | 0x8 => pack [(quotaUse s n 2, 13, 0), ((overQuota s n 0).toNat, 1, 16), ((overQuota s n 1).toNat, 1, 17),
      ((overQuota s n 2).toNat, 1, 18)]
  | _ => 0

/-- SESS_SEAM_* of a seam (R280, R285). -/
def sessSeamView (s : State) (n o : Nat) : Nat :=
  let c := seamRec s n
  match o with
  | 0x0 => pack [(c.recBase / 1024, 11, 0), (c.recCount / 1024, 12, 11), (c.keep.toNat, 1, 23)]
  | 0x4 => c.wayMask % 2 ^ 16
  | 0x8 => (s.sess.dir.filter fun e => e.2.valid && decide (c.recBase ≤ e.1 ∧ e.1 < c.recBase + c.recCount)).length % 2 ^ 32
  | _ => 0

/-- The SHAFT block at offset `o`, with the session registers at 0x1_0000. -/
def shaftView (s : State) (o : Nat) : Nat :=
  if 0x1000 ≤ o ∧ o < 0x2000 then
    let g := (o - 0x1000) / 0x100
    match o % 0x100 with
    | 0x0C => pack [(tokensOf s g 0, 8, 0), (tokensOf s g 1, 8, 8), (tokensOf s g 2, 8, 16)]
    | 0x18 =>
      let l := fun k => sget 0 (groupSt s k).loss g
      pack [(min (l 0) 64, 7, 0), (min (l 1) 64, 7, 8), (min (l 2) 64, 7, 16)]
    | _ => 0
  else if 0x2000 ≤ o ∧ o < 0x2100 then quotaView s ((o - 0x2000) / 0x10) (o % 0x10)
  else if 0x4000 ≤ o ∧ o < 0x6000 ∧ o % 4 = 0 ∧ o % 0x200 / 4 < 102 then pathReg s ((o - 0x4000) / 0x200) (o % 0x200 / 4)
  else if o = 0x10000 then
    pack [(s.cfg.str.sessEn.toNat, 1, 0), (s.cfg.str.sessRate, 2, 1), (s.cfg.str.sessCap, 3, 3), (s.sess.trained, 4, 6)]
  else if 0x10100 ≤ o ∧ o < 0x10200 then sessSeamView s ((o - 0x10100) / 0x10) (o % 0x10)
  else 0

/-! ### CRYPTO, PK, MAG -/

/-- The registers of lane `c` (R287 to R293). -/
def laneView (s : State) (c o : Nat) : Nat :=
  let l := laneSt s c
  let f := laneCfg s c
  let entry := fun k => match f.sched[k]? with
    | some x => if x < 16 then x + 16 else 0
    | none => 0
  if o = 0 then
    let st := if l.fenced then 2 else if l.testing then 1 else 0
    let day := (l.fails.filter fun t => decide (s.clk.ticks < t + 86400 * ticksPerSec)).length
    pack [(f.fixed.toNat, 1, 0), (st, 2, 1), (min day 3, 2, 3)]
  else if 0x10 ≤ o ∧ o < 0x20 ∧ o % 4 = 0 ∧ f.fixed = true then
    pack ((List.range 4).map fun k => (entry (o - 0x10 + k), 8, 8 * k))
  else 0

/-- MAG_ATTR0 of a slot (R295). -/
def magAttr (m : MagSlot) : Nat :=
  if !m.loaded then 0
  else pack [(m.owner, 4, 0), (m.device.toNat, 1, 4), (m.usage, 2, 5), (m.len32.toNat, 1, 7), (m.bind, 2, 8), (1, 1, 10),
    (m.isSealed.toNat, 1, 11), (m.lanes, 16, 16)]

/-- The MAG registers: `sel` is the slot that MAG_SEL names, none outside a seam's range, and `count` the loaded slots. -/
def magView (s : State) (sel : Option Nat) (count o : Nat) : Nat :=
  let m := match sel with
    | some i => magSlot s i
    | none => {}
  match o with
  | 0x4 => magAttr m
  | 0x8 => if m.loaded then m.label % 2 ^ 32 else 0
  | 0xC => count
  | _ => 0

/-- ATTEST signs on PK0 (R294). -/
def attesting (s : State) : Bool := s.mbx.running.any fun r => r.code == 0x22 && r.result == some 0

/-- The CRYPTO, PK and MAG windows at offset `o`. -/
def cryptoView (s : State) (o : Nat) : Nat :=
  if 0x1000 ≤ o ∧ o < 0x1400 then laneView s ((o - 0x1000) / 0x40) (o % 0x40)
  else if o = 0x10000 then (s.cry.pkBusy ||| (attesting s).toNat) % 4
  else if 0x20000 ≤ o ∧ o < 0x20010 then
    magView s (some (rfField s 0x01D20000 11 0)) (s.cry.mag.filter fun e => e.2.loaded).length (o - 0x20000)
  else 0

/-! ### Seams -/

/-- A port-seam pair of the seam has no gallery (R231). -/
def seamUnbound (s : State) (n : Nat) : Bool :=
  s.cfg.str.pairs.any fun p => p.seam == n && (galSt s p.home).unbound

/-- The bits of the galleries that satisfy a predicate. -/
def galBits (f : Nat → Bool) : Nat := sumNat ((List.range 16).map fun g => (f g).toNat * 2 ^ g)

/-- A seam owns a gallery that STRUCTURE uses. -/
def seamOwns (s : State) (n g : Nat) : Bool := (galCfg s g).used && galSeam s g == n

/-- The seam registers of seam `n` (R302 to R313). -/
def seamRegView (s : State) (n o : Nat) : Nat :=
  let c := seamRec s n
  match o with
  | 0x00 => pack [(n, 4, 0), (1, 1, 4), (c.fixed.toNat, 1, 5), (c.smear.toNat, 1, 6), (galBits (seamOwns s n), 16, 16)]
  | 0x04 => pack [(galBits fun g => seamOwns s n g && (galSt s g).phase == .active, 16, 0), ((seamUnbound s n).toNat, 1, 16)]
  | 0x70 => c.beta % 2 ^ 9
  | _ =>
    if o < 0x10 ∨ 0x50 ≤ o then 0
    else match c.policers[(o - 0x10) / 0x10]? with
      | none => 0
      | some q =>
        match o % 0x10 with
        | 0x0 => pack [(q.classes, 16, 0), (q.en.toNat, 1, 16)]
        | 0x4 => q.rate % 2 ^ 32
        | 0x8 => q.burst % 2 ^ 16
        | _ => 0

/-! ### HAUL -/

/-- HAUL_TWIN (R333). -/
def haulTwinReg (s : State) : Nat :=
  let t := s.haul.twin
  let sends := haulSends s && ((List.range 16).any fun k => hTx s k)
  pack [(t.state.code, 3, 0), (t.canary.toNat, 1, 3), (sends.toNat, 1, 4), (s.cfg.twin.seniority, 8, 8), (t.peerSen, 8, 16)]

/-- The registers of a haulage link (0 to 15) or twin link (16, 17). -/
def hlinkView (s : State) (k o : Nat) : Nat :=
  let h := hlink s k
  let c := linkCfg s k
  let up := h.up && unitsSend s
  let used := hTx s k || hRx s k
  if !used then 0 else
  match o with
  | 0x00 => pack [((hTx s k).toNat, 1, 0), ((hRx s k).toNat, 1, 1), (c.fec.toNat, 1, 2), (feedOf s k, 6, 3)]
  | 0x04 => pack [(h.up.toNat, 1, 0), (up.toNat, 1, 1), ((decide (h.accepted = 16)).toNat, 1, 2), ((h.keys.any fun x => h.deltaKey == some x.seq).toNat, 1, 3),
      (h.txKey, 8, 4), (h.peerKey.getD 0, 8, 12), (min h.hop 15, 4, 20)]
  | 0x08 => if h.accepted = 16 then unsigned8 h.dBar.toNat else 0
  | 0x0C => twosComp 32 c.aH
  | 0x10 => c.aLinkPs % 2 ^ 16
  | 0x14 => h.lastAccepted % 2 ^ 32
  | _ => 0

/-- The HAUL block at offset `o`. [DESIGN CHOICE, log 22] -/
def haulView (s : State) (o : Nat) : Nat :=
  let x := s.haul.snap
  match o with
  | 0x00 => pack [((s.cfg.str.role == .face).toNat, 1, 0), (s.cfg.twin.present.toNat, 1, 1), (s.cfg.haul.gallery, 4, 2),
      (s.cfg.haul.etype, 16, 16)]
  | 0x04 => s.cfg.haul.streamId % 2 ^ 32
  | 0x08 => s.cfg.haul.senderId % 2 ^ 32
  | 0x0C => slotOf (nowFu s) % 2 ^ 32
  | 0x10 => haulTwinReg s
  | 0x88 => pack [((x.save.isSome || x.restoring).toNat, 1, 0), (x.good.getD 0, 1, 1), (x.restored.toNat, 1, 2)]
  | 0x8C => x.lastSecs % 2 ^ 32
  | _ =>
    if 0x40 ≤ o ∧ o < 0x80 ∧ o % 4 = 0 then
      let f := feedSt s (16 + (o - 0x40) / 4)
      pack [(satBits 24 (ceilDiv (feedDelta f) 256), 24, 0), (f.split.toNat, 1, 31)]
    else if 0x1000 ≤ o ∧ o < 0x2000 then hlinkView s ((o - 0x1000) / 0x100) (o % 0x100)
    else if 0x2000 ≤ o ∧ o < 0x2200 then hlinkView s (16 + (o - 0x2000) / 0x100) (o % 0x100)
    else 0

end Sys2Proof.Machine
end

