-- ==== Sys2Proof/Machine/RegsHost.lean ====
section
/-! DEFINITION. The read-only fields of the GLB, Survey, FLT, CHK and WBR registers and of the MSI-X structures (chapters 17 to 21); the field masks of every register; and the read of a register by its address in PF BAR0 (R5, R6, R307, R309, R366). -/

namespace Sys2Proof.Machine

/-! ### GLB -/

/-- GLB_LIFECYCLE (R374): a change whose erasure has not ended is not shown (R298). -/
def lifecycleReg (s : State) : Nat :=
  pack [(if s.otp.erasePending then s.otp.lifecycle - 1 else s.otp.lifecycle, 2, 0), (s.power.keyPriv.toNat, 1, 2),
    (s.surv.structureApplied.toNat, 1, 3), ((s.surv.structureApplied && s.cfg.str.role == .face).toNat, 1, 4)]

/-- Interrupt sources that bit `b` of GLB_IRQ_SUM0 covers. -/
def sumSources (b : Nat) : List Nat :=
  if b < 8 then [b] else if b = 8 then (List.range 64).map (16 + ·) else if b = 9 then [8]
  else if b = 10 then (List.range 16).map (80 + ·) else if b < 18 then [b - 2] else (List.range 16).map (96 + ·)

/-- The bits `i` below `n` that satisfy a predicate. -/
def bitMap (n : Nat) (f : Nat → Bool) : Nat := sumNat ((List.range n).map fun i => (f i).toNat * 2 ^ i)

/-- MBX_STATUS of a set (R370, R373). -/
def mbxStatus (busy mine : Bool) (m : MbxSet) : Nat :=
  pack [(busy.toNat, 1, 0), (m.done.toNat, 1, 1), (mine.toNat, 1, 2), (m.result, 8, 8), (m.doneCode, 8, 16), (m.tag, 8, 24)]

/-- The read-only registers of a mailbox set at offset `o` of it. -/
def mbxView (busy mine : Bool) (m : MbxSet) (o : Nat) : Nat :=
  if o = 0x48 then mbxStatus busy mine m
  else if o = 0x4C then m.elapsed % 2 ^ 32
  else if 0x50 ≤ o ∧ o < 0x90 ∧ o % 4 = 0 then sget 0 m.outs ((o - 0x50) / 4)
  else 0

/-- A set's view with the engine's BUSY and MINE. -/
def deviceSetView (s : State) (src : MbxSrc) (o : Nat) : Nat :=
  let mine := match s.mbx.running with
    | some r => r.src == src
    | none => false
  mbxView s.mbx.running.isSome mine (setOf s src) o

/-- Sequence number in force of a record type (SURV_SEQ): for PROGRAMS the lowest over the galleries in use. -/
def seqReg (s : State) (t : Nat) : Nat :=
  if t = 2 then
    match ((List.range 16).filter fun g => (galCfg s g).used).map fun g => sget 0 s.surv.progSeq g with
    | [] => 0
    | a :: r => r.foldl min a
  else sget 0 s.surv.seqs t

/-- The Survey registers at GLB offset `o` (R351, R352, R357). [DESIGN CHOICE, log 22] -/
def survView (s : State) (o : Nat) : Nat :=
  let v := s.surv
  match o with
  | 0x400 => pack [(v.state, 3, 0), (v.src, 2, 3), (s.power.bootSrc, 2, 5), (v.cause, 8, 8), (v.svn, 6, 16), (s.otp.svnFloor, 6, 22)]
  | 0x404 => v.serial % 2 ^ 32
  | 0x484 => pack [(v.logReplayed, 16, 0), (if v.state = 3 then logFree s / 2 ^ 18 else 0, 16, 16)]
  | 0x488 => pack [(v.patchVersion, 16, 0), (v.patchEntries.length, 7, 16)]
  | _ =>
    if 0x410 ≤ o ∧ o < 0x440 ∧ o % 4 = 0 then v.digest / 2 ^ (32 * (11 - (o - 0x410) / 4)) % 2 ^ 32
    else if 0x444 ≤ o ∧ o < 0x468 ∧ o % 4 = 0 then seqReg s ((o - 0x440) / 4) % 2 ^ 32
    else 0

/-- The GLB block at offset `o`. -/
def glbView (s : State) (o : Nat) : Nat :=
  match o with
  | 0x00 => 0x96121E5D
  | 0x04 => 0x000103B1
  | 0x08 => s.otp.serial % 2 ^ 32
  | 0x0C => s.otp.serial / 2 ^ 32 % 2 ^ 32
  | 0x10 => lifecycleReg s
  | 0x20 => pack [(s.power.cause, 3, 0), (s.power.lcResumed.toNat, 1, 3), (s.power.bootSrc, 2, 4), (s.power.addr4.toNat, 1, 6)]
  | 0x110 => bitMap 19 fun b => (sumSources b).any (irqActive s)
  | 0x114 => bitMap 32 fun p => irqActive s (16 + p)
  | 0x118 => bitMap 32 fun p => irqActive s (48 + p)
  | 0x11C => bitMap 16 (fun g => irqActive s (80 + g)) + 65536 * bitMap 16 fun n => irqActive s (96 + n)
  | _ =>
    if 0x200 ≤ o ∧ o < 0x290 then deviceSetView s .pf (o - 0x200)
    else if 0x300 ≤ o ∧ o < 0x390 then deviceSetView s .spi (o - 0x300)
    else survView s o

/-! ### FLT -/

/-- FLT_CLASS_STATE of a class (R385 to R387). -/
def classStateReg (s : State) (k : Nat) : Nat :=
  let act := (classSrcs s k).filter fun e => e.2.active
  let left := if classHeld s k || act.isEmpty then 0
    else ceilDiv (quietEnd s k - nowUs s) 100000
  pack [(classLevel s k, 2, 0), ((classHeld s k).toNat, 1, 2), ((classUnack s k).toNat, 1, 3), (min act.length 63, 6, 4),
    (satBits 22 left, 22, 10)]

/-- FLT_SRC of a source (R385). -/
def srcReg (s : State) (i : Nat) : Nat :=
  let e := srcSt s i
  pack [(e.level, 2, 0), (e.active.toNat, 1, 2), (e.ack.toNat, 1, 3), ((!e.held.isEmpty).toNat, 1, 4), (e.winOpen.toNat, 1, 5),
    (satBits 8 e.cnt, 8, 6), (e.lastCause, 4, 14)]

/-- The FLT block at offset `o`. -/
def fltView (s : State) (o : Nat) : Nat :=
  if o = 0 then
    pack [(deviceLevel s, 2, 0), (s.fault.canaryRun.toNat, 1, 2), (s.fault.canaryLevel.toNat, 1, 3), (s.fault.stall.toNat, 1, 4),
      (bitMap 15 fun k => (classSrcs s k).any fun e => e.2.active, 15, 5)]
  else if o = 4 then s.cfg.str.canaryHz % 2 ^ 14
  else if o = 8 then s.fault.seq
  else if 0x200 ≤ o ∧ o < 0x2F0 then
    let k := (o - 0x200) / 0x10
    let c := classCfg s k
    match o % 0x10 with
    | 0x0 => pack [(c.n, 8, 0), (c.ceiling, 2, 8), (c.w, 22, 10)]
    | 0x4 => c.q % 2 ^ 20
    | 0x8 => classStateReg s k
    | _ => 0
  else if 0x1000 ≤ o ∧ o < 0x1500 ∧ o % 4 = 0 then srcReg s ((o - 0x1000) / 4)
  else if 0x4000 ≤ o ∧ o < 0x8000 then
    let r := sget {} s.fault.log ((o - 0x4000) / 0x10)
    match o % 0x10 with
    | 0x0 => r.w0 % 2 ^ 32
    | 0x4 => r.w1 % 2 ^ 32
    | 0x8 => r.w2 % 2 ^ 32
    | 0xC => r.w3 % 2 ^ 32
    | _ => 0
  else 0

/-! ### CHK and WBR -/

/-- The parameter registers of check unit `k` (R398). -/
def chkView (o : Nat) : Nat :=
  if 0x1000 ≤ o ∧ o < 0x1100 then
    let u := crcUnit ((o - 0x1000) / 0x20)
    match o % 0x20 with
    | 0x00 => pack [(u.width, 6, 0), (u.refl.toNat, 1, 6), (u.refl.toNat, 1, 7)]
    | 0x04 => u.poly
    | 0x08 => u.init
    | 0x0C => u.xorOut
    | 0x10 => u.good
    | _ => 0
  else 0

/-- The selection of an event counter is invalid: a kind-C event in a mode other than COUNT (R406). -/
def selErr (s : State) (n : Nat) : Bool :=
  let sel := (sget {} s.wbr.evts n).sel
  decide (0x01 ≤ evtEvent sel ∧ evtEvent sel ≤ 0x16 ∧ evtMode sel ≠ 0)

/-- The WBR block at offset `o`: a LO word shows the counter, a HI word what the last read of its LO latched. -/
def wbrView (s : State) (o : Nat) : Nat :=
  match o with
  | 0x00 => pack [(s.wbr.oneShot.isSome.toNat, 1, 0), (s.wbr.snap.coarse.toNat, 1, 1), (bitMap 16 (selErr s), 16, 16)]
  | 0x04 => s.wbr.seq
  | 0x18 => secOf s.wbr.snap.time % 2 ^ 32
  | 0x80 => s.wbr.snap.gal % 2 ^ 32
  | 0x84 => s.wbr.snap.level % 4
  | _ => match wbrCounter s o with
    | some v => v % 2 ^ 32
    | none => if (wbrCounter s (o - 4)).isSome then sget 0 s.wbr.hiLatch (wbrBase + o) else 0

/-! ### MSI-X PBA -/

/-- Pending bits of `n` vectors from vector `v`. -/
def pendingBits (s : State) (v n : Nat) : Nat := bitMap n fun i => (sget {} s.pcie.vecs (v + i)).pending

/-! ### The PF's configuration space (R363) -/

/-- Base of the PF's configuration space, kept above every BAR: it has no address in R366. [PRESUMED, log 19] -/
def cfgBase : Nat := 0x200000000

/-- An address of the PF's configuration space. -/
def isCfg (a : Nat) : Bool := decide (cfgBase ≤ a ∧ a < cfgBase + 0x1000)

/-- The header of a capability at its place in the list. -/
def capHeader (id next rest : Nat) : Nat := pack [(id, 8, 0), (next, 8, 8), (rest, 16, 16)]

/-- The header of an extended capability. -/
def extCapHeader (id version next : Nat) : Nat := pack [(id, 16, 0), (version, 4, 16), (next, 12, 20)]

/-- A word of the PF's configuration space (R363, R364): the header, then PM, MSI-X and PCIe, then AER, ARI, SR-IOV and the
device serial number. [PRESUMED, log 19] -/
def cfgView (s : State) (o : Nat) : Nat :=
  match o with
  | 0x000 => 0x96121E5D
  | 0x004 => pack [(s.pcie.busMaster.toNat, 1, 2), (1, 1, 20)]
  | 0x008 => 0x118000B1
  | 0x010 => 0x4
  | 0x02C => s.otp.subsystem % 2 ^ 32
  | 0x034 => 0x40
  | 0x040 => capHeader 0x01 0x48 0x4803
  | 0x044 => pack [(if s.pcie.d3hot then 3 else 0, 2, 0), (s.pcie.pmeStatus.toNat, 1, 15)]
  | 0x048 => capHeader 0x11 0x54 63
  | 0x04C => 0x03F00000
  | 0x050 => 0x03F08000
  | 0x054 => capHeader 0x10 0 0x0002
  -- payload of 512 bytes, 10-bit tags; read requests of 4,096 bytes; PCIe 5.0 by four lanes with L1
  | 0x058 => pack [(2, 3, 0), (1, 1, 5), (1, 1, 15), (1, 1, 28)]
  | 0x05C => pack [(2, 3, 5), (5, 3, 12)]
  | 0x060 => pack [(5, 4, 0), (4, 6, 4), (2, 2, 10)]
  | 0x078 => pack [(3, 2, 16)]
  | 0x080 => 0x3E
  | 0x100 => extCapHeader 0x0001 2 0x148
  | 0x148 => extCapHeader 0x000E 1 0x150
  | 0x150 => extCapHeader 0x0010 1 0x190
  | 0x15C => pack [(16, 16, 0), (16, 16, 16)]
  | 0x168 => pack [(0x9613, 16, 16)]
  | 0x174 => 0x4
  | 0x190 => extCapHeader 0x0003 1 0
  | 0x194 => s.otp.serial % 2 ^ 32
  | 0x198 => s.otp.serial / 2 ^ 32 % 2 ^ 32
  | _ => 0

/-! ### Field masks (R6) -/

/-- The stored fields of a register: read-write (a shadow for RWS), write-1-to-clear and read-to-clear. -/
structure RegMask where
  rw : Nat := 0
  w1c : Nat := 0
  rc : Nat := 0
  deriving DecidableEq, Repr

/-- Number of causes of an interrupt source. -/
def irqWidth (i : Nat) : Nat :=
  if 96 ≤ i then 6 else if 80 ≤ i then 6 else if 16 ≤ i then 9
  else ([4, 6, 12, 9, 6, 8, 8, 9, 9, 4, 2, 3, 1, 1, 9][i]?).getD 0

/-- The interrupt source whose status (false) or enable register (true) lies at an address. -/
def irqPlace (a : Nat) : Option (Nat × Bool) :=
  ((List.range 112).find? fun i => i != 15 && (irqAddr i == a || irqAddr i + 4 == a)).map fun i => (i, a == irqAddr i + 4)

/-- A 32-bit field. -/
def all32 : Nat := 0xFFFFFFFF

/-- A read-to-clear register. -/
def rcAll : RegMask := { rc := all32 }

/-- Masks of the GLB block. -/
def glbMask (o : Nat) : RegMask :=
  match o with
  | 0x20 => { rc := 0xFF00 }
  | 0x480 => rcAll
  | 0x600 => { w1c := 0x1F }
  | 0x604 => { rw := 0x1F }
  | 0x700 => { w1c := 0x1F }
  | 0x704 => { rw := 0x1F }
  | 0x708 => rcAll
  | _ =>
    let b := o % 0x100
    if 0x200 ≤ o ∧ o < 0x400 then (if b = 0 then { rw := 0xFFFF } else if b < 0x44 ∧ b % 4 = 0 then { rw := all32 } else {}) else {}

/-- Masks of the FLT block. -/
def fltMask (o : Nat) : RegMask :=
  if o = 0xC then { rw := 3 }
  else if 0x200 ≤ o ∧ o < 0x2F0 ∧ o % 0x10 = 0xC then { rc := 0xFFFF }
  else if 0x2000 ≤ o ∧ o < 0x2500 ∧ o % 4 = 0 then rcAll else {}

/-- Masks of the ASSAY block. -/
def assayMask (o : Nat) : RegMask :=
  if o = 0x10 then rcAll else if o = 0x110 then { w1c := all32 } else if o = 0x114 then { w1c := 1 }
  else if 0x1000 ≤ o ∧ o < 0x1840 ∧ (o % 0x40 = 0x14 ∨ o % 0x40 = 0x18) then rcAll else {}

/-- Masks of the DIAL block. -/
def dialMask (o : Nat) : RegMask :=
  if o = 0x10 then { w1c := 0xFFFFFF }
  else if 0x1000 ≤ o ∧ o < 0x1600 then
    match o % 0x40 with
    | 0x00 => { rw := 0x3FFF80 }
    | 0x04 => { rw := 0x1FFFFFF }
    | 0x08 => { rw := 0x1FFFF }
    | 0x0C => { rw := all32 }
    | 0x34 => rcAll
    | _ => {}
  else {}

/-- Masks of the OUTS block. -/
def outsMask (o : Nat) : RegMask :=
  if 0x1000 ≤ o ∧ o < 0x1400 then (if o % 0x100 = 0x30 then rcAll else {})
  else if 0x2000 ≤ o ∧ o < 0x2200 then (if o % 0x40 = 0x20 then rcAll else {})
  else if 0x3100 ≤ o ∧ o < 0x3140 then (if o % 0x20 = 4 then rcAll else {})
  else if 0x4000 ≤ o ∧ o < 0x4200 then
    (if o % 0x40 = 4 then { rw := 0x3FFFFFFF } else if o % 0x40 = 0x34 then rcAll else {})
  else {}

/-- Masks of a client port. -/
def portMask (o : Nat) : RegMask :=
  if [0x30, 0x34, 0x38, 0x3C, 0x40, 0x50, 0x54, 0x58, 0x5C, 0x60].contains o then rcAll else {}

/-- Masks of a gallery. -/
def galMask (o : Nat) : RegMask :=
  if o = 0x20 ∨ o = 0x24 ∨ o = 0x28 then rcAll
  else if 0x1000 ≤ o ∧ o < 0x1200 then
    (if o % 0x10 = 0 then { rc := 0xFFFF0000 } else if o % 0x10 = 4 then rcAll else {})
  else {}

/-- Masks of the SHAFT block with the session registers. -/
def shaftMask (o : Nat) : RegMask :=
  if 0x1000 ≤ o ∧ o < 0x2000 then
    match o % 0x100 with
    | 0x00 => { rw := all32 }
    | 0x04 => { rw := all32 }
    | 0x08 => { rw := 0xFFFFFF }
    | 0x10 => rcAll
    | 0x14 => rcAll
    | _ => {}
  else if 0x10010 ≤ o ∧ o < 0x10020 ∧ o % 4 = 0 then rcAll
  else if o = 0x10020 then rcAll
  else if 0x10100 ≤ o ∧ o < 0x10200 ∧ o % 0x10 = 0xC then rcAll else {}

/-- Masks of the CRYPTO, PK and MAG windows. -/
def cryptoMask (o : Nat) : RegMask :=
  if 0x1000 ≤ o ∧ o < 0x1400 ∧ (o % 0x40 = 4 ∨ o % 0x40 = 8) then rcAll
  else if o = 0x10004 then rcAll else if o = 0x20000 then { rw := 0xFFF } else {}

/-- Masks of the CHK block. -/
def chkMask (o : Nat) : RegMask :=
  if o = 0 then { rw := 0xFF } else if 0x1000 ≤ o ∧ o < 0x1100 ∧ o % 0x20 = 0x14 then rcAll else {}

/-- Masks of the WBR block. -/
def wbrMask (o : Nat) : RegMask :=
  if o = 8 then { rw := 0x1FFFF, rc := 0xFF000000 }
  else if 0x100 ≤ o ∧ o < 0x300 ∧ o % 0x20 = 0 then { rw := all32 }
  else if o = 0x2000 then { rw := 0x1FF } else {}

/-- Masks of a seam's own registers, its VF's mailbox and its VF's MAG_SEL, by offset in the window. -/
def seamMask (o : Nat) : RegMask :=
  if 0x10 ≤ o ∧ o < 0x50 ∧ o % 0x10 = 0xC then rcAll
  else if o = 0x60 ∨ o = 0x74 then rcAll else if o = 0x78 then { rc := 0xFFFF }
  else if 0x800 ≤ o ∧ o < 0x900 ∧ o % 4 = 0 then rcAll
  else if o = 0x2000 then { rw := 0xFFFF } else if 0x2004 ≤ o ∧ o < 0x2044 ∧ o % 4 = 0 then { rw := all32 }
  else if o = 0x21000 then { rw := 0xFFF } else {}

/-- Masks of the HAUL block. Of HAUL_SNAP_ADDR_LO only [31:12] are stored: [11:0] read 0. [DESIGN CHOICE, log 22] -/
def haulMask (o : Nat) : RegMask :=
  if o = 0x14 ∨ o = 0x90 then rcAll else if o = 0x80 then { rw := 0xFFFFF000 } else if o = 0x84 then { rw := all32 }
  else if 0x1000 ≤ o ∧ o < 0x2200 ∧ 0x20 ≤ o % 0x100 ∧ o % 0x100 < 0x38 ∧ o % 4 = 0 then rcAll else {}

/-- Masks of the MSI-X table: address, data and vector control of each vector (R366). -/
def msixMask (o : Nat) : RegMask :=
  match o % 16 with
  | 0x0 => { rw := 0xFFFFFFFC }
  | 0x4 => { rw := all32 }
  | 0x8 => { rw := all32 }
  | 0xC => { rw := 1 }
  | _ => {}

/-- Masks of the register at a home address, interrupt registers apart. -/
def blockMask (a : Nat) : RegMask :=
  if a < 0x00100000 then glbMask a
  else if a < 0x00200000 then fltMask (a - 0x00100000)
  else if a < 0x00300000 then (if a = 0x00200060 then rcAll else {})
  else if a < 0x00400000 then assayMask (a - 0x00300000)
  else if a < 0x00500000 then dialMask (a - 0x00400000)
  else if a < 0x00600000 then outsMask (a - 0x00500000)
  else if a < 0x00700000 then
    (if a = 0x00600080 then rcAll else if 0x00601000 ≤ a ∧ a < 0x00601100 ∧ a % 0x10 = 8 then rcAll else {})
  else if a < 0x00800000 then {}
  else if a < 0x01000000 then (if a = 0x00800400 ∨ a = 0x00800410 then rcAll else {})
  else if a < 0x01400000 then portMask (a % 0x10000)
  else if a < 0x01800000 then haulMask (a - 0x01400000)
  else if a < 0x01C00000 then galMask (a % 0x40000)
  else if a < 0x01D00000 then shaftMask (a - 0x01C00000)
  else if a < 0x01E00000 then cryptoMask (a - 0x01D00000)
  else if a < 0x01F00000 then chkMask (a - 0x01E00000)
  else if a < 0x02000000 then wbrMask (a - 0x01F00000)
  else if a < 0x03000000 then seamMask (a % 0x100000)
  else if 0x03F00000 ≤ a ∧ a < 0x03F00400 then msixMask a
  else if 0x100000000 ≤ a ∧ a < 0x101000000 ∧ 0xF0000 ≤ a % 0x100000 ∧ a % 0x100000 < 0xF0040 then msixMask a
  else {}

/-- Masks of the register at a home address (R6). -/
def regMask (a : Nat) : RegMask :=
  match irqPlace a with
  | some (i, en) => if en then { rw := 2 ^ irqWidth i - 1 } else { w1c := 2 ^ irqWidth i - 1 }
  | none => blockMask a

/-! ### Reading (R5, R366) -/

/-- The MAG registers of a VF window: slots relative to the seam's range (R307). -/
def vfMagView (s : State) (n o : Nat) : Nat :=
  let c := seamRec s n
  let k := rfField s (seamBase n + 0x21000) 11 0
  let own := fun (e : Nat × MagSlot) => e.2.loaded && decide (c.magBase ≤ e.1 ∧ e.1 < c.magBase + c.magCount)
  magView s (if k < c.magCount then some (c.magBase + k) else none) (s.cry.mag.filter own).length o

/-- The registers that have their home in a seam's window: the seam's own, its VF's mailbox and its Magazine view. -/
def seamHomeView (s : State) (n o : Nat) : Nat :=
  if o < 0x1000 then seamRegView s n o
  else if 0x2000 ≤ o ∧ o < 0x2090 then
    let v := vfSet s n
    mbxView v.running.isSome v.running.isSome v.set (o - 0x2000)
  else if 0x21000 ≤ o ∧ o < 0x21010 then vfMagView s n (o - 0x21000)
  else 0

/-- The read-only fields of the register at a home address. -/
def roView (s : State) (a : Nat) : Nat :=
  if a < 0x00100000 then glbView s a
  else if a < 0x00200000 then fltView s (a - 0x00100000)
  else if a < 0x00300000 then lodeView s (a - 0x00200000)
  else if a < 0x00400000 then assayView s (a - 0x00300000)
  else if a < 0x00500000 then dialView s (a - 0x00400000)
  else if a < 0x00600000 then outsView s (a - 0x00500000)
  else if a < 0x00700000 then tallyView s (a - 0x00600000)
  else if a < 0x00800000 then 0
  else if a < 0x01000000 then daylView s (a - 0x00800000)
  else if a < 0x01400000 then portView s ((a - 0x01000000) / 0x10000) (a % 0x10000)
  else if a < 0x01800000 then haulView s (a - 0x01400000)
  else if a < 0x01C00000 then galView s ((a - 0x01800000) / 0x40000) (a % 0x40000)
  else if a < 0x01D00000 then shaftView s (a - 0x01C00000)
  else if a < 0x01E00000 then cryptoView s (a - 0x01D00000)
  else if a < 0x01F00000 then chkView (a - 0x01E00000)
  else if a < 0x02000000 then wbrView s (a - 0x01F00000)
  else if a < 0x03000000 then seamHomeView s ((a - 0x02000000) / 0x100000) (a % 0x100000)
  else if a = 0x03F08000 then pendingBits s 0 32
  else if a = 0x03F08004 then pendingBits s 32 32
  else if 0x100000000 ≤ a ∧ a < 0x101000000 ∧ a % 0x100000 = 0xF8000 then pendingBits s (64 + 4 * ((a - 0x100000000) / 0x100000)) 4
  else if isCfg a then cfgView s (a - cfgBase)
  else 0

/-- A DIAL channel's RW registers are the Foreman's on REF and MON channels (R99, R102). -/
def foremanReg (s : State) (a : Nat) : Bool :=
  decide (0x00401000 ≤ a ∧ a < 0x00401600 ∧ a % 0x40 < 0x10)
    && decide ((dialCfg s ((a - 0x00401000) / 0x40)).role = 1 ∨ (dialCfg s ((a - 0x00401000) / 0x40)).role = 2)

/-- The stored fields of the register at a home address. -/
def storedView (s : State) (a : Nat) : Nat :=
  let m := regMask a
  if foremanReg s a then 0 else rfGet s a &&& (m.rw ||| m.w1c ||| m.rc)

/-- The 32-bit value of the register at a home address. -/
def readReg (s : State) (a : Nat) : Nat := if a % 4 = 0 then (roView s a ||| storedView s a) % 2 ^ 32 else 0

/-- The home address of an offset in seam `n`'s window (R307): its own registers, or the register that it mirrors. [DESIGN CHOICE, log 20] -/
def windowHome (s : State) (n o : Nat) : Option Nat :=
  if !(seamRec s n).configured then none
  else if o < 0x1000 ∨ (0x2000 ≤ o ∧ o < 0x2090) ∨ (0x21000 ≤ o ∧ o < 0x21010) then some (seamBase n + o)
  else if o = 0x10000 then some 0x00600000
  else if 0x11000 + 0x10 * n ≤ o ∧ o < 0x11010 + 0x10 * n then some (0x00601000 + (o - 0x11000))
  else if 0x20100 + 0x10 * n ≤ o ∧ o < 0x20110 + 0x10 * n then some (0x01C10100 + (o - 0x20100))
  else if 0x22000 ≤ o ∧ o < 0x2200C then some (0x01C02000 + 0x10 * n + (o - 0x22000))
  else if 0x40000 ≤ o ∧ o < 0x80000 ∧ seamOwns s n ((o - 0x40000) / 0x4000) then
    let g := (o - 0x40000) / 0x4000
    let k := o % 0x4000
    if k < 0x1C ∨ (0x20 ≤ k ∧ k < 0x2C) ∨ (0x800 ≤ k ∧ k < 0x900) ∨ (0x1000 ≤ k ∧ k < 0x1200) then some (galBase g + k) else none
  else none

/-- The home address that a master's access reaches (R307, R364). A configuration request that gets retry status reaches
nothing. -/
def homeAddr (s : State) (m : Master) (a : Nat) : Option Nat :=
  match m with
  | .pf =>
    if a < 0x02000000 then some a
    else if a < 0x03000000 then windowHome s ((a - 0x02000000) / 0x100000) (a % 0x100000)
    else if a < 0x04000000 ∨ (isCfg a && !s.pcie.cfgRetry) then some a else none
  | .vf n =>
    if 0xF0000 ≤ a ∧ a < 0x100000 then some (0x100000000 + 0x100000 * n.val + a)
    else if a < 0xF0000 then windowHome s n a else none

/-- What a master reads at an address. -/
def readBy (s : State) (m : Master) (a : Nat) : Nat :=
  match homeAddr s m a with
  | some h => readReg s h
  | none => 0

end Sys2Proof.Machine
end

