-- ==== Sys2Proof/Machine/HostIf.lean ====
section
/-! DEFINITION. Accesses of the host and of the board controller: register writes and reads through PF BAR0 and the VF windows, and the transactions of the SPI port (R6, R99, R307 to R309, R366, R368, R376 to R378). -/

namespace Sys2Proof.Machine

/-- The state that a command leaves; the present one where it leaves none. -/
def resState (r : Res) (s : State) : State :=
  match r with
  | .next t => t
  | .fault _ => s
  | .refused _ => s

/-- The endpoint answers memory accesses: the device runs and the endpoint is out of reset. -/
def hostReaches (s : State) : Bool := s.power.phase == .running && !s.pcie.inReset

/-! ### Write-1-to-clear (R6, R368) -/

/-- Clears DONE of a mailbox set where bit 1 of the data is set. -/
def clearDone (src : MbxSrc) (data : Nat) (s : State) : State :=
  if bitAt data 1 then setMod src (fun m => { m with done := false }) s else s

/-- Clears DONE of a VF's set, with its completion vector. -/
def clearVfDone (n data : Nat) (s : State) : State :=
  if bitAt data 1 then vfMod n (fun x => { x with set := { x.set with done := false } }) s else s

/-- The window offset and seam of a VF mailbox register. -/
def vfSetPlace (h : Nat) : Option (Nat × Nat) :=
  if 0x02000000 ≤ h ∧ h < 0x03000000 ∧ 0x2000 ≤ h % 0x100000 ∧ h % 0x100000 < 0x2090 then
    some ((h - 0x02000000) / 0x100000, h % 0x100000 - 0x2000) else none

/-- A PF's or VF's write on the W1C fields of the register at a home address. The SPI set's DONE is cleared through SPI alone
(R370). -/
def w1cAt (h data : Nat) (s : State) : State :=
  match irqPlace h with
  | some (i, en) => if en then s else irqWriteClear i (data % 2 ^ irqWidth i) s
  | none =>
    if h = 0x248 then clearDone .pf data s
    else match vfSetPlace h with
      | some (n, o) => if o = 0x48 then clearVfDone n data s else s
      | none => rfClear h (data &&& (regMask h).w1c) s

/-! ### Writes (R6) -/

/-- A write of the stored RW fields of a register, other bits kept. -/
def putFields (h data : Nat) (s : State) : State :=
  let m := (regMask h).rw
  rfSet h ((data &&& m) ||| (rfGet s h &&& (all32 - m))) s

/-- A write of GLB_WAKE_EN: a wake cause that becomes enabled requests service (R380). -/
def writeWakeEn (data : Nat) (s : State) : State :=
  let u := putFields 0x604 data s
  if wakeActive u && !wakeActive s then wakeRequest u else u

/-- A write to a DIAL channel's register (R99, R105): only USER channels take one. [DESIGN CHOICE, log 20] [DESIGN CHOICE, log 31] -/
def writeDialCh (n h data : Nat) (s : State) : State :=
  if (dialCfg s n).role ≠ 3 then s
  else if h % 0x40 = 0x10 then
    (if bitAt data 0 then dialTrigger n s else dialMod n (fun c => { c with held := false }) s)
  else putFields h data s

/-- A write of SYN_RAMP_CTL (R159): STOP takes effect after START. -/
def writeRamp (n : SynNo) (data : Nat) (s : State) : State :=
  let u := if bitAt data 0 then resState (execRampStart n s) s else s
  if bitAt data 1 then resState (execRampStop n u) u else u

/-- A write to an event pin's register (R172). -/
def writeEv (p : EvNo) (h data : Nat) (s : State) : State :=
  match h % 0x40 with
  | 0x04 => putFields h data s
  | 0x08 => evMod p (fun e => { e with asmFrac := data % 2 ^ 16 }) s
  | 0x0C => evMod p (fun e => { e with asmNs := data % 2 ^ 32 }) s
  | 0x10 => evMod p (fun e => { e with asmSecLo := data % 2 ^ 32 }) s
  | 0x14 => resState (execBellEnqueue p data s) s
  | _ => s

/-- A write of the OUTS block. -/
def writeOuts (h data : Nat) (s : State) : State :=
  let o := h - 0x00500000
  if 0x1000 ≤ o ∧ o < 0x1400 ∧ o % 0x100 = 0x20 then writeRamp (Fin.ofNat 4 ((o - 0x1000) / 0x100)) data s
  else if 0x4000 ≤ o ∧ o < 0x4200 then writeEv (Fin.ofNat 8 ((o - 0x4000) / 0x40)) h data s
  else s

/-- A write of the WBR block (R407, R408). -/
def writeWbr (h data : Nat) (s : State) : State :=
  match h - wbrBase with
  | 0x0C => wbrMod (fun w => { w with asmNs := data % 2 ^ 32 }) s
  | 0x10 => wbrMod (fun w => { w with asmSecLo := data % 2 ^ 32 }) s
  | 0x14 => resState (execWbrSnapshotArm data s) s
  | 0x1C => resState (execWbrCommit data s) s
  | _ => putFields h data s

/-- The vector whose control word lies at a home address. -/
def vectorAt (h : Nat) : Option Nat :=
  if h < 0x100000000 then some ((h - 0x03F00000) / 16)
  else some (64 + 4 * ((h - 0x100000000) / 0x100000) + h % 0x100 / 16)

/-- A write of a word of an MSI-X table (R368): a mask bit that falls unmasks its vector. -/
def writeMsix (h data : Nat) (s : State) : State :=
  match vectorAt h with
  | some v =>
    if h % 16 = 0xC ∧ bitAt data 0 = false ∧ vectorMasked s v = true then resState (execMsixUnmask v s) s else putFields h data s
  | none => s

/-- A write of bus mastering in the PF's configuration space: messages that waited go out. [PRESUMED, log 19] -/
def writeBusMaster (on : Bool) (s : State) : State :=
  flushVectors { s with pcie := { s.pcie with busMaster := on } }

/-- The PF's PCI command register. [PRESUMED, log 19] -/
def cfgCommand : Nat := cfgBase + 0x004

/-- A write in the PF's configuration space: bus mastering, PME_Status (write 1 to clear), and in MANUFACTURE the subsystem IDs,
which go to OTP (R363, R420). [PRESUMED, log 19] -/
def writeCfg (o data : Nat) (s : State) : State :=
  match o with
  | 0x004 => writeBusMaster (bitAt data 2) s
  | 0x02C => if s.otp.lifecycle = 0 then { s with otp := { s.otp with subsystem := data } } else s
  | 0x044 => if bitAt data 15 then { s with pcie := { s.pcie with pmeStatus := false } } else s
  | _ => s

/-- A write to the register at a home address, W1C fields apart. [DESIGN CHOICE, log 20] -/
def writeAt (h data : Nat) (s : State) : State :=
  match irqPlace h with
  | some (i, en) => if en then irqWriteEnable i (data % 2 ^ irqWidth i) s else s
  | none =>
    if h = 0x244 then (if bitAt data 0 then ring .pf s else s)
    else if isCfg h then writeCfg (h - cfgBase) data s
    else if h = 0x604 then writeWakeEn data s
    -- the SPI set is written through SPI alone (R370)
    else if 0x300 ≤ h ∧ h < 0x390 then s
    else if 0x00103000 ≤ h ∧ h < 0x00103028 then resState (execFaultForce ((h - 0x00103000) / 4) data s) s
    else if h = 0x00200010 then resState (execLodeTimeLatch data s) s
    else if 0x00401000 ≤ h ∧ h < 0x00401600 then writeDialCh ((h - 0x00401000) / 0x40) h data s
    else if 0x00500000 ≤ h ∧ h < 0x00600000 then writeOuts h data s
    else if h = 0x00600004 then resState (execTallyLatch data s) s
    else if 0x01000000 ≤ h ∧ h < 0x01400000 ∧ h % 0x10000 = 8 then
      (let p := (h - 0x01000000) / 0x10000
       if bitAt data 0 then portGoDown p s else portGoUp p s)
    else if h = 0x01C00000 then resState (execShaftCommit data s) s
    else if wbrBase ≤ h ∧ h < 0x02000000 then writeWbr h data s
    else if (0x03F00000 ≤ h ∧ h < 0x03F00400) ∨ (0x100000000 ≤ h ∧ (regMask h).rw ≠ 0) then writeMsix h data s
    else match vfSetPlace h with
      | some (n, o) => if o = 0x44 then (if bitAt data 0 then vfRing n s else s) else putFields h data s
      | none => putFields h data s

/-- What a VF may write (R308): its mailbox, MAG_SEL, its SEAM_IRQ pair, and its MSI-X table. -/
def vfMayWrite (h : Nat) : Bool :=
  decide (0x100000000 ≤ h) || (vfSetPlace h).isSome
    || (decide (0x02000000 ≤ h ∧ h < 0x03000000)
        && (h % 0x100000 == 0x100 || h % 0x100000 == 0x104 || h % 0x100000 == 0x21000))

/-- A VF window's mirrors are read-only to the PF as to the VF: only what has its home in the window is written there. [DESIGN CHOICE, log 20] -/
def writeHome (s : State) (m : Master) (a : Nat) : Option Nat :=
  if a % 4 ≠ 0 ∨ hostReaches s = false then none
  else match homeAddr s m a with
    | none => none
    | some h => match m with
      | .pf => if 0x02000000 ≤ a ∧ a < 0x03000000 ∧ h ≠ a then none else some h
      | .vf _ => if vfMayWrite h then some h else none

/-- W1C_WRITE (R6, R368): the ones of `data` clear W1C bits of the register at `addr`. -/
def execW1cWrite (m : Master) (addr data : Nat) (s : State) : Res :=
  match writeHome s m addr with
  | some h => .next (w1cAt h data s)
  | none => .next s

/-- REGISTER_WRITE (R6): a 32-bit write, every field of the register by its type; elsewhere it is discarded. -/
def execRegisterWrite (m : Master) (addr data : Nat) (s : State) : Res :=
  match writeHome s m addr with
  | some h => .next (writeAt h (data % 2 ^ 32) (w1cAt h (data % 2 ^ 32) s))
  | none => .next s

/-! ### Reads (R6, R309) -/

/-- The data of the last read. -/
def setRead (v : Nat) (s : State) : State := { s with pcie := { s.pcie with readData := v } }

/-- A PF read of the register at a home address: it clears RC fields, and a register with a read effect has it. -/
def pfRead (h : Nat) (s : State) : State :=
  if 0x00401000 ≤ h ∧ h < 0x00401600 ∧ h % 0x40 = 0x20 then resState (execDialResultRead (Fin.ofNat 24 ((h - 0x00401000) / 0x40)) s) s
  else if h = 0x00800200 ∨ h = 0x00800220 then resState (execDaylSolutionRead (Fin.ofNat 2 ((h - 0x00800200) / 0x20)) s) s
  else if 0x00504000 ≤ h ∧ h < 0x00504200 ∧ h % 0x40 = 0x20 then resState (execKnockRead (Fin.ofNat 8 ((h - 0x00504000) / 0x40)) s) s
  else if wbrBase ≤ h ∧ h < 0x02000000 ∧ (wbrCounter s (h - wbrBase)).isSome then resState (execWbrCounterRead h s) s
  else
    let m := (regMask h).rc
    let v := readReg s h
    setRead v (if m = 0 ∨ h % 4 ≠ 0 then s else rfSet h (rfGet s h &&& (all32 - m)) s)

/-- READ_CLEAR (R6, R309): a read by the PF returns and clears the RC fields; a VF's read clears nothing. -/
def execReadClear (m : Master) (addr : Nat) (s : State) : Res :=
  if hostReaches s = false then .next s
  else match m, homeAddr s m addr with
    | .pf, some h => .next (pfRead h s)
    | .vf _, some h => .next (setRead (readReg s h) s)
    | _, none => .next (setRead 0 s)

/-! ### The SPI port (R376 to R378) -/

/-- The SPI port answers: the device runs, from 10 ms after release (R418). -/
def spiReaches (s : State) : Bool := s.power.phase == .running && s.spi.access

/-- A transaction ends: it is counted, and MISO has carried `out`. [DESIGN CHOICE, log 21] -/
def spiDone (out : List Nat) (s : State) : State :=
  rfBump 0x708 15 0 1 { s with spi := { s.spi with miso := out } }

/-- What SPI READ finds at an address (R377). -/
def spiReg (s : State) (a : Nat) : Nat :=
  if a < 0x00200000 ∨ (0x00200000 ≤ a ∧ a < 0x00200100) ∨ (0x00600000 ≤ a ∧ a < 0x00600100) then readReg s a else 0

/-- Words and CRC as they leave on MISO (R376): the CRC covers the opcode, address, count and words. -/
def spiAnswer (op addr n : Nat) (words : List Nat) : List Nat :=
  let data := (words.map (beBytes 4)).flatten
  data ++ beBytes 4 (crc32c ([op] ++ beBytes 4 addr ++ beBytes 2 n ++ data))

/-- A READ or SNAP_READ that R376 admits: a word-aligned address below 4 GiB and a count of 1 to 64. -/
def spiFormOk (addr n : Nat) : Bool := decide (addr % 4 = 0 ∧ addr < 2 ^ 32 ∧ 1 ≤ n ∧ n ≤ 64)

/-- What the port returns where R376 admits no such transaction: open bytes. [DESIGN CHOICE, log 21] -/
def spiOpenAnswer (s : State) : State :=
  let x := takeFree s
  spiDone (Config.spiOpen x.1) x.2

/-- SPI_READ (R376, R377). -/
def execSpiRead (addr n : Nat) (s : State) : Res :=
  if !spiReaches s then .next s
  else if spiFormOk addr n then
    .next (spiDone (spiAnswer 0x0B addr n ((List.range n).map fun k => spiReg s (addr + 4 * k))) s)
  else .next (spiOpenAnswer s)

/-- A word that SPI WRITE writes (R377): the SPI set and the alert registers; every other word is discarded. -/
def spiWriteWord (a data : Nat) (s : State) : State :=
  if a = 0x344 then (if bitAt data 0 then ring .spi s else s)
  else if a = 0x348 then clearDone .spi data s
  else if 0x300 ≤ a ∧ a < 0x344 ∧ a % 4 = 0 then putFields a data s
  else if a = 0x700 then rfClear 0x700 (data &&& 0x1F) s
  else if a = 0x704 then putFields 0x704 data s
  else s

/-- The words of a WRITE, in order, from an address. [DESIGN CHOICE, log 21] -/
def spiWriteWords : Nat → List Nat → State → State
  | _, [], s => s
  | a, w :: r, s => spiWriteWords (a + 4) r (spiWriteWord a (w % 2 ^ 32) s)

/-- SPI_WRITE (R376, R377): `check` is the count that the transaction states, and its CRC; a bad one discards it whole. -/
def execSpiWrite (addr : Nat) (words : List Nat) (check : Nat × Nat) (s : State) : Res :=
  if !spiReaches s then .next s
  else
    let u := spiDone [] s
    if spiWriteOk addr check.1 words check.2 then .next (spiWriteWords addr words u)
    else .next (faultEvent 243 1 0 (alertSet 3 (rfBump 0x708 31 24 1 u)))

/-- A word of the staged snapshot; 0 beyond its length. -/
def stagedWord (s : State) (i : Nat) : Nat := beVal (fit 4 (slice i 4 s.haul.snap.staged))

/-- SNAP_READ (R376). -/
def execSnapRead (offset n : Nat) (s : State) : Res :=
  if !spiReaches s then .next s
  else if spiFormOk offset n then
    .next (spiDone (spiAnswer 0x0C offset n ((List.range n).map fun k => stagedWord s (offset + 4 * k))) s)
  else .next (spiOpenAnswer s)

/-- SPI_UNKNOWN_OPCODE (R376): MISO is held low and BAD_OP counts. An opcode of the table is none. -/
def execSpiUnknownOpcode (op : Nat) (s : State) : Res :=
  if !spiReaches s || op == 0x0B || op == 0x02 || op == 0x0C then .next s
  else .next (rfBump 0x708 23 16 1 (spiDone [] s))

end Sys2Proof.Machine
end

