-- ==== Sys2Proof/Machine/Dispatch.lean ====
section
/-! DEFINITION. The dispatch: one arm for each command, one direct call of its meaning. -/

namespace Sys2Proof.Machine

def exec (i : Instr) (s : State) : Host.Outcome State Fault Refusal :=
  match i with
  | .powerOn => Sys2Proof.Machine.execPowerOn s
  | .brownOut rail => Sys2Proof.Machine.execBrownOut rail s
  | .powerDown => Sys2Proof.Machine.execPowerDown s
  | .resetNAssert => Sys2Proof.Machine.execResetNAssert s
  | .resetRelease pin bootSrc addr4 flash64 => Sys2Proof.Machine.execResetRelease pin bootSrc addr4 flash64 s
  | .bootSelftestDone pass dialBad => Sys2Proof.Machine.execBootSelftestDone pass dialBad s
  | .imageReadDone host ok => Sys2Proof.Machine.execImageReadDone host ok s
  | .imageChecksDone => Sys2Proof.Machine.execImageChecksDone s
  | .pkVerifyDone unit valid => Sys2Proof.Machine.execPkVerifyDone unit valid s
  | .imageApplied => Sys2Proof.Machine.execImageApplied s
  | .tbpllInitialLock => Sys2Proof.Machine.execTbpllInitialLock s
  | .channelTrainingDone m ok => Sys2Proof.Machine.execChannelTrainingDone m ok s
  | .tbpllLockLoss => Sys2Proof.Machine.execTbpllLockLoss s
  | .tbpllRelock => Sys2Proof.Machine.execTbpllRelock s
  | .realignDecision fine theta => Sys2Proof.Machine.execRealignDecision fine theta s
  | .loAbsenceDetected => Sys2Proof.Machine.execLoAbsenceDetected s
  | .loReturn => Sys2Proof.Machine.execLoReturn s
  | .coarseReload => Sys2Proof.Machine.execCoarseReload s
  | .refMeasurement ref m => Sys2Proof.Machine.execRefMeasurement ref m s
  | .lockSettleExpiry => Sys2Proof.Machine.execLockSettleExpiry s
  | .pullEnd => Sys2Proof.Machine.execPullEnd s
  | .holdoverMaxExpiry => Sys2Proof.Machine.execHoldoverMaxExpiry s
  | .loCorrectionSample => Sys2Proof.Machine.execLoCorrectionSample s
  | .holdoverRateUpdate => Sys2Proof.Machine.execHoldoverRateUpdate s
  | .serviceEnable => Sys2Proof.Machine.execServiceEnable s
  | .lodeTimeLatch v => Sys2Proof.Machine.execLodeTimeLatch v s
  | .leapApplied => Sys2Proof.Machine.execLeapApplied s
  | .assayDecisionTick => Sys2Proof.Machine.execAssayDecisionTick s
  | .soakExpiry ref => Sys2Proof.Machine.execSoakExpiry ref s
  | .holdoffExpiry ref => Sys2Proof.Machine.execHoldoffExpiry ref s
  | .waitToRestoreExpiry ref => Sys2Proof.Machine.execWaitToRestoreExpiry ref s
  | .measurementMissing ref => Sys2Proof.Machine.execMeasurementMissing ref s
  | .refActivityTimeout ref => Sys2Proof.Machine.execRefActivityTimeout ref s
  | .tauAvgBlockEnd => Sys2Proof.Machine.execTauAvgBlockEnd s
  | .esmcQlDelivered ref ql => Sys2Proof.Machine.execEsmcQlDelivered ref ql s
  | .esmcQlTimeout ref => Sys2Proof.Machine.execEsmcQlTimeout ref s
  | .ptpAnnounceTimeout ref => Sys2Proof.Machine.execPtpAnnounceTimeout ref s
  | .dialEdge ch code => Sys2Proof.Machine.execDialEdge ch code s
  | .dialTempRead temp => Sys2Proof.Machine.execDialTempRead temp s
  | .dialBackgroundCheck => Sys2Proof.Machine.execDialBackgroundCheck s
  | .dialCheckComplete ch line1 mu => Sys2Proof.Machine.execDialCheckComplete ch line1 mu s
  | .dialCheckAbandon ch => Sys2Proof.Machine.execDialCheckAbandon ch s
  | .dialLineStale ch line1 => Sys2Proof.Machine.execDialLineStale ch line1 s
  | .frequencyGateEnd ch => Sys2Proof.Machine.execFrequencyGateEnd ch s
  | .dialIntervalTimeout ch => Sys2Proof.Machine.execDialIntervalTimeout ch s
  | .dialArm ch => Sys2Proof.Machine.execDialArm ch s
  | .dialDisarm ch => Sys2Proof.Machine.execDialDisarm ch s
  | .dialResultRead ch => Sys2Proof.Machine.execDialResultRead ch s
  | .sampleTimeFit a ok => Sys2Proof.Machine.execSampleTimeFit a ok s
  | .acquisitionDone n a signal sv cn0 => Sys2Proof.Machine.execAcquisitionDone n a signal sv cn0 s
  | .channelLost n => Sys2Proof.Machine.execChannelLost n s
  | .burstWindow a => Sys2Proof.Machine.execBurstWindow a s
  | .burstModeChange a => Sys2Proof.Machine.execBurstModeChange a s
  | .gnssSolution oa ob geom => Sys2Proof.Machine.execGnssSolution oa ob geom s
  | .alarmClear a => Sys2Proof.Machine.execAlarmClear a s
  | .anchorMove a => Sys2Proof.Machine.execAnchorMove a s
  | .ephemerisDecoded sys sv eph cached previous alm leap => Sys2Proof.Machine.execEphemerisDecoded sys sv eph cached previous alm leap s
  | .daylSolutionRead a => Sys2Proof.Machine.execDaylSolutionRead a s
  | .serviceGateEval => Sys2Proof.Machine.execServiceGateEval s
  | .seamResume seam => Sys2Proof.Machine.execSeamResume seam s
  | .epochHoldExpiry => Sys2Proof.Machine.execEpochHoldExpiry s
  | .tallyLatch v => Sys2Proof.Machine.execTallyLatch v s
  | .outputStopped m => Sys2Proof.Machine.execOutputStopped m s
  | .holdLoopWindow m phi => Sys2Proof.Machine.execHoldLoopWindow m phi s
  | .slewStep m => Sys2Proof.Machine.execSlewStep m s
  | .snapRestart m => Sys2Proof.Machine.execSnapRestart m s
  | .rampStart n => Sys2Proof.Machine.execRampStart n s
  | .rampStop n => Sys2Proof.Machine.execRampStop n s
  | .rampUpdate n => Sys2Proof.Machine.execRampUpdate n s
  | .rampSegmentEnd n => Sys2Proof.Machine.execRampSegmentEnd n s
  | .rampHalfRefill n => Sys2Proof.Machine.execRampHalfRefill n s
  | .rampUnderrun n => Sys2Proof.Machine.execRampUnderrun n s
  | .rampResume => Sys2Proof.Machine.execRampResume s
  | .todoutSentence k => Sys2Proof.Machine.execTodoutSentence k s
  | .todinSentence k bytes startAgo => Sys2Proof.Machine.execTodinSentence k bytes startAgo s
  | .knockCapture p rise code => Sys2Proof.Machine.execKnockCapture p rise code s
  | .knockRead p => Sys2Proof.Machine.execKnockRead p s
  | .bellEnqueue p v => Sys2Proof.Machine.execBellEnqueue p v s
  | .bellFire p => Sys2Proof.Machine.execBellFire p s
  | .bellEnd p => Sys2Proof.Machine.execBellEnd p s
  | .linkTrainingDone p ok => Sys2Proof.Machine.execLinkTrainingDone p ok s
  | .portLinkUp p => Sys2Proof.Machine.execPortLinkUp p s
  | .portLinkDown p => Sys2Proof.Machine.execPortLinkDown p s
  | .portPcsFault p kind => Sys2Proof.Machine.execPortPcsFault p kind s
  | .frameReceived p f fcsOk uncorr tag => Sys2Proof.Machine.execFrameReceived p f fcsOk uncorr tag s
  | .rxStoreAdmit p pathOk => Sys2Proof.Machine.execRxStoreAdmit p pathOk s
  | .launchBufferArrival p pathOk => Sys2Proof.Machine.execLaunchBufferArrival p pathOk s
  | .launchDeadline p => Sys2Proof.Machine.execLaunchDeadline p s
  | .timedLaunch p => Sys2Proof.Machine.execTimedLaunch p s
  | .frameTxEnd p confirmed => Sys2Proof.Machine.execFrameTxEnd p confirmed s
  | .bestEffortSend p => Sys2Proof.Machine.execBestEffortSend p s
  | .thetaDecay p => Sys2Proof.Machine.execThetaDecay p s
  | .portAdminDown p => Sys2Proof.Machine.execPortAdminDown p s
  | .portAdminUp p => Sys2Proof.Machine.execPortAdminUp p s
  | .workItemAssign pick => Sys2Proof.Machine.execWorkItemAssign pick s
  | .galleryTick g k => Sys2Proof.Machine.execGalleryTick g k s
  | .ptpMessage pick => Sys2Proof.Machine.execPtpMessage pick s
  | .grantExpiry seam fi => Sys2Proof.Machine.execGrantExpiry seam fi s
  | .ntpRequest pick => Sys2Proof.Machine.execNtpRequest pick s
  | .ntsRequest pick => Sys2Proof.Machine.execNtsRequest pick s
  | .esmcInfoPdu p => Sys2Proof.Machine.execEsmcInfoPdu p s
  | .esmcEventPdu p => Sys2Proof.Machine.execEsmcEventPdu p s
  | .esmcPduReceived pick => Sys2Proof.Machine.execEsmcPduReceived pick s
  | .neighReply pick => Sys2Proof.Machine.execNeighReply pick s
  | .watchdogExpiry pick => Sys2Proof.Machine.execWatchdogExpiry pick s
  | .pickParityError pick => Sys2Proof.Machine.execPickParityError pick s
  | .storeUncorrectable g cell => Sys2Proof.Machine.execStoreUncorrectable g cell s
  | .pickSelftest pick => Sys2Proof.Machine.execPickSelftest pick s
  | .pickSelftestDone pick pass => Sys2Proof.Machine.execPickSelftestDone pick pass s
  | .galleryFaultFence g cause => Sys2Proof.Machine.execGalleryFaultFence g cause s
  | .rebindDone g => Sys2Proof.Machine.execRebindDone g s
  | .readmitBistDone g pass => Sys2Proof.Machine.execReadmitBistDone g pass s
  | .readmitLoadDone g => Sys2Proof.Machine.execReadmitLoadDone g s
  | .readmitWarmDone g => Sys2Proof.Machine.execReadmitWarmDone g s
  | .pairReturn p seam => Sys2Proof.Machine.execPairReturn p seam s
  | .tokenRampStep g => Sys2Proof.Machine.execTokenRampStep g s
  | .bankLoadDone g => Sys2Proof.Machine.execBankLoadDone g s
  | .swapDone g => Sys2Proof.Machine.execSwapDone g s
  | .swapDeadline g => Sys2Proof.Machine.execSwapDeadline g s
  | .stepRateMeasure g steps slots => Sys2Proof.Machine.execStepRateMeasure g steps slots s
  | .nop pick => Sys2Proof.Machine.execNop pick s
  | .ret pick => Sys2Proof.Machine.execRet pick s
  | .wait pick => Sys2Proof.Machine.execWait pick s
  | .getf pick d => Sys2Proof.Machine.execGetf pick d s
  | .setf pick n => Sys2Proof.Machine.execSetf pick n s
  | .flen pick x => Sys2Proof.Machine.execFlen pick x s
  | .flenr pick n => Sys2Proof.Machine.execFlenr pick n s
  | .kfeed pick k fi w => Sys2Proof.Machine.execKfeed pick k fi w s
  | .kres pick k fi => Sys2Proof.Machine.execKres pick k fi s
  | .kinit pick k => Sys2Proof.Machine.execKinit pick k s
  | .mov pick d n => Sys2Proof.Machine.execMov pick d n s
  | .add pick d n => Sys2Proof.Machine.execAdd pick d n s
  | .adc pick d n => Sys2Proof.Machine.execAdc pick d n s
  | .sub pick d n => Sys2Proof.Machine.execSub pick d n s
  | .sbc pick d n => Sys2Proof.Machine.execSbc pick d n s
  | .and pick d n => Sys2Proof.Machine.execAnd pick d n s
  | .or pick d n => Sys2Proof.Machine.execOr pick d n s
  | .xor pick d n => Sys2Proof.Machine.execXor pick d n s
  | .cmp pick d n => Sys2Proof.Machine.execCmp pick d n s
  | .tst pick d n => Sys2Proof.Machine.execTst pick d n s
  | .movi pick d x => Sys2Proof.Machine.execMovi pick d x s
  | .addi pick d x => Sys2Proof.Machine.execAddi pick d x s
  | .adci pick d x => Sys2Proof.Machine.execAdci pick d x s
  | .subi pick d x => Sys2Proof.Machine.execSubi pick d x s
  | .sbci pick d x => Sys2Proof.Machine.execSbci pick d x s
  | .andi pick d x => Sys2Proof.Machine.execAndi pick d x s
  | .ori pick d x => Sys2Proof.Machine.execOri pick d x s
  | .xori pick d x => Sys2Proof.Machine.execXori pick d x s
  | .cmpi pick d x => Sys2Proof.Machine.execCmpi pick d x s
  | .tsti pick d x => Sys2Proof.Machine.execTsti pick d x s
  | .shl pick d x => Sys2Proof.Machine.execShl pick d x s
  | .shr pick d x => Sys2Proof.Machine.execShr pick d x s
  | .rol pick d x => Sys2Proof.Machine.execRol pick d x s
  | .ror pick d x => Sys2Proof.Machine.execRor pick d x s
  | .not pick d => Sys2Proof.Machine.execNot pick d s
  | .neg pick d => Sys2Proof.Machine.execNeg pick d s
  | .bit pick d x => Sys2Proof.Machine.execBit pick d x s
  | .setb pick d x => Sys2Proof.Machine.execSetb pick d x s
  | .clrb pick d x => Sys2Proof.Machine.execClrb pick d x s
  | .ldn pick d fi x => Sys2Proof.Machine.execLdn pick d fi x s
  | .stn pick n fi x => Sys2Proof.Machine.execStn pick n fi x s
  | .fmov pick fi j ai aj => Sys2Proof.Machine.execFmov pick fi j ai aj s
  | .fadd pick fi j ai aj => Sys2Proof.Machine.execFadd pick fi j ai aj s
  | .fadc pick fi j ai aj => Sys2Proof.Machine.execFadc pick fi j ai aj s
  | .fsub pick fi j ai aj => Sys2Proof.Machine.execFsub pick fi j ai aj s
  | .fsbc pick fi j ai aj => Sys2Proof.Machine.execFsbc pick fi j ai aj s
  | .fand pick fi j ai aj => Sys2Proof.Machine.execFand pick fi j ai aj s
  | .fieldOr pick fi j ai aj => Sys2Proof.Machine.execFieldOr pick fi j ai aj s
  | .fxor pick fi j ai aj => Sys2Proof.Machine.execFxor pick fi j ai aj s
  | .fcmp pick fi j ai aj => Sys2Proof.Machine.execFcmp pick fi j ai aj s
  | .ftst pick fi j ai aj => Sys2Proof.Machine.execFtst pick fi j ai aj s
  | .ffill pick fi a n => Sys2Proof.Machine.execFfill pick fi a n s
  | .faddn pick fi a n => Sys2Proof.Machine.execFaddn pick fi a n s
  | .fadcn pick fi a n => Sys2Proof.Machine.execFadcn pick fi a n s
  | .fsubn pick fi a n => Sys2Proof.Machine.execFsubn pick fi a n s
  | .fcmpn pick fi a n => Sys2Proof.Machine.execFcmpn pick fi a n s
  | .fget pick fi a n => Sys2Proof.Machine.execFget pick fi a n s
  | .fput pick fi a n => Sys2Proof.Machine.execFput pick fi a n s
  | .fshl pick fi a => Sys2Proof.Machine.execFshl pick fi a s
  | .fshr pick fi a => Sys2Proof.Machine.execFshr pick fi a s
  | .faddi pick fi x => Sys2Proof.Machine.execFaddi pick fi x s
  | .fset pick fi sp x => Sys2Proof.Machine.execFset pick fi sp x s
  | .fcpy pick fi j => Sys2Proof.Machine.execFcpy pick fi j s
  | .fldp pick fi j => Sys2Proof.Machine.execFldp pick fi j s
  | .fstp pick fi j => Sys2Proof.Machine.execFstp pick fi j s
  | .faddb pick fi j => Sys2Proof.Machine.execFaddb pick fi j s
  | .faddr pick fi n => Sys2Proof.Machine.execFaddr pick fi n s
  | .faddw pick fi n => Sys2Proof.Machine.execFaddw pick fi n s
  | .fspace pick fi sp => Sys2Proof.Machine.execFspace pick fi sp s
  | .bra pick o => Sys2Proof.Machine.execBra pick o s
  | .beq pick o => Sys2Proof.Machine.execBeq pick o s
  | .bne pick o => Sys2Proof.Machine.execBne pick o s
  | .bcs pick o => Sys2Proof.Machine.execBcs pick o s
  | .bcc pick o => Sys2Proof.Machine.execBcc pick o s
  | .bmi pick o => Sys2Proof.Machine.execBmi pick o s
  | .bpl pick o => Sys2Proof.Machine.execBpl pick o s
  | .bhi pick o => Sys2Proof.Machine.execBhi pick o s
  | .call pick o => Sys2Proof.Machine.execCall pick o s
  | .jmp pick o => Sys2Proof.Machine.execJmp pick o s
  | .djnz pick d o => Sys2Proof.Machine.execDjnz pick d o s
  | .programFetchOverrun pick => Sys2Proof.Machine.execProgramFetchOverrun pick s
  | .sessionGet pick fi nowait => Sys2Proof.Machine.execSessionGet pick fi nowait s
  | .sessionGetResult pick slot uncorr => Sys2Proof.Machine.execSessionGetResult pick slot uncorr s
  | .sessionPut pick fi => Sys2Proof.Machine.execSessionPut pick fi s
  | .sessionPutDone pick => Sys2Proof.Machine.execSessionPutDone pick s
  | .crypto pick fi nowait => Sys2Proof.Machine.execCrypto pick fi nowait s
  | .cryptoResult pick checkOk => Sys2Proof.Machine.execCryptoResult pick checkOk s
  | .stamp pick fi => Sys2Proof.Machine.execStamp pick fi s
  | .emit pick fi => Sys2Proof.Machine.execEmit pick fi s
  | .emitRelease pick => Sys2Proof.Machine.execEmitRelease pick s
  | .drop pick => Sys2Proof.Machine.execDrop pick s
  | .count pick k => Sys2Proof.Machine.execCount pick k s
  | .inbox pick fi => Sys2Proof.Machine.execInbox pick fi s
  | .inboxDataLanded pick => Sys2Proof.Machine.execInboxDataLanded pick s
  | .lotteryDraw t progress => Sys2Proof.Machine.execLotteryDraw t progress s
  | .quotaRevoke t progress => Sys2Proof.Machine.execQuotaRevoke t progress s
  | .shaftCommit v => Sys2Proof.Machine.execShaftCommit v s
  | .patrolScrub m corr bad dirCorr dirBad => Sys2Proof.Machine.execPatrolScrub m corr bad dirCorr dirBad s
  | .ddrRefresh m => Sys2Proof.Machine.execDdrRefresh m s
  | .ddrAccessRelease m seam => Sys2Proof.Machine.execDdrAccessRelease m seam s
  | .laneSelftest c => Sys2Proof.Machine.execLaneSelftest c s
  | .laneSelftestDone c pass => Sys2Proof.Machine.execLaneSelftestDone c pass s
  | .haulBodyIssue link => Sys2Proof.Machine.execHaulBodyIssue link s
  | .haulBody pick => Sys2Proof.Machine.execHaulBody pick s
  | .haulBodyDeadline link => Sys2Proof.Machine.execHaulBodyDeadline link s
  | .haulFrameLaunch => Sys2Proof.Machine.execHaulFrameLaunch s
  | .haulDelayReqSend => Sys2Proof.Machine.execHaulDelayReqSend s
  | .keyReqSend link => Sys2Proof.Machine.execKeyReqSend link s
  | .keyRepeatSend link => Sys2Proof.Machine.execKeyRepeatSend link s
  | .haulKeyRx link frame tag => Sys2Proof.Machine.execHaulKeyRx link frame tag s
  | .haulDeltaRx link frame tag => Sys2Proof.Machine.execHaulDeltaRx link frame tag s
  | .haulKeyRepeatRx link frame tag => Sys2Proof.Machine.execHaulKeyRepeatRx link frame tag s
  | .haulDelayReqRx link frame tag => Sys2Proof.Machine.execHaulDelayReqRx link frame tag s
  | .haulKeyReqRx link frame tag => Sys2Proof.Machine.execHaulKeyReqRx link frame tag s
  | .twinFrameRx link frame tag => Sys2Proof.Machine.execTwinFrameRx link frame tag s
  | .haulRelease pick => Sys2Proof.Machine.execHaulRelease pick s
  | .haulCopyRelease link => Sys2Proof.Machine.execHaulCopyRelease link s
  | .splitWaitExpiry feed => Sys2Proof.Machine.execSplitWaitExpiry feed s
  | .haulLinkUp link => Sys2Proof.Machine.execHaulLinkUp link s
  | .haulLinkDown link => Sys2Proof.Machine.execHaulLinkDown link s
  | .joinWindowExpiry => Sys2Proof.Machine.execJoinWindowExpiry s
  | .followQualify => Sys2Proof.Machine.execFollowQualify s
  | .peerLost => Sys2Proof.Machine.execPeerLost s
  | .peerCanaryEdge => Sys2Proof.Machine.execPeerCanaryEdge s
  | .peerCanaryStop => Sys2Proof.Machine.execPeerCanaryStop s
  | .snapshotPeriodic => Sys2Proof.Machine.execSnapshotPeriodic s
  | .snapshotSaveDone ok => Sys2Proof.Machine.execSnapshotSaveDone ok s
  | .amendmentLogWritten ok => Sys2Proof.Machine.execAmendmentLogWritten ok s
  | .amendmentActivation => Sys2Proof.Machine.execAmendmentActivation s
  | .nopCommand src => Sys2Proof.Machine.execNopCommand src s
  | .surveyLoad src addr len flash => Sys2Proof.Machine.execSurveyLoad src addr len flash s
  | .surveyAmend src addr len persist => Sys2Proof.Machine.execSurveyAmend src addr len persist s
  | .svnCommit src => Sys2Proof.Machine.execSvnCommit src s
  | .keyWrite src slot attr label value => Sys2Proof.Machine.execKeyWrite src slot attr label value s
  | .keyErase src slot => Sys2Proof.Machine.execKeyErase src slot s
  | .attest src nonce slot => Sys2Proof.Machine.execAttest src nonce slot s
  | .privDrop src => Sys2Proof.Machine.execPrivDrop src s
  | .lifecycleAdvance src target => Sys2Proof.Machine.execLifecycleAdvance src target s
  | .selftest src g => Sys2Proof.Machine.execSelftest src g s
  | .galleryFence src g => Sys2Proof.Machine.execGalleryFence src g s
  | .galleryReadmit src g => Sys2Proof.Machine.execGalleryReadmit src g s
  | .pickReadmit src p => Sys2Proof.Machine.execPickReadmit src p s
  | .dialCheck src => Sys2Proof.Machine.execDialCheck src s
  | .snapshotSave src => Sys2Proof.Machine.execSnapshotSave src s
  | .snapshotRestore src addr len buf => Sys2Proof.Machine.execSnapshotRestore src addr len buf s
  | .faultAck src id all => Sys2Proof.Machine.execFaultAck src id all s
  | .deviceReset src magic => Sys2Proof.Machine.execDeviceReset src magic s
  | .pcieReset src => Sys2Proof.Machine.execPcieReset src s
  | .unknownCommand src code => Sys2Proof.Machine.execUnknownCommand src code s
  | .mailboxCommandEnd ok => Sys2Proof.Machine.execMailboxCommandEnd ok s
  | .vfMailboxCommand v code => Sys2Proof.Machine.execVfMailboxCommand v code s
  | .vfMailboxAnswer v => Sys2Proof.Machine.execVfMailboxAnswer v s
  | .spiRead addr n => Sys2Proof.Machine.execSpiRead addr n s
  | .spiWrite addr words check => Sys2Proof.Machine.execSpiWrite addr words check s
  | .snapRead offset n => Sys2Proof.Machine.execSnapRead offset n s
  | .spiUnknownOpcode op => Sys2Proof.Machine.execSpiUnknownOpcode op s
  | .pfFlr => Sys2Proof.Machine.execPfFlr s
  | .vfFlr v => Sys2Proof.Machine.execVfFlr v s
  | .perst => Sys2Proof.Machine.execPerst s
  | .powerStateChange d3hot => Sys2Proof.Machine.execPowerStateChange d3hot s
  | .linkL1Exit => Sys2Proof.Machine.execLinkL1Exit s
  | .msixUnmask vec => Sys2Proof.Machine.execMsixUnmask vec s
  | .w1cWrite m addr data => Sys2Proof.Machine.execW1cWrite m addr data s
  | .readClear m addr => Sys2Proof.Machine.execReadClear m addr s
  | .registerWrite m addr data => Sys2Proof.Machine.execRegisterWrite m addr data s
  | .faultEvent src cause detail => Sys2Proof.Machine.execFaultEvent src cause detail s
  | .railOutOfLimits rail outside => Sys2Proof.Machine.execRailOutOfLimits rail outside s
  | .thermalThreshold sensor low outward => Sys2Proof.Machine.execThermalThreshold sensor low outward s
  | .heldCauseEnd src cause => Sys2Proof.Machine.execHeldCauseEnd src cause s
  | .faultWindowClose src => Sys2Proof.Machine.execFaultWindowClose src s
  | .classRecovery k => Sys2Proof.Machine.execClassRecovery k s
  | .faultForce j mask => Sys2Proof.Machine.execFaultForce j mask s
  | .foremanHeartbeat => Sys2Proof.Machine.execForemanHeartbeat s
  | .foremanStall => Sys2Proof.Machine.execForemanStall s
  | .canaryEdge => Sys2Proof.Machine.execCanaryEdge s
  | .occupancySample => Sys2Proof.Machine.execOccupancySample s
  | .wbrCommit v => Sys2Proof.Machine.execWbrCommit v s
  | .wbrSnapshotArm v => Sys2Proof.Machine.execWbrSnapshotArm v s
  | .wbrSnapshotCapture periodic => Sys2Proof.Machine.execWbrSnapshotCapture periodic s
  | .wbrCounterRead addr => Sys2Proof.Machine.execWbrCounterRead addr s
  | .pcsFaultClear p kind => Sys2Proof.Machine.execPcsFaultClear p kind s
  | .linkL1Entry => Sys2Proof.Machine.execLinkL1Entry s
  | .configRetryEnd => Sys2Proof.Machine.execConfigRetryEnd s
  | .spiAccessStart => Sys2Proof.Machine.execSpiAccessStart s
  | .firstPulse m => Sys2Proof.Machine.execFirstPulse m s

end Sys2Proof.Machine
end

