-- ==== Sys2Proof/Machine/Step.lean ====
section
/-! DEFINITION. One step: the command at the front of the queue; on an empty queue the idle device lets one TBPLL tick pass and sends what waits. -/

namespace Sys2Proof.Machine

/-- One step of the block. [DESIGN CHOICE, log 1] [DESIGN CHOICE, log 2] -/
def step (s : State) : Host.Outcome State Fault Refusal :=
  match s.pending with
  | c :: r => exec c { s with pending := r }
  | [] => .next (idleTick s)

/-- `s` with the command that a word spells at the front of its queue: no row of the table has bits. [DESIGN CHOICE, log 1] -/
def State.withFetchWord (s : State) (nbits w : Nat) : State :=
  match decodeTableWord nbits w with
  | some c => { s with pending := c :: s.pending }
  | none => s

end Sys2Proof.Machine
end

