-- ==== Sys2Proof/Machine/Pins.lean ====
section
/-! DEFINITION. The states of the pins in reset, unconfigured and configured, by group (R417). -/

namespace Sys2Proof.Machine

/-- The groups of pins of R417. -/
inductive Pin where
  | canary
  | clientTx (p : PortNo)
  | haulTx (k : LinkNo)
  | out (m : OutNo)
  | todout (k : Ant)
  | ev (p : EvNo)
  | alertN
  | miso
  | qspi
  | ddr
  | pcie
  | inputs
  deriving DecidableEq, Repr

/-- What a pin group does. -/
inductive PinState where
  | low
  | high
  | highZ
  | electricalIdle
  | released
  | ignored
  | heldInReset
  /-- It does what its block makes it do. -/
  | active
  deriving DecidableEq, Repr

/-- A pin that is active once a condition holds, and in `idle` before. -/
def pinWhen (on : Bool) (idle : PinState) : PinState := if on then .active else idle

/-- STRUCTURE and OUTPUTS are applied (R417). -/
def configured (s : State) : Bool := s.power.phase == .running && s.surv.structureApplied

/-- The state of a pin group (R417). An output that is OFF is driven low, an event pin waits for its role (R172), and `MGMT_MISO`
is driven inside a transaction alone (R376). -/
def pinState (s : State) (p : Pin) : PinState :=
  match p with
  | .canary => if s.fault.canaryLevel then .high else .low
  | .clientTx k => pinWhen (configured s && portEn s k) .electricalIdle
  | .haulTx k => pinWhen (configured s && hTx s k) .electricalIdle
  | .out m => pinWhen (configured s && (outSt s m).state != .off) .low
  | .todout _ => pinWhen (configured s) .high
  | .ev k => pinWhen (configured s && (evCfg s k).role != 0) .highZ
  | .alertN => if alertLow s then .low else .released
  | .miso => .highZ
  | .qspi => pinWhen (s.power.phase == .running && s.surv.state == 1 && s.hostLoad.isNone) .high
  | .ddr => pinWhen (configured s) .low
  | .pcie => pinWhen (!s.pcie.inReset) .heldInReset
  | .inputs => pinWhen (configured s) .ignored

end Sys2Proof.Machine
end

