-- ==== Sys2Proof/Safety.lean ====
section
/-! DEFINITION. What counts as a safe run, and the frames that statements use: what a command may touch beside its own effect. -/

namespace Sys2Proof.Safety

open Machine

/-- `n` steps from `s` all answer a next state. -/
def runs : Nat → State → Prop
  | 0, _ => True
  | n + 1, s => ∃ t, step s = .next t ∧ runs n t

/-- Only the registers, the interrupt messages and the fault collector may differ (R367, R368, R388). -/
def OnlyReports (s t : State) : Prop := t = { s with rf := t.rf, pcie := t.pcie, fault := t.fault }

/-- Beside those, only the Tally may differ: the epoch, the gates and the conditions last seen. -/
def OnlyTally (s t : State) : Prop := t = { s with rf := t.rf, pcie := t.pcie, fault := t.fault, tally := t.tally }

/-- Only the passage of time: the clocks and the flywheel offset (R28, R55, R81). -/
def OnlyTime (s t : State) : Prop := t = { s with clk := t.clk, assay := { s.assay with phi := t.assay.phi } }

/-- What a transition of the Lode may touch (R62): the Lode's own state, the Assay's mark of a block spent in LOCKED,
and what is reported. -/
def OnlyLode (s t : State) : Prop :=
  t = { s with
    lode := t.lode, assay := { s.assay with blockOk := t.assay.blockOk }
    tally := t.tally, rf := t.rf, pcie := t.pcie, fault := t.fault }

/-- A reset of the whole device (R415, R416): OTP, the Magazine and the flash slots are kept, and with them the host's
buffers, the model's clock and the waiting commands; the lottery's LFSRs are seeded anew (R269), and the time that the
Dial's checks count starts; all else, but for the power state, is as State.reset holds it. -/
def ColdAfter (s t : State) : Prop :=
  t.otp = s.otp ∧ t.cry.mag = s.cry.mag ∧ t.flash = s.flash ∧ t.pending = s.pending ∧
  t.haul.snap.halves = s.haul.snap.halves ∧ t.clk.ticks = s.clk.ticks ∧ t.dial.since = s.clk.ticks ∧
  t.clk.freeCtr = s.clk.freeCtr + 1 ∧ (∀ g, g < 3 → sget {} t.shaft.groups g = { lfsr := (t.clk.freeCtr, 0) }) ∧
  { t with
    otp := {}, flash := [], pending := [], power := {}, cry := { t.cry with mag := [] }
    clk := { t.clk with ticks := 0, freeCtr := 0 }
    haul := { t.haul with snap := { t.haul.snap with halves := ({} : SnapSt).halves } }
    dial := { t.dial with since := 0 }, shaft := { t.shaft with groups := [] }
    fault := { t.fault with canaryLevel := false, heartbeatTick := 0, oscFrom := 0 } } = State.reset

/-- A measurement of the selected time reference that is good and neither late nor taken in COARSE (R17, R56, R78): the
reference takes part and is QUALIFIED, and frequency, consistency and source are inside their reject limits. -/
def GoodOffset (s : State) (ref : Nat) (e : Int) (age : Nat) : Prop :=
  refOff s ref = false ∧ stampInvalid s (s.clk.ticks - age) = false ∧ age ≤ ticksOfNs ((refRec s ref).validUs * 1000) ∧
  (refRec s ref).isTime = true ∧
  s.assay.selRef = ref ∧ isQualified s ref = true ∧ freqInside (refSt s ref) (refRec s ref).fRej true = true ∧
  (consCheck s ref (s.clk.ticks - age) (if isUpstream ref then e + (refSt s ref).rRx else e)).2.2 = true ∧
  (srcCheck s ref).2 = true

/-- One update of the time loop with phase error `x` of reference `n` (R57, R59, R68): integrator, correction and clamped
increment, and the parameters taken from LIMITS. -/
def ServoUpdate (s t : State) (n : Nat) (x : Int) : Prop :=
  let ki := gainI (fnInUse s n) (refRec s n).intervalNs
  let kp := gainP (fnInUse s n) (refRec s n).zeta
  let integ := s.lode.integ + Int.shiftRight (ki.1 * x) ki.2
  let corr := integ + Int.shiftRight (kp.1 * x) kp.2
  let inc := clampInt incMin incMax (s.lode.incFw + corr)
  t.lode.phaseErr = x ∧ t.lode.corrT = corr ∧ t.clk.inc = inc.toNat ∧
  t.lode.integ = integ - (s.lode.incFw + corr - inc) ∧ t.lode.pullSlope = s.cfg.lim.pullSlope ∧ t.lode.lim = s.cfg.lim

/-- Every stored register reads a 32-bit number (R5). -/
def Words32 (s : State) : Prop := ∀ a, rfGet s a < 2 ^ 32

/-- A mailbox command of the table: its set, code, flags and the first arguments that it writes (R372). -/
def mailboxOf : Instr → Option (MbxSrc × Nat × Nat × List Nat)
  | .nopCommand src => some (src, 0x00, 0, [])
  | .surveyLoad src addr len flash => some (src, 0x10, flash.toNat, [addr % 2 ^ 32, addr / 2 ^ 32, len])
  | .surveyAmend src addr len persist => some (src, 0x11, persist.toNat, [addr % 2 ^ 32, addr / 2 ^ 32, len])
  | .svnCommit src => some (src, 0x12, 0, [])
  | .keyWrite src slot attr label value => some (src, 0x20, 0, [slot, attr, label] ++ (value ++ List.replicate 8 0).take 8)
  | .keyErase src slot => some (src, 0x21, 0, [slot])
  | .attest src nonce slot => some (src, 0x22, 0, (nonce ++ List.replicate 8 0).take 8 ++ [slot])
  | .privDrop src => some (src, 0x23, 0, [])
  | .lifecycleAdvance src target => some (src, 0x24, 0, [target])
  | .selftest src g => some (src, 0x30, 0, [g])
  | .galleryFence src g => some (src, 0x31, 0, [g])
  | .galleryReadmit src g => some (src, 0x32, 0, [g])
  | .pickReadmit src p => some (src, 0x33, 0, [p])
  | .dialCheck src => some (src, 0x34, 0, [])
  | .snapshotSave src => some (src, 0x40, 0, [])
  | .snapshotRestore src addr len _ => some (src, 0x41, 0, [addr % 2 ^ 32, addr / 2 ^ 32, len])
  | .faultAck src id all => some (src, 0x50, 0, [id, all])
  | .deviceReset src magic => some (src, 0x60, 0, [magic])
  | .pcieReset src => some (src, 0x61, 0, [])
  | .unknownCommand src code => some (src, code, 0, [])
  | _ => none

/-- A doorbell of this set is accepted: the set is reachable, the engine free, and no SPI doorbell comes with one of the PF's
(R371, R418). -/
def Accepts (src : MbxSrc) (s : State) : Prop :=
  setReachable s src = true ∧ gateRefuses src s = false

/-- RESULT of the running command, once settled. -/
def mbxResult (s : State) : Option Nat := s.mbx.running.bind (·.result)

/-- A command is denied with none of its effect: only the engine's own state and the registers it wrote differ. -/
def DeniedBy (s t : State) : Prop := mbxResult t = some 2 ∧ OnlyReports { s with mbx := t.mbx } t

/-- No idle pick of a gallery takes a tick with a standard PTP program. -/
def NoPtpPull (s : State) (g : Nat) : Prop :=
  (∀ p ∈ picksOf g, (pickSt s p).phase ≠ .idle) ∨
  (let e := (moduleAt (activeBank s g) (dispatchEntry (activeBank s g) 0xC)).map (·.id)
   e ≠ some 1 ∧ e ≠ some 2)

/-! ### Instructions of a pick (R237 to R242) -/

/-- One pick alone may differ, with the event counters that a program error moves (R254). -/
def OnlyPick (pick : PickNo) (s t : State) : Prop :=
  (∀ x, x ≠ pick.val → pickSt t x = pickSt s x) ∧ t = { s with picks := t.picks, wbr := t.wbr }

/-- After a nibble instruction: register `d`, where one is written, takes `r` modulo 16; the flags take `z`, `c`
and `n`; it takes one step, goes on to the next instruction and changes nothing else. -/
def NibbleIs (pick : PickNo) (s t : State) (d : Option Reg) (r : Nat) (z c n : Bool) : Prop :=
  (∀ e : Reg, (pickSt t pick).reg e = if d = some e then r % 16 else (pickSt s pick).reg e) ∧
  pickSt t pick = { pickSt s pick with
    regs := (pickSt t pick).regs, z := z, c := c, n := n
    pc := (pickSt s pick).pc + 1, steps := (pickSt s pick).steps + 1 } ∧
  OnlyPick pick s t ∧ t.wbr = s.wbr

/-- After a nibble instruction whose Z and N follow its result. -/
def NibbleSet (pick : PickNo) (s t : State) (d : Option Reg) (r : Nat) (c : Bool) : Prop :=
  NibbleIs pick s t d r (decide (r % 16 = 0)) c (bitAt r 3)

/-- After a pointer instruction: pointer `j` takes an address and a tag, in `steps` steps, and nothing else of the
pick changes. -/
def PtrIs (pick : PickNo) (s t : State) (j : Ptr) (addr tag steps : Nat) : Prop :=
  (pickSt t pick).ptr j = { addr := addr % 2 ^ 16, tag := tag } ∧
  (∀ k, k ≠ j.val → (pickSt t pick).ptr k = (pickSt s pick).ptr k) ∧
  pickSt t pick = { pickSt s pick with
    ptrs := (pickSt t pick).ptrs, pc := (pickSt s pick).pc + 1, steps := (pickSt s pick).steps + steps } ∧
  OnlyPick pick s t

/-- The number in the `n` nibbles at a pointer, the first most significant (R238). -/
def fieldVal (p : PickSt) (f : FieldPtr) (n : Nat) : Nat :=
  (List.range n).foldl (fun v k => 16 * v + p.nib f.tag (f.addr + k)) 0

/-- A space of which a program may write every nibble and whose addresses wrap: LOCAL or RESP. -/
def Plain (f : FieldPtr) : Prop := f.tag = 0 ∨ f.tag = 2

/-- The fields at two pointers share no nibble, and the first lies in a plain space. -/
def Apart (f g : FieldPtr) (n : Nat) : Prop :=
  Plain f ∧ ∀ k m, k < n → m < n → f.tag ≠ g.tag ∨ (f.addr + k) % 4096 ≠ (g.addr + m) % 4096

/-- No result of a helper is outstanding for the pick (R240). -/
def Settled (pick : PickNo) (s : State) : Prop := ∀ k, resultPending s pick k = false

/-- After a field operation on the field at `i`: the number `r` stands there where it writes; Z and N follow `r`, C is
`c`; it takes FL steps; a pointer of `adv` whose bit is set advances by FL, and no other moves. -/
def FieldIs (pick : PickNo) (s t : State) (i : Ptr) (adv : List (Ptr × Bool)) (write : Bool) (r : Nat) (c : Bool) :
    Prop :=
  (let p := pickSt s pick
   let q := pickSt t pick
   fieldVal q (p.ptr i) p.fl = (if write then r else fieldVal p (p.ptr i) p.fl) ∧
   q.z = decide (r = 0) ∧ q.n = decide (16 ^ p.fl ≤ 2 * r) ∧ q.c = c ∧
   q.pc = p.pc + 1 ∧ q.steps = p.steps + p.fl ∧ q.regs = p.regs ∧ q.fl = p.fl ∧ q.stack = p.stack ∧ q.item = p.item ∧
   (∀ k : Ptr, q.ptr k = if adv.contains (k, true) then { p.ptr k with addr := ((p.ptr k).addr + p.fl) % 2 ^ 16 } else p.ptr k) ∧
   (∀ tag a, (tag ≠ (p.ptr i).tag ∨ ∀ k, k < p.fl → a % 4096 ≠ ((p.ptr i).addr + k) % 4096) → q.nib tag a = p.nib tag a)) ∧
  OnlyPick pick s t

end Sys2Proof.Safety
end

