-- ==== Sys2Proof/Certificates/Slice0/Obligations.lean ====
section
/-! DEFINITION. The statements for the provers. -/

open Sys2Proof Sys2Proof.Machine Sys2Proof.Safety

/-- For every command c, every list r of waiting commands and every state s: a step of s with c at the front of its queue answers what exec answers for c on s with the queue r. On an empty queue the step answers a next state. The queue and the idle tick are the model's own form (log entries 1 and 2). -/
def Obligations.StepRunsFrontCommand : Prop :=
  (∀ (c : Instr) (r : List Instr) (s : State), step { s with pending := c :: r } = exec c { s with pending := r }) ∧
  (∀ s : State, s.pending = [] → step s = .next (pmeSend (elapse 1 s)))

/-- Elapsed time composes: for every state, n ticks followed by m ticks leave exactly the state that n + m ticks leave. In particular no LO edge of the coarse backup counter is lost or counted twice, whatever the LO frequency. While the LO is present and the TBPLL is locked, n ticks add n times the increment to the time counter. While the LO is absent neither the time counter nor the coarse backup counter moves. Beside the clocks only the flywheel offset changes. -/
def Obligations.TimePassesAdditively : Prop :=
  (∀ (n m : Nat) (s : State), elapse m (elapse n s) = elapse (n + m) s) ∧
  (∀ (n : Nat) (s : State), s.lode.loOk = true → s.lode.tbpllLock = true →
    (elapse n s).clk.tc = s.clk.tc + n * s.clk.inc ∧ (elapse n s).clk.ticks = s.clk.ticks + n) ∧
  (∀ (n : Nat) (s : State), s.lode.loOk = false →
    (elapse n s).clk.tc = s.clk.tc ∧ (elapse n s).clk.coarse = s.clk.coarse) ∧
  (∀ (n : Nat) (s : State), OnlyTime s (elapse n s))

/-- In ACQUIRE, seeded, with the TBPLL locked, the LO present, the selected reference not in HOLDOFF and every update inside the window since tick t0, the Lode is LOCKED after the settle time in force, and while one of these does not hold it stays in ACQUIRE; in PULL it is LOCKED when r has reached 0, with no offset left; in HOLDOVER with a non-zero maximum it is INVALID when the maximum has passed, with SVC cleared; a first TBPLL lock takes a Lode in FREE with STRUCTURE applied to ACQUIRE. The time counter changes only by the ticks that pass, and only the Lode and what reports it change. Completes, under conditions on state and operands alone: LOCK_SETTLE_EXPIRY, PULL_END, HOLDOVER_MAX_EXPIRY, TBPLL_INITIAL_LOCK. -/
def Obligations.LodeTimersEndTheirStates : Prop :=
  (∀ (s : State) (t0 : Nat), s.lode.state = .acquire → s.lode.settleTick = some t0 → s.lode.seeded = true →
    s.lode.coarse = false → s.lode.loOk = true → (refSt s s.assay.selRef).q ≠ .holdoff →
    ∃ t u, u = elapseTo (t0 + s.lode.lim.lockSettle * ticksPerSec) s ∧
      exec .lockSettleExpiry s = .next t ∧ t.lode = { s.lode with state := .locked, was := lodeLog u } ∧ OnlyLode u t) ∧
  (∀ s : State, s.lode.seeded = false ∨ s.lode.coarse = true ∨ s.lode.loOk = false ∨
      (refSt s s.assay.selRef).q = .holdoff →
    exec .lockSettleExpiry s = .next s) ∧
  (∀ s : State, s.lode.state = .pull → s.lode.pullOn = true →
    ∃ t u, u = elapseTo (pullDue s) s ∧ exec .pullEnd s = .next t ∧
      t.lode = { s.lode with state := .locked, was := lodeLog u, pullOn := false, rFrozen := 0 } ∧ OnlyLode u t) ∧
  (∀ s : State, s.lode.state = .holdover → s.lode.lim.holdMax ≠ 0 →
    ∃ t u, u = elapseTo (s.lode.goodTick.getD s.clk.ticks + s.lode.lim.holdMax * ticksPerSec) s ∧
      exec .holdoverMaxExpiry s = .next t ∧
      t.lode = { s.lode with state := .invalid, was := lodeLog u, svc := false, pullOn := false, rFrozen := 0 } ∧
      OnlyLode u t) ∧
  (∀ s : State, s.lode.state = .free → s.surv.structureApplied = true →
    ∃ t, exec .tbpllInitialLock s = .next t ∧ t.lode.state = .acquire ∧ t.lode.loOk = true ∧ t.lode.tbpllLock = true ∧
      t.clk = { s.clk with inc := (incCal s).toNat } ∧ t.lode.svc = s.lode.svc)

/-- A lock loss sets COARSE, clears TBPLL_LOCK and AGE_VALID and discards the LO samples, keeps the Lode's state and SVC, and leaves the time counter alone. A relock sets TBPLL_LOCK only, but for a Lode in FREE with STRUCTURE applied, which enters ACQUIRE. The re-alignment decision loads the time counter from the coarse backup counter plus the fine phase and clears COARSE in every case; with an error above 5 ns a Lode in LOCKED, PULL or HOLDOVER ends in ACQUIRE with SVC clear, and one in FREE or ACQUIRE keeps its state and SVC; with an error of at most 5 ns a Lode in HOLDOVER, ACQUIRE or FREE keeps its state, and one that is LOCKED or in PULL enters PULL with the flywheel's difference as r, or keeps its state where the flywheel gives none. (That the state in force at the decision decides is the model's reading, log entry 65.) Completes, under conditions on state and operands alone: TBPLL_LOCK_LOSS, TBPLL_RELOCK, REALIGN_DECISION. -/
def Obligations.TbpllLossAndRealignment : Prop :=
  (∀ s : State, s.lode.tbpllLock = true → ∃ t, exec .tbpllLockLoss s = .next t ∧ t.lode.coarse = true ∧
    t.lode.tbpllLock = false ∧ t.lode.ageValid = false ∧ t.lode.loSamples = [] ∧ t.lode.state = s.lode.state ∧
    t.lode.svc = s.lode.svc ∧ t.clk = s.clk ∧ t.prt = s.prt ∧ t.gals = s.gals ∧ t.picks = s.picks ∧ t.cfg = s.cfg) ∧
  (∀ s : State, s.lode.loOk = true → s.lode.state ≠ .free ∨ s.surv.structureApplied = false →
    exec .tbpllRelock s = .next { s with lode := { s.lode with tbpllLock := true } }) ∧
  (∀ s : State, s.lode.loOk = true → s.lode.state = .free → s.surv.structureApplied = true →
    ∃ t, exec .tbpllRelock s = .next t ∧ t.lode.tbpllLock = true ∧ t.lode.state = .acquire ∧ t.clk = s.clk ∧
      t.lode.svc = s.lode.svc) ∧
  (∀ (fine : Nat) (theta : Option Int) (s : State), s.lode.coarse = true → s.lode.tbpllLock = true →
    s.lode.loOk = true → ∃ t, exec (.realignDecision fine theta) s = .next t ∧ t.lode.coarse = false ∧
      t.clk.tc = s.clk.coarse / 16 + fine ∧ t.clk.ticks = s.clk.ticks ∧
      t.lode.realignErr = codeOfFu (coarseError s theta).1 ∧
      (let was := s.lode.state
       (327680 < (coarseError s theta).1 →
          (was = .locked ∨ was = .pull ∨ was = .holdover → t.lode.state = .acquire ∧ t.lode.svc = false) ∧
          (was = .free ∨ was = .acquire → t.lode.state = was ∧ t.lode.svc = s.lode.svc)) ∧
       ((coarseError s theta).1 ≤ 327680 → t.lode.ec = (coarseError s theta).1 ∧ t.lode.svc = s.lode.svc ∧
          (was = .holdover ∨ was = .acquire ∨ was = .free → t.lode.state = was) ∧
          (was = .locked ∨ was = .pull →
            (∀ d, (coarseError s theta).2 = some d → t.lode.state = .pull ∧ t.lode.pullFrom = satSigned 64 d) ∧
            ((coarseError s theta).2 = none → t.lode.state = was)))))

/-- At an LO absence that is not yet held, LO_OK and TBPLL_LOCK clear, Lode time is unseeded and the ageing model is discarded; from LOCKED, PULL or HOLDOVER the Lode is INVALID with SVC clear, from FREE or ACQUIRE it keeps its state and SVC. When the LO returns, LO_OK and TBPLL_LOCK are set and COARSE is clear, and a Lode in INVALID, or in FREE with STRUCTURE applied, enters ACQUIRE; the time counter goes on from where it stopped, with no re-alignment (that COARSE clears with the return is the model's choice, log entry 29). The reload of R55 at a whole millisecond makes the coarse backup counter equal to the time counter while the TBPLL is locked. Completes, under conditions on state and operands alone: LO_ABSENCE_DETECTED, LO_RETURN, COARSE_RELOAD. -/
def Obligations.LoAbsenceAndReturn : Prop :=
  (∀ s : State, (srcSt s 17).held.contains 1 = false → ∃ t, exec .loAbsenceDetected s = .next t ∧
    t.lode.loOk = false ∧ t.lode.tbpllLock = false ∧ t.lode.seeded = false ∧ t.lode.ageValid = false ∧ t.clk = s.clk ∧
    (s.lode.state = .locked ∨ s.lode.state = .pull ∨ s.lode.state = .holdover →
      t.lode.state = .invalid ∧ t.lode.svc = false) ∧
    (s.lode.state = .free ∨ s.lode.state = .acquire → t.lode.state = s.lode.state ∧ t.lode.svc = s.lode.svc)) ∧
  (∀ s : State, s.lode.loOk = false → ∃ t, exec .loReturn s = .next t ∧ t.lode.loOk = true ∧
    t.lode.tbpllLock = true ∧ t.lode.coarse = false ∧ t.clk.tc = s.clk.tc ∧
    (s.lode.state = .invalid → t.lode.state = .acquire) ∧
    (s.lode.state = .free → s.surv.structureApplied = true → t.lode.state = .acquire)) ∧
  (∀ s : State, s.lode.tbpllLock = true → s.lode.coarse = false → ∃ t, exec .coarseReload s = .next t ∧
    t.clk.coarse = t.clk.tc * 16 ∧ t.clk.coarseRem = 0 ∧
    t.clk.tc = (elapseTo (nextMultiple ticksPerMs s) s).clk.tc ∧ t.lode = s.lode)

/-- A write of LODE_TIME_LATCH with bit 0 set latches Lode time, from the coarse backup counter and marked invalid while COARSE is 1, and the increment; a write of TALLY_LATCH with bit 0 set latches the bound of this tick; without bit 0 nothing changes. SERVICE_ENABLE completes with SVC set exactly when the Lode is LOCKED, the selected reference has completed its soak (it is QUALIFIED or in HOLDOFF) and the bound is at or below the device service limit; otherwise nothing changes. A one-second LO sample (LO_CORRECTION_SAMPLE) clears the running mean; while LOCKED, with the TBPLL locked, it adds the mean correction since the last sample and its tick to the samples, and takes the least-squares line of those of the ageing window; otherwise it changes nothing of the Lode. In HOLDOVER on the LO the rate update (HOLDOVER_RATE_UPDATE) puts the increment of R72 in force, with the correction, its history and the clamp mark that follow from it (one quotient, and the correction as what is left beside the flywheel's increment, are the model's choice, log entry 28); in another state, or on another flywheel, only time passes. When Lode time has passed the leap instant the offset takes the pending direction and the pending leap is clear. Completes, under conditions on state and operands alone: LODE_TIME_LATCH, TALLY_LATCH, SERVICE_ENABLE, LO_CORRECTION_SAMPLE, HOLDOVER_RATE_UPDATE, LEAP_APPLIED. -/
def Obligations.HoldoverSamplesLatchesAndServiceEnable : Prop :=
  (∀ (v : Nat) (s : State), bitAt v 0 = true → exec (.lodeTimeLatch v) s = .next { s with lode := { s.lode with
      latchTime := (if s.lode.coarse then coarseNow s / 16 else s.clk.tc) / 2 ^ 40
      latchInc := s.clk.inc, latchCoarse := s.lode.coarse } }) ∧
  (∀ (v : Nat) (s : State), bitAt v 0 = false → exec (.lodeTimeLatch v) s = .next s) ∧
  (∀ (v : Nat) (s : State), bitAt v 0 = true → ∃ x : TallyLatch,
    exec (.tallyLatch v) s = .next { s with tally := { s.tally with latch := x } } ∧
    x.bound = boundCode s (nowFu s) (maxDpt s) 0 ∧ x.boundHaul = boundCode s (nowFu s) 0 0 ∧
    x.trace = ownTrace s ∧ x.origin = originTrace s) ∧
  (∀ (v : Nat) (s : State), bitAt v 0 = false → exec (.tallyLatch v) s = .next s) ∧
  (∀ s : State, s.lode.state = .locked →
    ((refSt s s.assay.selRef).q = .qualified ∨ (refSt s s.assay.selRef).q = .holdoff) →
    boundCode s (nowFu s) (maxDpt s) 0 ≤ s.cfg.lim.svcLimit →
    exec .serviceEnable s = .next { s with lode := { s.lode with svc := true } }) ∧
  (∀ s : State, s.lode.state ≠ .locked ∨ s.cfg.lim.svcLimit < boundCode s (nowFu s) (maxDpt s) 0 ∨
      isUsable s s.assay.selRef = false → exec .serviceEnable s = .next s) ∧
  (∀ s : State, s.lode.state = .locked → s.lode.coarse = false → s.lode.loOk = true → s.lode.tbpllLock = true →
    ∃ t u f, u = elapseTo (nextMultiple ticksPerSec s) s ∧ f = fitOf s.lode.lim.ageWindow t.lode.loSamples ∧
      exec .loCorrectionSample s = .next t ∧ t.clk = { u.clk with incSum := 0, incN := 0 } ∧
      t.lode = { s.lode with
        loSamples := histPush u.clk.ticks (loCorrection u) (max s.lode.lim.ageWindow (keepSpan s)) s.lode.loSamples
        ageRate := slopePerSec f, ageSlope := lsSlope f, fitC := lsAt f u.clk.ticks, fitTick := u.clk.ticks
        fitN := f.length, ageValid := s.lode.ageValid || decide (3600 ≤ f.length) } ∧
      OnlyReports { u with lode := t.lode, clk := t.clk } t) ∧
  (∀ s : State, s.lode.state ≠ .locked ∨ s.lode.coarse = true → ∃ u, u = elapseTo (nextMultiple ticksPerSec s) s ∧
    exec .loCorrectionSample s = .next { u with clk := { u.clk with incSum := 0, incN := 0 } }) ∧
  (∀ s : State, s.lode.state = .holdover → s.lode.fwRef = 63 →
    ∃ t u, u = elapseTo (nextMultiple ticksPerSec s) s ∧ exec .holdoverRateUpdate s = .next t ∧
      t.clk = { u.clk with inc := (loHoldoverInc u).toNat } ∧
      t.lode = { s.lode with
        corrT := loHoldoverInc u - s.lode.incFw
        corrHist := coursePush u.clk.ticks (loHoldoverInc u - s.lode.incFw) (keepSpan s) s.lode.corrHist
        clamped := decide (loHoldoverInc u ≠ loHoldoverRaw u) || s.lode.fwClamped } ∧
      t.assay = { u.assay with phiMarks := phiMark u } ∧
      OnlyReports { u with lode := t.lode, clk := t.clk, assay := t.assay } t) ∧
  (∀ s : State, s.lode.state ≠ .holdover ∨ s.lode.fwRef ≠ 63 →
    exec .holdoverRateUpdate s = .next (elapseTo (nextMultiple ticksPerSec s) s)) ∧
  (∀ s : State, s.leap.pending = 0 → exec .leapApplied s = .next s) ∧
  (∀ s : State, s.leap.pending ≠ 0 → ∃ t, exec .leapApplied s = .next t ∧ t.leap = leapApply s.leap ∧
    t.leap.offset = s.leap.offset + s.leap.pending ∧ t.leap.pending = 0 ∧ OnlyTime s { t with leap := s.leap })

/-- For a reference that takes part, REF_MEASUREMENT completes. A measurement older than the validity age is counted as missing and changes neither the clocks nor the Lode; one stamped while COARSE was 1 changes nothing, whenever it arrives (log entry 30); any other becomes the reference's last measurement, at its stamp tick. A good measurement of the selected time reference in ACQUIRE, with the LO present, sets the time counter by the offset and keeps the integrator and the state, when Lode time is not seeded or the offset is above the lock window; within the window it updates the servo and the settle time runs from the first such update. A good one in LOCKED or PULL, less the pull offset at the stamp point in PULL, puts in force the clamped sum of the flywheel's increment and the correction, with the integrator of R57 backed off by what the clamp removed, and the amended pull slope from this update on. The form that takes the block's own measurement does the same with it, and nothing without one. Completes, under conditions on state and operands alone: REF_MEASUREMENT. -/
def Obligations.GoodMeasurementDrivesTheServo : Prop :=
  (∀ (ref : RefId) (e : Int) (age : Nat) (s : State), refOff s ref = false →
    ticksOfNs ((refRec s ref).validUs * 1000) < age →
    ∃ t, exec (.refMeasurement ref (some (e, age))) s = .next t ∧ (refSt t ref).missRun = (refSt s ref).missRun + 1 ∧
      (refSt t ref).missed = true ∧ (∀ m, m ≠ ref.val → refSt t m = refSt s m) ∧ t.clk = s.clk ∧ t.lode = s.lode) ∧
  (∀ (ref : RefId) (e : Int) (age : Nat) (s : State), refOff s ref = false →
    age ≤ ticksOfNs ((refRec s ref).validUs * 1000) → stampInvalid s (s.clk.ticks - age) = true →
    exec (.refMeasurement ref (some (e, age))) s = .next s) ∧
  (∀ (ref : RefId) (e : Int) (age : Nat) (s : State), refOff s ref = false →
    age ≤ ticksOfNs ((refRec s ref).validUs * 1000) → stampInvalid s (s.clk.ticks - age) = false →
    ∃ t, exec (.refMeasurement ref (some (e, age))) s = .next t ∧ (refSt t ref).lastE = e ∧
      (refSt t ref).lastTick = some (s.clk.ticks - age) ∧ (refSt t ref).active = true ∧
      (refSt t ref).missRun = 0 ∧ ∀ m, m ≠ ref.val → refSt t m = refSt s m) ∧
  (∀ (ref : RefId) (e : Int) (age : Nat) (s : State), GoodOffset s ref e age → s.lode.state = .acquire →
    s.lode.loOk = true → s.lode.seeded = false ∨ s.cfg.lim.lockWindow < e.natAbs →
    ∃ t, exec (.refMeasurement ref (some (e, age))) s = .next t ∧ t.clk.tc = ((s.clk.tc : Int) + e * 2 ^ 40).toNat ∧
      t.lode.seeded = true ∧ t.lode.state = .acquire ∧ t.lode.integ = s.lode.integ ∧ t.clk.inc = s.clk.inc ∧
      t.lode.settleTick = none) ∧
  (∀ (ref : RefId) (e : Int) (age : Nat) (s : State), GoodOffset s ref e age → s.lode.state = .acquire →
    s.lode.loOk = true → s.lode.seeded = true → e.natAbs ≤ s.cfg.lim.lockWindow →
    ∃ t, exec (.refMeasurement ref (some (e, age))) s = .next t ∧ t.clk.tc = s.clk.tc ∧ t.lode.state = .acquire ∧
      t.lode.settleTick = some (s.lode.settleTick.getD s.clk.ticks) ∧ ServoUpdate s t ref (satSigned 64 (satSigned 64 e))) ∧
  (∀ (ref : RefId) (e : Int) (age : Nat) (s : State), GoodOffset s ref e age → s.lode.state = .locked →
    ∃ t, exec (.refMeasurement ref (some (e, age))) s = .next t ∧ t.clk.tc = s.clk.tc ∧ t.lode.state = .locked ∧
      ServoUpdate s t ref (satSigned 64 (satSigned 64 e))) ∧
  (∀ (ref : RefId) (e : Int) (age : Nat) (s : State), GoodOffset s ref e age → s.lode.state = .pull →
    ∃ t, exec (.refMeasurement ref (some (e, age))) s = .next t ∧ t.clk.tc = s.clk.tc ∧ t.lode.state = .pull ∧
      ServoUpdate s t ref (satSigned 64 (satSigned 64 e - rAt s (s.clk.ticks - age)))) ∧
  (∀ (ref : RefId) (e : Int) (t0 : Nat) (s : State), (refSt s ref).offered = some (e, t0) →
    exec (.refMeasurement ref none) s =
      exec (.refMeasurement ref (some (e, s.clk.ticks - t0))) (refMod ref (fun r => { r with offered := none }) s)) ∧
  (∀ (ref : RefId) (s : State), (refSt s ref).offered = none → exec (.refMeasurement ref none) s = .next s)

/-- A reference in SOAK whose checks are all inside their accept limits and that missed no measurement is QUALIFIED at the end of the soak, and REJECTED there when a check is outside or a measurement was missed; one in HOLDOFF still outside a reject limit is REJECTED when it is active and ABSENT when not (both rows of R86 hold of the latter, the model's choice: log entry 67); a reference in another state is left alone by both. The end of a wait-to-restore timer is a decision tick: one that has not been decided evaluates every reference and selects what R89 selects, and at any other instant only time passes; an activity timeout makes a clock or pulse reference inactive three nominal periods after its last edge, and nothing else; the activity of any other reference is not that of edges. No other reference's monitor changes with a soak, a hold-off or an activity timeout. Completes, under conditions on state and operands alone: SOAK_EXPIRY, HOLDOFF_EXPIRY, WAIT_TO_RESTORE_EXPIRY, REF_ACTIVITY_TIMEOUT. -/
def Obligations.QualificationTimers : Prop :=
  (∀ (ref : RefId) (s : State), refOff s ref = false → (refSt s ref).q = .soak → (refSt s ref).active = true →
    ∃ t, exec (.soakExpiry ref) s = .next t ∧ (∀ m, m ≠ ref.val → refSt t m = refSt s m) ∧
      (inAccept (elapseTo (soakDue s ref) s) ref = true → (refSt s ref).missed = false → (refSt t ref).q = .qualified) ∧
      (inAccept (elapseTo (soakDue s ref) s) ref = false ∨ (refSt s ref).missed = true → (refSt t ref).q = .rejected)) ∧
  (∀ (ref : RefId) (s : State), (refSt s ref).q ≠ .soak → exec (.soakExpiry ref) s = .next s) ∧
  (∀ (ref : RefId) (s : State), refOff s ref = false → (refSt s ref).q = .holdoff → (refSt s ref).immediate = false →
    inReject (elapseTo (holdoffDue s ref) s) ref = false →
    ∃ t, exec (.holdoffExpiry ref) s = .next t ∧
      (refSt t ref).q = (if (refSt s ref).active then .rejected else .absent) ∧
      (∀ m, m ≠ ref.val → refSt t m = refSt s m)) ∧
  (∀ (ref : RefId) (s : State), (refSt s ref).q ≠ .holdoff → exec (.holdoffExpiry ref) s = .next s) ∧
  (∀ (ref : RefId) (s : State), isUsable s ref = true → atDecision (elapseTo (wtrDue s ref) s) = true →
    nowFu (elapseTo (wtrDue s ref) s) / lodeMs ≠ s.assay.tickMs →
    ∃ t u, u = elapseTo (wtrDue s ref) s ∧ exec (.waitToRestoreExpiry ref) s = .next t ∧
      t.assay.selRef = ((selectRef (refsEval (tickBegins u))).map (·.2)).getD 63 ∧
      t.assay.refs = (refsEval (tickBegins u)).assay.refs ∧ t.assay.tickMs = nowFu u / lodeMs) ∧
  (∀ (ref : RefId) (s : State), isUsable s ref = true →
    atDecision (elapseTo (wtrDue s ref) s) = false ∨ nowFu (elapseTo (wtrDue s ref) s) / lodeMs = s.assay.tickMs →
    exec (.waitToRestoreExpiry ref) s = .next (elapseTo (wtrDue s ref) s)) ∧
  (∀ (ref : RefId) (s : State), isUsable s ref = false → exec (.waitToRestoreExpiry ref) s = .next s) ∧
  (∀ (ref : RefId) (s : State), (ref.val < 6 ∨ 8 ≤ ref.val ∧ ref.val < 12) →
    ∃ u, OnlyTime s u ∧ u.clk.ticks = max s.clk.ticks (activityDue s ref) ∧
      exec (.refActivityTimeout ref) s = .next (refMod ref (fun r => { r with active := false }) u)) ∧
  (∀ (ref : RefId) (s : State), (6 ≤ ref.val ∧ ref.val < 8 ∨ 12 ≤ ref.val) →
    exec (.refActivityTimeout ref) s = .next s)

/-- A decision tick, once every reference is evaluated, selects what these rules give; where they give nothing, nothing is selected, and a Lode that was locked or pulling on a reference enters HOLDOVER. The selected reference is always one of the list in force, QUALIFIED, or the current one while it is usable. Here an entry is ready when it is QUALIFIED and its wait-to-restore timer has expired, or nothing has been selected since reset (R90). While the selected reference is in the list and QUALIFIED or in HOLDOFF, the selection goes to the first ready revertive entry at a lower position, and stays where there is none (rules 1 and 3). When it is not in the list or not usable, the selection is the first ready entry in list order; where none is ready, the first QUALIFIED one regardless of its timer; and nothing exactly where none is QUALIFIED (rule 2). Completes, under conditions on state and operands alone: ASSAY_DECISION_TICK. -/
def Obligations.SelectionFollowsTheListOrder : Prop :=
  (∀ s : State, s.surv.state = 3 → ∃ t, exec .assayDecisionTick s = .next t ∧
    (let u := refsEval (tickBegins (elapseTo (nextDecision s) s))
     (∀ p n, selectRef u = some (p, n) → t.assay.selRef = n) ∧
     (selectRef u = none → t.assay.selRef = 63 ∧
      (u.assay.selRef ≠ 63 → u.lode.state = .locked ∨ u.lode.state = .pull → t.lode.state = .holdover)))) ∧
  (∀ (s : State) (p n : Nat), selectRef s = some (p, n) → ∃ e, (p, e) ∈ timeList s ∧ e.id = n ∧
    (isQualified s n = true ∨ (n = s.assay.selRef ∧ isUsable s n = true))) ∧
  (∀ s : State, selectRef s = none → ∀ x ∈ timeList s, isQualified s x.2.id = false) ∧
  (∀ s : State,
    let ready := fun (x : Nat × ListEntry) => isQualified s x.2.id = true ∧
      (s.assay.started = false ∨ wtrExpired s x.2.id = true)
    let cur := (timeList s).find? (fun x => x.2.id == s.assay.selRef)
    (∀ q e, cur = some (q, e) → isUsable s e.id = true →
      (∀ p n, selectRef s = some (p, n) → n ≠ s.assay.selRef →
        ∃ f, (p, f) ∈ timeList s ∧ f.id = n ∧ f.revertive = true ∧ p < q ∧ ready (p, f) ∧
          ∀ x ∈ timeList s, x.1 < p → x.2.revertive = true → ¬ ready x) ∧
      ((∀ x ∈ timeList s, x.1 < q → x.2.revertive = true → ¬ ready x) → selectRef s = some (q, e.id))) ∧
    (cur = none ∨ (∃ q e, cur = some (q, e) ∧ isUsable s e.id = false) →
      (∀ p n, selectRef s = some (p, n) → ∃ f, (p, f) ∈ timeList s ∧ f.id = n ∧ isQualified s n = true ∧
        ((∃ x ∈ timeList s, ready x) → ready (p, f) ∧ ∀ x ∈ timeList s, x.1 < p → ¬ ready x) ∧
        ((∀ x ∈ timeList s, ¬ ready x) → ∀ x ∈ timeList s, x.1 < p → isQualified s x.2.id = false)) ∧
      (∀ x ∈ timeList s, isQualified s x.2.id = true → selectRef s ≠ none)))

/-- Before an image is applied ASSAY_DECISION_TICK changes nothing. After it, the decision falls on the next whole millisecond of Lode time (while the LO is absent, of device time: log entry 62), every reference that takes no part (it has no entry in force, or it is a link in a lower link's feed) is DISABLED, every other one is not, and the waiting commands, the ports and the galleries are as they were. Completes, under conditions on state and operands alone: ASSAY_DECISION_TICK. -/
def Obligations.DecisionTickSettlesEveryReference : Prop :=
  (∀ s : State, s.surv.state ≠ 3 → exec .assayDecisionTick s = .next s) ∧
  (∀ s : State, s.surv.state = 3 → ∃ t, exec .assayDecisionTick s = .next t ∧
    (∀ n, n < 33 → ((refSt t n).q = .disabled ↔ refOff s n = true)) ∧
    t.clk.ticks = max s.clk.ticks (nextDecision s) ∧
    t.pending = s.pending ∧ t.prt = s.prt ∧ t.gals = s.gals ∧ t.cfg = s.cfg)

/-- A QL delivered for a SyncE reference (IDs 8 to 11) is held with its tick, and a DNU or DUS (15) rejects a reference that is QUALIFIED or in HOLDOFF at once and leaves another's state; for another reference nothing changes. Five seconds without an information PDU leave no QL. The loss of a PTP master marks it; for a reference that is QUALIFIED or in HOLDOFF it holds the rate and the last measurement against which its return is checked, unless a loss before it still holds them, and it moves a QUALIFIED reference to HOLDOFF (to REJECTED with no hold-off). A missing measurement is counted. A tau_avg block that was wholly LOCKED adds its average, where the block has a sample, to the averages of R97; any other gives none. Completes, under conditions on state and operands alone: ESMC_QL_DELIVERED, ESMC_QL_TIMEOUT, PTP_ANNOUNCE_TIMEOUT, MEASUREMENT_MISSING, TAU_AVG_BLOCK_END. -/
def Obligations.SyncEAndPtpReferenceInputs : Prop :=
  (∀ (ref : RefId) (ql : Nat) (s : State), 8 ≤ ref.val → ref.val < 12 → ql < 15 →
    exec (.esmcQlDelivered ref ql) s = .next { s with assay := { s.assay with refs := smod {} s.assay.refs ref fun r =>
      { r with ql := ql, qlTick := some s.clk.ticks, immediate := false } } }) ∧
  (∀ (ref : RefId) (s : State), 8 ≤ ref.val → ref.val < 12 → isUsable s ref = true →
    ∃ t, exec (.esmcQlDelivered ref 15) s = .next t ∧ (refSt t ref).q = .rejected ∧ (refSt t ref).ql = 15 ∧
      ∀ m, m ≠ ref.val → refSt t m = refSt s m) ∧
  (∀ (ref : RefId) (s : State), 8 ≤ ref.val → ref.val < 12 → isUsable s ref = false →
    exec (.esmcQlDelivered ref 15) s = .next (refMod ref (fun r =>
      { r with ql := 15, qlTick := some s.clk.ticks, immediate := false }) s)) ∧
  (∀ (ref : RefId) (ql : Nat) (s : State), (ref.val < 8 ∨ 12 ≤ ref.val) → exec (.esmcQlDelivered ref ql) s = .next s) ∧
  (∀ (ref : RefId) (t0 : Nat) (s : State), (refSt s ref).qlTick = some t0 → ∃ u, OnlyTime s u ∧
    u.clk.ticks = max s.clk.ticks (t0 + 5 * ticksPerSec) ∧
    exec (.esmcQlTimeout ref) s = .next (refMod ref (fun r => { r with qlTick := none }) u)) ∧
  (∀ (ref : RefId) (s : State), 12 ≤ ref.val → ref.val < 16 →
    ∃ t, exec (.ptpAnnounceTimeout ref) s = .next t ∧ (∀ m, m ≠ ref.val → refSt t m = refSt s m) ∧
      (refSt t ref).masterLost = true ∧
      (isUsable s ref = true → (refRec s ref).holdoffDs ≠ 0 → (refSt t ref).returning = true) ∧
      (isUsable s ref = false → (refSt t ref).returning = (refSt s ref).returning) ∧
      (isUsable s ref = true → (refSt s ref).returning = false → (refSt t ref).heldRate = (refSt s ref).freq.getD 0 ∧
        (refSt t ref).heldE = (refSt s ref).lastE ∧ (refSt t ref).heldTick = (refSt s ref).lastTick) ∧
      ((refSt s ref).returning = true → (refSt t ref).heldRate = (refSt s ref).heldRate) ∧
      ((refSt s ref).q = .qualified →
        (refSt t ref).q = (if (refRec s ref).holdoffDs = 0 then .rejected else .holdoff)) ∧
      ((refSt s ref).q ≠ .qualified → (refSt t ref).q = (refSt s ref).q)) ∧
  (∀ (ref : RefId) (s : State), (ref.val < 12 ∨ 16 ≤ ref.val) → exec (.ptpAnnounceTimeout ref) s = .next s) ∧
  (∀ (ref : RefId) (s : State), (refRec? s ref).isSome = true →
    ∃ t, exec (.measurementMissing ref) s = .next t ∧ (refSt t ref).missRun = (refSt s ref).missRun + 1 ∧
      (∀ m, m ≠ ref.val → refSt t m = refSt s m)) ∧
  (∀ (ref : RefId) (s : State), (refSt s ref).qlTick = none → exec (.esmcQlTimeout ref) s = .next s) ∧
  (∀ s : State, s.lode.state = .locked → s.assay.blockOk = true → ∃ t u, OnlyTime s u ∧
    exec .tauAvgBlockEnd s = .next t ∧ t.assay.blockOk = true ∧ t.lode = s.lode ∧
    ∀ a, blockAverage u u.clk.ticks = some a → t.assay.blocks = histPush u.clk.ticks a 604800 s.assay.blocks) ∧
  (∀ s : State, s.lode.state = .locked → s.assay.blockOk = false → ∃ u, OnlyTime s u ∧
    exec .tauAvgBlockEnd s = .next { u with assay := { u.assay with blockOk := true, blockTick := u.clk.ticks } }) ∧
  (∀ s : State, s.lode.state ≠ .locked → ∃ u, OnlyTime s u ∧
    exec .tauAvgBlockEnd s = .next { u with assay := { u.assay with blockOk := false, blockTick := u.clk.ticks } })

/-- An event of R21 increments the epoch at once when the previous increment is 10 us or more past, and otherwise only sets the hold; its tick is held for the frames on the line. EPOCH_HOLD_EXPIRY makes the held increment and clears the hold; without a hold it changes nothing. SEAM_RESUME makes a stopped seam serve again when its bound is at or below its limit and otherwise stops the resume timer. The millisecond evaluation touches the Tally and what reports it only. Completes, under conditions on state and operands alone: EPOCH_HOLD_EXPIRY, SEAM_RESUME, SERVICE_GATE_EVAL. -/
def Obligations.StampEpochAndServiceGates : Prop :=
  (∀ (s : State) (t0 : Nat), s.tally.lastInc = some t0 → t0 + 15625 ≤ s.clk.ticks →
    (bumpEpoch s).tally.epoch = (s.tally.epoch + 1) % 256 ∧ (bumpEpoch s).tally.lastInc = some s.clk.ticks) ∧
  (∀ (s : State) (t0 : Nat), s.tally.lastInc = some t0 → s.clk.ticks < t0 + 15625 →
    bumpEpoch s = { s with tally := { s.tally with
      hold := true, moves := (s.clk.ticks :: s.tally.moves).take 8 } }) ∧
  (∀ s : State, s.tally.hold = true → ∃ t, exec .epochHoldExpiry s = .next t ∧
    t.tally.epoch = (s.tally.epoch + 1) % 256 ∧ t.tally.hold = false ∧ t.tally.lastInc = some t.clk.ticks ∧
    OnlyTally (elapseTo (s.tally.lastInc.getD s.clk.ticks + 15625) s) t) ∧
  (∀ s : State, s.tally.hold = false → exec .epochHoldExpiry s = .next s) ∧
  (∀ (m : SeamNo) (t0 : Nat) (s : State), (seamGate s m).stopped = true → (seamGate s m).belowTick = some t0 →
    ∃ t u, u = elapseTo (t0 + (seamRec s m).resumeMs * ticksPerMs) s ∧ exec (.seamResume m) s = .next t ∧ OnlyTally u t ∧
      (seamBound u m ≤ (seamRec s m).limit → (seamGate t m).stopped = false) ∧
      ((seamRec s m).limit < seamBound u m → (seamGate t m) = { stopped := true, belowTick := none })) ∧
  (∀ s : State, ∃ t, exec .serviceGateEval s = .next t ∧ OnlyTally (elapseTo (nextMultiple ticksPerMs s) s) t ∧
    t.tally.epoch = s.tally.epoch)

/-- On a channel that takes a source and is enabled, an edge with both lines busy counts in DIAL_CH_CNT.DEAD, spoils the block of a sample clock, and changes nothing else; with a free line it becomes the channel's last timestamp, made by L0 when L0 is free and no check edge occupies it, and by L1 otherwise, that line is busy for the next 12 ticks, and the device clock does not move (the whole ticks of the busy time, and which line a check edge occupies, are the model's choice: log entry 31); the time counter does not either, since no reference that an edge measures is a time reference. A pulse under 100 ns of a clock or pulse reference only counts in RUNTS. An edge on an unassigned or disabled channel, or of a squelched recovered clock, changes nothing. Completes, under conditions on state and operands alone: DIAL_EDGE. -/
def Obligations.DialEdgesTakeAFreeLineOrAreDropped : Prop :=
  (∀ (ch : DialCh) (code width : Nat) (s : State),
    ((dialCfg s ch).role = 0 ∨ dialEn s ch = false ∨ edgeSquelched s ch = true) →
    exec (.dialEdge ch ⟨code, width⟩) s = .next s) ∧
  (∀ (ch : DialCh) (code width : Nat) (s : State), (dialCfg s ch).role ≠ 0 → dialEn s ch = true →
    edgeSquelched s ch = false → isRunt s ch width = true → exec (.dialEdge ch ⟨code, width⟩) s =
      .next (rfBump (refBase (dialRef (dialCfg s ch).source) + 0x14) 31 16 1 s)) ∧
  (∀ (ch : DialCh) (code width : Nat) (s : State), (dialCfg s ch).role ≠ 0 → dialEn s ch = true →
    edgeSquelched s ch = false → isRunt s ch width = false →
    s.clk.ticks < (dialCh s ch).busy0 → s.clk.ticks < (dialCh s ch).busy1 → ∃ t, exec (.dialEdge ch ⟨code, width⟩) s = .next t ∧
      t = { rfBump (dialBase ch + 0x34) 31 16 1 s with dial := t.dial } ∧ (isSmp s ch = false → t.dial = s.dial) ∧
      (isSmp s ch = true → (dialCh t ch).block.bad = true)) ∧
  (∀ (ch : DialCh) (code width : Nat) (s : State), (dialCfg s ch).role ≠ 0 → dialEn s ch = true →
    edgeSquelched s ch = false → isRunt s ch width = false →
    ((dialCh s ch).busy0 ≤ s.clk.ticks ∨ (dialCh s ch).busy1 ≤ s.clk.ticks) →
    ∃ t, exec (.dialEdge ch ⟨code, width⟩) s = .next t ∧ t.clk.ticks = s.clk.ticks ∧
      ((dialCfg s ch).role ≠ 1 ∨ (refRec s (dialRef (dialCfg s ch).source)).isTime = false → t.clk.tc = s.clk.tc) ∧
      (if (dialCh s ch).busy0 ≤ s.clk.ticks ∧ (checkEdge ch s).1 ≠ some false then
        (dialCh t ch).lastT = some (dialTime s ch 0 code, s.clk.ticks) ∧
          (dialCh t ch).busy0 = s.clk.ticks + 12 ∧ (dialCh t ch).busy1 = (dialCh s ch).busy1
      else
        (dialCh t ch).lastT = some (dialTime s ch 1 code, s.clk.ticks) ∧
          (dialCh t ch).busy1 = s.clk.ticks + 12 ∧ (dialCh t ch).busy0 = (dialCh s ch).busy0))

/-- A temperature read sets the temperature. A background check starts a check of each of the 24 channels unless DIAL_CHECK runs. A line's complete check (as many samples at every known fraction as R110 or, of DIAL_CHECK, R113 asks) clears its staleness and takes the drift of their means; with d the drift of the worse line, the excess e is d + 0.5 ps when d is above 3 ps and 0 otherwise, and at least 10.5 ps while the other line is stale: it rises at once, and falls only to the largest of three checks, each complete with its second line. A check of a line that is not being checked, or is complete, or that has not collected its samples, changes nothing. An abandoned check ends, and the three start anew. A stale line raises the excess to at least 10.5 ps and starts the three anew, and one that is already stale changes nothing. Completes, under conditions on state and operands alone: DIAL_TEMP_READ, DIAL_BACKGROUND_CHECK, DIAL_CHECK_COMPLETE, DIAL_CHECK_ABANDON, DIAL_LINE_STALE. -/
def Obligations.DialSelfCheckSetsTheExcess : Prop :=
  (∀ (temp : Int) (s : State), ∃ u, OnlyTime s u ∧ u.clk.ticks = max s.clk.ticks (nextMultiple ticksPerMs s) ∧
    exec (.dialTempRead temp) s = .next { u with dial := { u.dial with temp := temp } }) ∧
  (∀ (s : State), ∃ t, exec .dialBackgroundCheck s = .next t ∧
    (s.dial.chkRun = true → t.dial = s.dial) ∧
    (s.dial.chkRun = false → ∀ n, n < 24 → (dialCh t n).checking = some t.clk.ticks) ∧
    OnlyTime s { t with dial := s.dial }) ∧
  (∀ (ch : DialCh) (line1 : Bool) (mu : List (List (Nat × Nat))) (s : State), (dialCh s ch).checking.isSome = true →
    (if line1 then (dialCh s ch).done1 else (dialCh s ch).done0) = false → checkCollected s mu = true →
    ∃ t, exec (.dialCheckComplete ch line1 mu) s = .next t ∧ OnlyTally { s with dial := t.dial } t ∧
      (∀ m, m ≠ ch.val → dialCh t m = dialCh s m) ∧
      (let c := dialCh s ch
       let d := lineDrift s.cfg.str.loMHz (mu.map (checkMean ch line1 s.dial.temp))
       let w := max d (if line1 then c.drift0 else c.drift1)
       let e := max (if (if line1 then c.stale0 else c.stale1) then 688128 else 0) (if 196608 < w then w + 32768 else 0)
       let three := (e :: c.lastThree).take 3
       (if line1 then (dialCh t ch).drift1 = d ∧ (dialCh t ch).stale1 = false ∧ (dialCh t ch).check1 = s.clk.ticks
        else (dialCh t ch).drift0 = d ∧ (dialCh t ch).stale0 = false ∧ (dialCh t ch).check0 = s.clk.ticks) ∧
       ((if line1 then c.done0 else c.done1) = true → (dialCh t ch).checking = none ∧ (dialCh t ch).lastThree = three ∧
         (dialCh t ch).excess = (if c.excess < e then e
          else if three.length = 3 ∧ maxNat three < c.excess then maxNat three else c.excess)) ∧
       ((if line1 then c.done0 else c.done1) = false → (dialCh t ch).checking = c.checking ∧
         (dialCh t ch).lastThree = c.lastThree ∧ (dialCh t ch).excess = max c.excess e))) ∧
  (∀ (ch : DialCh) (line1 : Bool) (mu : List (List (Nat × Nat))) (s : State),
    ((dialCh s ch).checking = none ∨ (if line1 then (dialCh s ch).done1 else (dialCh s ch).done0) = true ∨
      checkCollected s mu = false) →
    exec (.dialCheckComplete ch line1 mu) s = .next s) ∧
  (∀ (ch : DialCh) (t0 : Nat) (s : State), (dialCh s ch).checking = some t0 → ∃ t u, OnlyTime s u ∧
    u.clk.ticks = max s.clk.ticks (t0 + ticksPerSec) ∧ exec (.dialCheckAbandon ch) s = .next t ∧
    OnlyReports { u with dial := t.dial } t ∧ dialCh t ch = { dialCh s ch with
      checking := none, done0 := false, done1 := false, lastThree := [] } ∧
    ∀ m, m ≠ ch.val → dialCh t m = dialCh s m) ∧
  (∀ (ch : DialCh) (s : State), (dialCh s ch).stale1 = false →
    ∃ t, exec (.dialLineStale ch true) s = .next t ∧ (dialCh t ch).stale1 = true ∧ (dialCh t ch).lastThree = [] ∧
      688128 ≤ (dialCh t ch).excess ∧ (dialCh s ch).excess ≤ (dialCh t ch).excess ∧
      (∀ m, m ≠ ch.val → dialCh t m = dialCh s m) ∧ t.lode = s.lode) ∧
  (∀ (ch : DialCh) (s : State), (dialCh s ch).stale0 = false →
    ∃ t, exec (.dialLineStale ch false) s = .next t ∧ (dialCh t ch).stale0 = true ∧ (dialCh t ch).lastThree = [] ∧
      688128 ≤ (dialCh t ch).excess ∧ (dialCh s ch).excess ≤ (dialCh t ch).excess ∧
      (∀ m, m ≠ ch.val → dialCh t m = dialCh s m) ∧ t.lode = s.lode) ∧
  (∀ (ch : DialCh) (s : State), (dialCh s ch).checking = none → exec (.dialCheckAbandon ch) s = .next s) ∧
  (∀ (ch : DialCh) (s : State), (dialCh s ch).stale0 = true → exec (.dialLineStale ch false) s = .next s) ∧
  (∀ (ch : DialCh) (s : State), (dialCh s ch).stale1 = true → exec (.dialLineStale ch true) s = .next s)

/-- On an enabled USER channel in INTERVAL mode, ARM starts a measurement when none runs, holds one trigger while one runs, and adds one to DIAL_CH_CNT.LOST for each further one, which changes nothing else but the interrupt; in FREQUENCY mode without CONT it starts a gate in the same way, and one that is already held counts as LOST; on a REF or MON channel ARM and DISARM change nothing. DISARM discards a held trigger without counting. An interval that is not stopped in 2^32 ns ends with a result of value 0 marked TIMEOUT (the value, and that the time counts from the trigger, are the model's choices: log entry 31) and a held trigger starts the next. A read of RES0 answers the current result's word, latches it and clears NEW. A gate on a USER channel ends when it is full, or after its time where its points are not spaced out or it saw an invalid edge, and otherwise goes on (these corners are the model's choice: log entry 31); with at least two points it gives a frequency result with the next sequence number, its value where TB does not take the ageing out, and INVALID and no value when the gate saw an invalid edge. Completes, under conditions on state and operands alone: DIAL_ARM, DIAL_DISARM, DIAL_INTERVAL_TIMEOUT, DIAL_RESULT_READ, FREQUENCY_GATE_END. -/
def Obligations.DialTriggersRunHoldAndCount : Prop :=
  (∀ (ch : DialCh) (s : State), (dialCfg s ch).role = 3 → dialEn s ch = true → dialMode s ch = 1 →
    ((dialCh s ch).running = none → ∃ t, exec (.dialArm ch) s = .next t ∧ OnlyReports { s with dial := t.dial } t ∧
      (dialCh t ch).running = some s.clk.ticks ∧ (dialCh t ch).startT = none ∧ ∀ m, m ≠ ch.val → dialCh t m = dialCh s m) ∧
    ((dialCh s ch).running.isSome = true → (dialCh s ch).held = false → ∃ t, exec (.dialArm ch) s = .next t ∧
      OnlyReports { s with dial := t.dial } t ∧ (dialCh t ch).held = true ∧ (dialCh t ch).running = (dialCh s ch).running) ∧
    ((dialCh s ch).running.isSome = true → (dialCh s ch).held = true → ∃ t, exec (.dialArm ch) s = .next t ∧
      OnlyReports s t ∧ t.dial = s.dial ∧
      rfField t (dialBase ch + 0x34) 7 0 = satAdd 8 (rfField s (dialBase ch + 0x34) 7 0) 1)) ∧
  (∀ (ch : DialCh) (s : State), (dialCfg s ch).role = 3 → dialEn s ch = true → dialMode s ch = 2 → dialCont s ch = false →
    ((dialCh s ch).running = none → ∃ t, exec (.dialArm ch) s = .next t ∧ OnlyReports { s with dial := t.dial } t ∧
      (dialCh t ch).running = some s.clk.ticks ∧ (dialCh t ch).gate = some (newGate s) ∧
      ∀ m, m ≠ ch.val → dialCh t m = dialCh s m) ∧
    ((dialCh s ch).running.isSome = true → (dialCh s ch).held = true → ∃ t, exec (.dialArm ch) s = .next t ∧
      OnlyReports s t ∧ rfField t (dialBase ch + 0x34) 7 0 = satAdd 8 (rfField s (dialBase ch + 0x34) 7 0) 1)) ∧
  (∀ (ch : DialCh) (s : State), (dialCfg s ch).role ≠ 3 →
    exec (.dialArm ch) s = .next s ∧ exec (.dialDisarm ch) s = .next s) ∧
  (∀ (ch : DialCh) (s : State), (dialCfg s ch).role = 3 →
    exec (.dialDisarm ch) s = .next (dialMod ch (fun c => { c with held := false }) s)) ∧
  (∀ (ch : DialCh) (t0 : Nat) (s : State), (dialCh s ch).running = some t0 → dialMode s ch = 1 → (dialCfg s ch).role = 3 →
    ∃ t, exec (.dialIntervalTimeout ch) s = .next t ∧ (dialCh t ch).result.timeout = true ∧
      (dialCh t ch).result.value = 0 ∧
      (dialCh t ch).isNew = true ∧ (dialCh t ch).held = false ∧
      (dialCh t ch).running = (if (dialCh s ch).held then some t.clk.ticks else none) ∧
      t.clk.ticks = max s.clk.ticks (t0 + ticksOfNs (2 ^ 32))) ∧
  (∀ (ch : DialCh) (s : State), exec (.dialResultRead ch) s = .next { s with
    dial := { s.dial with ch := smod {} s.dial.ch ch fun c =>
      { c with latched := c.result, latchedNew := c.isNew, isNew := false } }
    pcie := { s.pcie with readData := dialResWord (dialCh s ch).result (dialCh s ch).isNew 0 } }) ∧
  (∀ (ch : DialCh) (g : DialGate) (s : State), (dialCh s ch).gate = some g → (dialCfg s ch).role = 3 → 2 ≤ g.pts.length →
    (gateFull s ch g = true ∨ dialSpacing s ch = 1 ∨ g.invalid = true) →
    ∃ t, exec (.frequencyGateEnd ch) s = .next t ∧ (dialCh t ch).isNew = true ∧
      (dialCh t ch).result.seq = ((dialCh s ch).result.seq + 1) % 256 ∧ (dialCh t ch).result.isTime = false ∧
      (dialCh t ch).result.n = g.pts.length ∧
      (g.invalid = true → (dialCh t ch).result.invalid = true ∧ (dialCh t ch).result.value = 0) ∧
      (g.invalid = false → dialTb s ch ≠ 2 → (dialCh t ch).result.value = twosComp 64 (gateFreq s ch g)) ∧ t.lode = s.lode) ∧
  (∀ (ch : DialCh) (g : DialGate) (s : State), (dialCh s ch).gate = some g → gateFull s ch g = false →
    1 < dialSpacing s ch → g.invalid = false → exec (.frequencyGateEnd ch) s = .next s) ∧
  (∀ (ch : DialCh) (s : State), (dialCh s ch).gate = none → exec (.frequencyGateEnd ch) s = .next s)

/-- A stop request that no amendment made ends at the end of the period in progress, with the output in the requested state, not emitting; one that an amendment made restarts an enabled output of no group. In a window whose mean error is x: a slewing output is ALIGNED when |x| is at most the deadband and goes on slewing otherwise (x is that of the command, or the mean of the edges converted; without either only time passes: the model's choices, log entry 35); an aligned one slews when |x| is above 100 ps, keeps its state otherwise, and moves its edges by one step of opposite sign when |x| is above the deadband. A slew step moves the edges by one step size of opposite sign and leaves the slew's end to the next window. A snap output that has its grid restarts ALIGNED on the first grid instant at least 20 us after the snap edge, with no phase error. A pulse output that may emit begins to; one that a lock loss stopped starts again after a successful re-alignment. Other outputs are as they were. Completes, under conditions on state and operands alone: OUTPUT_STOPPED, HOLD_LOOP_WINDOW, SLEW_STEP, SNAP_RESTART, FIRST_PULSE. -/
def Obligations.OutputsStopSlewAndAlign : Prop :=
  (∀ (m : OutNo) (dst : OutState) (s : State), (outSt s m).stopReq = some dst → (outSt s m).byAmend = false →
    ∃ t, exec (.outputStopped m) s = .next t ∧ OnlyReports { elapseTo (outSt s m).stopTick s with outs := t.outs } t ∧
      (outSt t m).state = dst ∧ (outSt t m).emitting = false ∧ (outSt t m).stopReq = none ∧
      ∀ k, k ≠ m.val → outSt t k = outSt s k) ∧
  (∀ (m : OutNo) (dst : OutState) (s : State), (outSt s m).stopReq = some dst → (outSt s m).byAmend = true →
    (outCfg s m).en = true → (outCfg s m).group = 0 → s.lode.loOk = true →
    ∃ t, exec (.outputStopped m) s = .next t ∧ (outSt t m).stopReq = none ∧ (outSt t m).waiting = false ∧
      (outSt t m).state = (if (outCfg s m).align = 0 then .free else .starting)) ∧
  (∀ (m : OutNo) (s : State), (outSt s m).stopReq = none → exec (.outputStopped m) s = .next s) ∧
  (∀ (m : OutNo) (s : State), (outSt s m).accN = 0 →
    exec (.holdLoopWindow m none) s = .next (elapseTo (windowEnd s m) s)) ∧
  (∀ (m : OutNo) (s : State), (outSt s m).accN ≠ 0 →
    exec (.holdLoopWindow m none) s =
      exec (.holdLoopWindow m (some (roundDiv (outSt s m).accSum (outSt s m).accN))) s) ∧
  (∀ (m : OutNo) (s : State), (outSt s m).state ≠ .slew → exec (.slewStep m) s = .next s) ∧
  (∀ (m : OutNo) (x : Int) (s : State), ∃ t, exec (.holdLoopWindow m (some x)) s = .next t ∧
    (∀ k, k ≠ m.val → outSt t k = outSt s k) ∧ (outSt t m).phi = x ∧ (outSt t m).accN = 0 ∧
    ((outSt s m).state = .slew → (outSt t m).edgeAt = (outSt s m).edgeAt ∧
      (outSt t m).state = (if x.natAbs ≤ deadband s m then .aligned else .slew)) ∧
    ((outSt s m).state = .aligned →
      (outSt t m).state = (if 6553600 < x.natAbs then .slew else .aligned) ∧
      (outSt t m).edgeAt = (outSt s m).edgeAt + (if 6553600 < x.natAbs ∨ x.natAbs ≤ deadband s m then 0
        else if 0 < x then -(stepSize s m : Int) else stepSize s m))) ∧
  (∀ (m : OutNo) (s : State), (outSt s m).state = .slew →
    ∃ t, exec (.slewStep m) s = .next t ∧ (∀ k, k ≠ m.val → outSt t k = outSt s k) ∧
      outSt t m = { outSt s m with
        edgeAt := (outSt s m).edgeAt + (if 0 < (outSt s m).phi then -(stepSize s m : Int) else stepSize s m)
        stepTick := max s.clk.ticks (outSt s m).stepTick + stepInterval s m }) ∧
  (∀ (m : OutNo) (g : Int) (s : State), (outSt s m).state = .starting → (outSt s m).grid = some g →
    (outSt s m).snapDone = false → ∃ t, exec (.snapRestart m) s = .next t ∧ (outSt t m).state = .aligned ∧
      (outSt t m).edgeAt = gridNext g (outPeriod s m) (((outSt s m).snapAt + fuOfNs 20000) * 1000 : Nat) ∧
      (outSt t m).phi = 0 ∧ ∀ k, k ≠ m.val → outSt t k = outSt s k) ∧
  (∀ (m : OutNo) (s : State), mayEmit s m = true → (outSt s m).state = .aligned →
    ∃ t, exec (.firstPulse m) s = .next t ∧ (outSt t m).emitting = true ∧ (outSt t m).state = .aligned ∧
      ∀ k, k ≠ m.val → outSt t k = outSt s k) ∧
  (∀ (m : OutNo) (s : State), (outSt s m).state = .stopped → (outCfg s m).pulse = true → s.outs.realigned = true →
    s.lode.coarse = false → ∃ t, exec (.firstPulse m) s = .next t ∧
      (outSt t m).state = (if (outCfg s m).align = 0 then .free else .starting) ∧
      (outSt t m).emitting = (outSt s m).lastEdge.isSome ∧ ∀ k, k ≠ m.val → outSt t k = outSt s k)

/-- START without the characterisation bit only sets the refusal; with it START enters the first segment and leaves a group hold; STOP sets y_r to 0, clears RUN and HOLD. While it runs and is not held, each microsecond adds the slope of a ramp segment to y_r within +-1.0e-4 and takes one from the segment's time while any is left; a held or stopped one keeps y_r. A segment that ends inside a half is followed by the next. An active half that ends with the other half unfilled holds y_r as its last segment leaves it; the other synthesisers of the groups are held with it, each at its y_r. A refill marks the other half ready. When every held synthesiser has a filled half (its next one, or the one it plays while it has segments left), RAMP_RESUME releases all of them; otherwise nothing changes. Completes, under conditions on state and operands alone: RAMP_START, RAMP_STOP, RAMP_UPDATE, RAMP_SEGMENT_END, RAMP_HALF_REFILL, RAMP_UNDERRUN, RAMP_RESUME. -/
def Obligations.RampPlaybackAndUnderrun : Prop :=
  (∀ (n : SynNo) (s : State), (synCfg s n).char = false →
    exec (.rampStart n) s = .next (synMod n (fun y => { y with refused := true }) s)) ∧
  (∀ (n : SynNo) (g : RampSeg) (s : State), (synCfg s n).char = true → (synSt s n).run = false →
    (synCfg s n).profile[0]? = some g → g.type ≠ 0 →
    ∃ t, exec (.rampStart n) s = .next t ∧ (synSt t n).run = true ∧ (synSt t n).hold = (synSt s n).hold ∧ (synSt t n).seg = 0 ∧
      (synSt t n).left = g.dur ∧ (synSt t n).yr = (if g.type = 2 then clampInt (-yrMax) yrMax g.value else 0)) ∧
  (∀ (n : SynNo) (s : State), (synSt s n).run = true →
    ∃ t, exec (.rampStop n) s = .next t ∧ (synSt t n).yr = 0 ∧ (synSt t n).run = false ∧ (synSt t n).hold = false ∧
      ∀ k, k ≠ n.val → synSt t k = synSt s k) ∧
  (∀ (n : SynNo) (s : State), ∃ t, exec (.rampUpdate n) s = .next t ∧
    (((synSt s n).run = false ∨ (synSt s n).hold = true) → synSt t n = synSt s n) ∧
    (∀ g, (synSt s n).run = true → (synSt s n).hold = false → (synCfg s n).profile[(synSt s n).seg]? = some g →
      (synSt t n).yr = clampInt (-yrMax) yrMax ((synSt s n).yr + if g.type = 1 ∧ 0 < (synSt s n).left then g.value else 0) ∧
      (synSt t n).left = (synSt s n).left - 1)) ∧
  (∀ (n : SynNo) (g : RampSeg) (s : State), (synSt s n).run = true → (synSt s n).hold = false →
    ((synSt s n).seg + 1) % 512 ≠ 0 → (synCfg s n).profile[(synSt s n).seg + 1]? = some g → g.type ≠ 0 →
    ∃ t, exec (.rampSegmentEnd n) s = .next t ∧ (synSt t n).seg = (synSt s n).seg + 1 ∧
      (synSt t n).left = g.dur ∧ (synSt t n).run = true) ∧
  (∀ (n : SynNo) (s : State), (synSt s n).run = true → exec (.rampHalfRefill n) s =
    .next (synMod n (fun y => { y with nextReady := true }) s)) ∧
  (∀ (n : SynNo) (g : RampSeg) (s : State), (synSt s n).run = true → (synSt s n).hold = false →
    (synSt s n).nextReady = false → lastOfHalf s n = true → (synCfg s n).profile[(synSt s n).seg]? = some g →
    ∃ t, exec (.rampUnderrun n) s = .next t ∧ (∀ k ∈ holdSet s n, (synSt t k).hold = true) ∧
      (synSt t n).left = 0 ∧ (synSt t n).seg = (synSt s n).seg ∧
      (synSt t n).yr = clampInt (-yrMax) yrMax
        ((synSt s n).yr + (if g.type = 1 then g.value else 0) * (synSt s n).left) ∧
      (∀ k, k ≠ n.val → (synSt t k).yr = (synSt s k).yr) ∧ t.lode = s.lode) ∧
  (∀ (n : SynNo) (s : State), (synSt s n).run = false →
    exec (.rampHalfRefill n) s = .next s ∧ exec (.rampStop n) s = .next s) ∧
  (∀ s : State, (∀ n, n < 4 → (synSt s n).hold = true → halfFilled s n = true) →
    ∃ t, exec .rampResume s = .next t ∧ ∀ n, n < 4 → (synSt t n).hold = false) ∧
  (∀ (n : SynNo) (s : State), (synSt s n).hold = true → halfFilled s n = false → exec .rampResume s = .next s)

/-- When a TODOUT has an edge to name that it has not named, its sentence is 52 bytes long, the sequence number is the next one modulo 2^16, and the validity rules of a TODIN accept it exactly when its bound is not the unbounded code. Nothing but the TODOUT and the time changes. Until an image is applied the pin is ignored; then a sentence that is not valid at a TODIN, or that cannot have come since its start bit at the reference's baud rate (the model's check, log entry 35), changes nothing but the counter of invalid sentences and the interrupt; a valid one leaves its sequence number in the TODIN. Completes, under conditions on state and operands alone: TODOUT_SENTENCE, TODIN_SENTENCE. -/
def Obligations.TimeOfDaySentencesAreOnesTheReceiverTakes : Prop :=
  (∀ (k : Ant) (e : Nat) (s : State),
    (let o := outSt s (sget {} s.cfg.outs.todout k).out
     (if o.emitting then some (pulsePrev s (sget {} s.cfg.outs.todout k).out (nowFu s)) else o.lastEdge) = some e) →
    (sget {} s.cfg.outs.todout k).baud ≠ 0 → (sget {} s.outs.todout k).named ≠ some e →
    ∃ t, exec (.todoutSentence k) s = .next t ∧ (sget {} t.outs.todout k).sentence.length = 52 ∧
      (sget {} t.outs.todout k).seq = ((sget {} s.outs.todout k).seq + 1) % 2 ^ 16 ∧
      (sget {} t.outs.todout k).named = some e ∧
      (sentenceValid (sget {} t.outs.todout k).sentence = true ↔
        sentenceCode s k (sget {} s.cfg.outs.todout k).out e ≠ 0xFFFFFFFF) ∧
      OnlyTime s { t with outs := s.outs }) ∧
  (∀ (k : Ant) (bytes : List Nat) (ago : Nat) (s : State), s.surv.structureApplied = false →
    exec (.todinSentence k bytes ago) s = .next s) ∧
  (∀ (k : Ant) (bytes : List Nat) (ago : Nat) (s : State), s.surv.structureApplied = true →
    (let baud := match todinRef s k with
       | some r => (refRec s r).baud
       | none => 0
     (sentenceValid bytes = false ∨ tooShort baud ago = true →
       ∃ t, exec (.todinSentence k bytes ago) s = .next t ∧ OnlyReports s t) ∧
     (sentenceValid bytes = true → tooShort baud ago = false →
       ∃ t, exec (.todinSentence k bytes ago) s = .next t ∧ (sget {} t.outs.todin k).seq = beAt bytes 44 2 ∧
         t.prt = s.prt ∧ t.gals = s.gals)))

/-- A read of EV_KNOCK0 pops the oldest capture, or shows an empty FIFO. A selected edge of a pulse of at least 2 ns on a knock pin without a Dial channel, 20 ns or more after the last coarse capture, appends one capture to a FIFO that holds fewer than 16 and otherwise only counts. A write of EV_BELL_SEC_HI with GO queues the assembled instant behind the others when fewer than four wait, when it is later than the last one's pulse and at least 1 us ahead, and changes no queue otherwise. BELL_FIRE takes the first instant, placed to the nearest 40 ps, and makes the pin active; BELL_END makes it inactive. Completes, under conditions on state and operands alone: KNOCK_READ, KNOCK_CAPTURE, BELL_ENQUEUE, BELL_FIRE, BELL_END. -/
def Obligations.KnocksAndBellsAreQueues : Prop :=
  (∀ (p : EvNo) (k : Knock) (r : List Knock) (s : State), (evSt s p).knocks = k :: r →
    exec (.knockRead p) s = .next { s with
      outs := { s.outs with ev := smod {} s.outs.ev p fun e => { e with knocks := r, popped := some k } }
      pcie := { s.pcie with readData := knockWord (evSt { s with
        outs := { s.outs with ev := smod {} s.outs.ev p fun e => { e with knocks := r, popped := some k } } } p).popped } }) ∧
  (∀ (p : EvNo) (s : State), (evSt s p).knocks = [] →
    ∃ t, exec (.knockRead p) s = .next t ∧ t.pcie.readData = 2 ^ 16 ∧ (evSt t p).popped = none ∧ (evSt t p).knocks = []) ∧
  (∀ (p : EvNo) (rise : Bool) (code width : Nat) (s : State), (evCfg s p).role = 1 → 2 ≤ width →
    bitAt (evCfg s p).edge (if rise then 0 else 1) = true → dialOf s 3 (0x15 + p) = none →
    (∀ t0, (evSt s p).coarseTick = some t0 → t0 + 32 ≤ s.clk.ticks) →
    ∃ t, exec (.knockCapture p rise ⟨code, width⟩) s = .next t ∧ (∀ q, q ≠ p.val → evSt t q = evSt s q) ∧
      (16 ≤ (evSt s p).knocks.length → (evSt t p).knocks = (evSt s p).knocks) ∧
      ((evSt s p).knocks.length < 16 → (evSt t p).knocks = (evSt s p).knocks ++
        [{ time := (lodeNow s - 32 * 2 ^ 56 / 100) / 2 ^ 40, invalid := s.lode.coarse, coarse := true, rise := rise }])) ∧
  (∀ (p : EvNo) (v : Nat) (s : State), bitAt v 31 = true → (evCfg s p).role = 2 →
    (let t0 := (v % 2 ^ 16 * 2 ^ 32 + (evSt s p).asmSecLo) * oneSec + (evSt s p).asmNs * 65536 + (evSt s p).asmFrac
     ∃ t, exec (.bellEnqueue p v) s = .next t ∧
       ((evSt s p).bells.length < 4 → (∀ b, (evSt s p).bells.getLast? = some b → b + fuOfNs (bellWidth s p + 10) < t0) →
         nowFu s + fuOfNs 1000 ≤ t0 → (evSt t p).bells = (evSt s p).bells ++ [t0]) ∧
       ((4 ≤ (evSt s p).bells.length ∨ t0 < nowFu s + fuOfNs 1000) → t.outs = s.outs ∧ OnlyReports s t))) ∧
  (∀ (p : EvNo) (t0 : Nat) (r : List Nat) (s : State), (evSt s p).bells = t0 :: r →
    ∃ t, exec (.bellFire p) s = .next t ∧ (evSt t p).bells = r ∧
      (evSt t p).activeUntil = some (bellPlace t0 + fuOfNs (bellWidth s p)) ∧ ∀ q, q ≠ p.val → evSt t q = evSt s q) ∧
  (∀ (p : EvNo) (t0 : Nat) (s : State), (evSt s p).activeUntil = some t0 →
    ∃ t, exec (.bellEnd p) s = .next t ∧ (evSt t p).activeUntil = none ∧ (evSt t p).bells = (evSt s p).bells)

/-- For every state with both antennas in use (a single-antenna configuration is not spoken of), whatever both antennas observe and whatever the pair checks find: after GNSS_SOLUTION an antenna that is alarmed has a reference outside its accept limit, so the Assay cannot qualify it. The time counter moves only by the ticks up to the next whole second, and the Lode's own state does not change. Completes, under conditions on state and operands alone: GNSS_SOLUTION. -/
def Obligations.AlarmedAntennaFailsItsSourceCheck : Prop :=
  ∀ (oa ob : Option AntObs) (geom : List (Nat × Nat)) (s : State), antUsed s 0 = true → antUsed s 1 = true →
    ∃ t, exec (.gnssSolution oa ob geom) s = .next t ∧
      (∀ a, a < 2 → (antSt t a).alarm = true → (refSt t (6 + a)).srcAcc = false) ∧
      t.clk = (elapseTo (tickOfLode ((nowFu s / oneSec + 1) * oneSec) s) s).clk ∧ t.lode = s.lode ∧ t.cfg = s.cfg

/-- Until STRUCTURE is applied a sample fit does nothing. After that, at the end of a 10 ms sample block, a line through it becomes the antenna's sample times; a block with a missing or invalid Dial timestamp, or without a line, discards the antenna's samples for one second. An acquisition puts the channel that the rules of R120 give the signal of a satellite, for an antenna in use, into pull-in with its signal and satellite. A channel whose C/N0 has been low for 2 s is marked lost. A new ephemeris whose week is known enters the cache when it agrees with the cached one within 100 m or with the new one before it within 1 m, and otherwise waits with the satellite excluded; where the week is unresolved, on which R134 is silent, the cache stays as it is, and the confirmation of a first ephemeris is the same test (the model's readings: log entry 33). The clear time clears an alarm and its causes. The anchor moves to the mean of the antenna's last offsets, and stays where an antenna is alarmed, no flywheel is qualified or no offset is held. A read of the solution latches it. Burst tracking follows its conditions, and a window opens and closes in turn. Completes, under conditions on state and operands alone: SAMPLE_TIME_FIT, ACQUISITION_DONE, CHANNEL_LOST, EPHEMERIS_DECODED, ALARM_CLEAR, ANCHOR_MOVE, DAYL_SOLUTION_READ, BURST_MODE_CHANGE, BURST_WINDOW. -/
def Obligations.DaylightChannelsCacheAndAnchors : Prop :=
  (∀ (a : Ant) (ok : Bool) (s : State), s.surv.structureApplied = false → exec (.sampleTimeFit a ok) s = .next s) ∧
  (∀ (a : Ant) (ok : Bool) (s : State), s.surv.structureApplied = true → ∃ t u, u = elapseTo (nextMultiple (10 * ticksPerMs) s) s ∧
    exec (.sampleTimeFit a ok) s = .next t ∧ OnlyReports { u with dayl := t.dayl, dial := t.dial } t ∧
      ((ok && !s.lode.coarse && (blockOf u a).isSome) = false →
        (antSt t a).cleanFrom = u.clk.ticks + ticksPerSec ∧ (antSt t a).discarded = true ∧ (antSt t a).lost = true) ∧
      (ok = true → s.lode.coarse = false → (blockOf u a).isSome = true →
        (antSt t a).line = blockOf u a ∧ (antSt t a).cleanFrom = (antSt s a).cleanFrom)) ∧
  (∀ (n : Fin 384) (a : Ant) (sig : Fin 9) (sv cn0 : Nat) (s : State), antUsed s a = true →
    bitAt (antCfg s a).signals sig = true → chanFor s a sig (sv % 256) = some n.val →
    ∃ t, exec (.acquisitionDone n a sig sv cn0) s = .next t ∧
      sget {} t.dayl.chans n.val = { state := 2, ant := a, signal := sig, sv := sv % 256, cn0 := cn0 % 256 } ∧
      (∀ m, m ≠ n.val → sget {} t.dayl.chans m = sget {} s.dayl.chans m) ∧ t = { s with dayl := t.dayl }) ∧
  (∀ (n : Fin 384) (t0 : Nat) (s : State), (sget {} s.dayl.chans n.val).lowTick = some t0 → ∃ t u, OnlyTime s u ∧
    u.clk.ticks = max s.clk.ticks (t0 + 2 * ticksPerSec) ∧ exec (.channelLost n) s = .next t ∧
    t = { u with dayl := { u.dayl with chans := t.dayl.chans } } ∧ (sget {} t.dayl.chans n.val).state = 6 ∧
    ∀ m, m ≠ n.val → sget {} t.dayl.chans m = sget {} s.dayl.chans m) ∧
  (∀ (sig : Fin 9) (sv e w : Nat) (cached previous alm : Option Nat) (utc : Option (Int × Int)) (iono : Option Nat)
    (lp : Option (Int × Int × Nat)) (s : State),
    ∃ t, exec (.ephemerisDecoded sig sv (some (e, w)) cached previous alm ⟨utc, iono, lp⟩) s = .next t ∧
      (let k := satNo (signalOf sig).sys (sv % 256)
       let near := (orbitSt s k).eph.isSome = true ∧ ∃ d, cached = some d ∧ d ≤ 10000
       let agree := (orbitSt s k).pending.isSome = true ∧ ∃ d, previous = some d ∧ d ≤ 100
       (∀ wk, resolveWeek s sig k w = some wk →
         (near ∨ agree → (orbitSt t k).eph = some (e, (s.clk.ticks : Int)) ∧ (orbitSt t k).pending = none ∧
           (orbitSt t k).week = some wk) ∧
         (¬ near → ¬ agree → (orbitSt t k).pending = some e ∧ (orbitSt t k).eph = (orbitSt s k).eph)) ∧
       (resolveWeek s sig k w = none →
         (orbitSt t k).eph = (orbitSt s k).eph ∧ (orbitSt t k).pending = (orbitSt s k).pending) ∧
       ∀ j, j ≠ k → orbitSt t j = orbitSt s j) ∧ (lp = none → OnlyReports { s with dayl := t.dayl } t)) ∧
  (∀ (a : Ant) (s : State), (antSt s a).alarm = true →
    ∃ t, exec (.alarmClear a) s = .next t ∧ (antSt t a).alarm = false ∧ (antSt t a).causes = 0 ∧
      t.clk.ticks = max s.clk.ticks ((antSt s a).lastFail + (antCfg s a).clearS * ticksPerSec) ∧ t.lode = s.lode) ∧
  (∀ (a : Ant) (t0 : Nat) (u : Int) (y : Int) (s : State), (antSt s a).anchor = some (t0, u, y) →
    s.assay.fwOk = true → (antSt s 0).alarm = false → (antSt s 1).alarm = false → (antSt s a).us ≠ [] →
    ∃ t, exec (.anchorMove a) s = .next t ∧
      (antSt t a).anchor = some (t.clk.ticks, roundDiv (sumInt (antSt s a).us) (antSt s a).us.length, s.lode.yFw)) ∧
  (∀ (a : Ant) (t0 : Nat) (u : Int) (y : Int) (s : State), (antSt s a).anchor = some (t0, u, y) →
    ((antSt s 0).alarm = true ∨ (antSt s 1).alarm = true ∨ s.assay.fwOk = false ∨ (antSt s a).us = []) →
    ∃ t, exec (.anchorMove a) s = .next t ∧ OnlyTime s t) ∧
  (∀ (a : Ant) (s : State), exec (.daylSolutionRead a) s = .next { s with
    dayl := { s.dayl with ants := smod {} s.dayl.ants a fun x => { x with latch := x.sol } }
    pcie := { s.pcie with readData := twosComp 64 (antSt s a).sol.e % 2 ^ 32 } }) ∧
  (∀ (a : Ant) (s : State), ∃ t, exec (.burstModeChange a) s = .next t ∧
    (antSt t a).burst = (antUsed s a && burstAllowed s a) ∧ t.lode = s.lode ∧ t.clk = s.clk) ∧
  (∀ (a : Ant) (s : State), (antSt s a).burst = true →
    ∃ t, exec (.burstWindow a) s = .next t ∧ (antSt t a).window = !(antSt s a).window) ∧
  (∀ (a : Ant) (s : State), (antSt s a).burst = false → exec (.burstWindow a) s = .next s)

/-- After POWER_ON from no power, BROWN_OUT, POWER_DOWN or RESET_N, the device is held in reset (or off), OTP, the Magazine and the flash slots are as they were, and everything else of the state, with the host's own buffers, the clock of the model and the queue left aside (that these are kept is the model's choice: log entry 9), is what State.reset holds, but that the lottery's LFSRs are seeded anew (R269) and the Dial's check times count from the reset. The first three clear KEY_PRIV; RESET_N keeps it. No pin group is active in any of the four. A command of these that finds its condition already there changes nothing. Completes, under conditions on state and operands alone: POWER_ON, BROWN_OUT, POWER_DOWN, RESET_N_ASSERT. -/
def Obligations.ResetsByPowerAndPinKeepOnlyWhatTheirRowNames : Prop :=
  (∀ s : State, s.power.phase = .off → ∃ t, exec .powerOn s = .next t ∧ ColdAfter s t ∧
    t.power.phase = .inReset ∧ t.power.resetPinLow = true ∧ t.power.keyPriv = false ∧ ∀ p, pinState t p ≠ .active) ∧
  (∀ (r : Fin 7) (s : State), s.power.phase ≠ .off → ∃ t, exec (.brownOut r) s = .next t ∧ ColdAfter s t ∧
    t.power.phase = .inReset ∧ t.power.keyPriv = false ∧ 304 + r.val ∈ t.power.railsLow ∧ ∀ p, pinState t p ≠ .active) ∧
  (∀ s : State, s.power.phase ≠ .off → ∃ t, exec .powerDown s = .next t ∧ ColdAfter s t ∧ t.power.phase = .off ∧
    t.power.keyPriv = false ∧ ∀ p, pinState t p ≠ .active) ∧
  (∀ s : State, s.power.phase ≠ .off → s.power.resetPinLow = false → ∃ t, exec .resetNAssert s = .next t ∧
    ColdAfter s t ∧ t.power.phase = .inReset ∧ t.power.resetPinLow = true ∧ t.power.keyPriv = s.power.keyPriv ∧
    ∀ p, pinState t p ≠ .active) ∧
  (∀ s : State, s.power.phase ≠ .off → exec .powerOn s = .next s) ∧
  (∀ (r : Fin 7) (s : State), s.power.phase = .off → exec (.brownOut r) s = .next s ∧ exec .powerDown s = .next s) ∧
  (∀ s : State, s.power.resetPinLow = true → exec .resetNAssert s = .next s)

/-- A rising edge of RESET_N with every rail up, and the end of an internal reset with RESET_N high, release the device: it runs, with the straps as they stand. KEY_PRIV is then set after the edge, and as it was after an internal reset. An edge while a rail is low only records that the pin is high (the model's choice: log entry 25). While the device runs, a release changes nothing. SPI accesses are served from 10 ms after the release. Completes, under conditions on state and operands alone: RESET_RELEASE, SPI_ACCESS_START. -/
def Obligations.ReleaseSamplesStrapsAndGrantsKeyPriv : Prop :=
  (∀ (boot : Fin 4) (a4 f64 : Bool) (s : State), s.power.phase = .inReset → s.power.resetPinLow = true →
    s.power.railsLow = [] → ∃ t, exec (.resetRelease true boot a4 f64) s = .next t ∧ t.power.phase = .running ∧
      t.power.keyPriv = true ∧ t.power.bootSrc = boot.val ∧ t.power.addr4 = a4 ∧ t.power.flash64 = f64 ∧
      t.power.resetPinLow = false ∧ t.power.selftestDone = s.power.selftestDone) ∧
  (∀ (boot : Fin 4) (a4 f64 : Bool) (s : State), s.power.phase = .inReset → s.power.resetPinLow = false →
    ∃ t, exec (.resetRelease false boot a4 f64) s = .next t ∧ t.power.phase = .running ∧
      t.power.keyPriv = s.power.keyPriv ∧ t.power.bootSrc = boot.val ∧ t.power.railsLow = []) ∧
  (∀ (boot : Fin 4) (a4 f64 : Bool) (r : Nat) (l : List Nat) (s : State), s.power.phase = .inReset →
    s.power.resetPinLow = true → s.power.railsLow = r :: l → exec (.resetRelease true boot a4 f64) s =
      .next { s with power := { s.power with resetPinLow := false } }) ∧
  (∀ (pin : Bool) (boot : Fin 4) (a4 f64 : Bool) (s : State), s.power.phase ≠ .inReset →
    exec (.resetRelease pin boot a4 f64) s = .next s) ∧
  (∀ s : State, s.power.phase = .running → s.spi.access = false → ∃ t, exec .spiAccessStart s = .next t ∧
    t.spi.access = true ∧ t.clk.ticks = max s.clk.ticks (s.power.releaseTick + 10 * ticksPerMs) ∧ t.power = s.power)

/-- PERST and the function-level resets leave the Lode, the Assay, the Tally, the ports, the galleries, the picks, the sessions, the keys, the image and the fault log as they were. A PF reset clears the PF mailbox set, bus mastering and the PF's MSI-X vectors and marks a running PF command for discard; a VF reset clears that VF's set and vectors only. While the device runs or the endpoint is up, PERST counts one endpoint-only reset and starts 100 ms of configuration retry, which CONFIG_RETRY_END ends. Completes, under conditions on state and operands alone: PERST, PF_FLR, VF_FLR, CONFIG_RETRY_END. -/
def Obligations.EndpointResetsLeaveServiceAlone : Prop :=
  (∀ (v : SeamNo) (s : State), (∃ t, exec .perst s = .next t ∧ t = { s with rf := t.rf, pcie := t.pcie }) ∧
    (∃ t, exec .pfFlr s = .next t ∧ t = { s with rf := t.rf, pcie := t.pcie, mbx := t.mbx }) ∧
    (∃ t, exec (.vfFlr v) s = .next t ∧ t = { s with rf := t.rf, pcie := t.pcie, mbx := t.mbx })) ∧
  (∀ s : State, s.power.phase = .running ∨ s.pcie.inReset = false → ∃ t, exec .perst s = .next t ∧
    t.pcie = { ({} : PcieSt) with inReset := false, retryEndTick := s.clk.ticks + 100 * ticksPerMs } ∧
    rfField t 0x20 15 8 = min (rfField s 0x20 15 8 + 1) 255 ∧ t.mbx = s.mbx) ∧
  (∀ s : State, s.pcie.inReset = false → ∃ t, exec .pfFlr s = .next t ∧ t.mbx.pf = {} ∧ t.mbx.spi = s.mbx.spi ∧
    t.mbx.vf = s.mbx.vf ∧ t.pcie.busMaster = false ∧ (∀ v, v < 64 → sget {} t.pcie.vecs v = {}) ∧
    (∀ r, s.mbx.running = some r → r.src = .pf → t.mbx.running = some { r with discard := true })) ∧
  (∀ (v : SeamNo) (s : State), s.pcie.inReset = false → ∃ t, exec (.vfFlr v) s = .next t ∧
    sget {} t.mbx.vf v = {} ∧ t.mbx.pf = s.mbx.pf ∧ t.mbx.running = s.mbx.running ∧
    t.pcie.busMaster = s.pcie.busMaster ∧ ∀ w, w ≠ v.val → sget {} t.mbx.vf w = sget {} s.mbx.vf w) ∧
  (∀ s : State, s.pcie.cfgRetry = true → s.pcie.inReset = false → ∃ t, exec .configRetryEnd s = .next t ∧
    t.pcie = { s.pcie with cfgRetry := false } ∧ OnlyTime s { t with pcie := s.pcie })

/-- While configuration retry lasts a change of power state gets retry status and does nothing. After it a change to D3hot sets it and nothing else. The change back to D0, and a link exit from L1, satisfy a wake request that is pending: it is withdrawn, no PME message is added, and PME_Status and every GLB_WAKE bit stay as they were. Entry to L1 marks the link. An unmasked vector sends nothing when its pending bit is clear. Nothing of the time service changes. Completes, under conditions on state and operands alone: POWER_STATE_CHANGE, LINK_L1_EXIT, LINK_L1_ENTRY, MSIX_UNMASK. -/
def Obligations.PowerStatesAndWake : Prop :=
  (∀ (d : Bool) (s : State), s.pcie.cfgRetry = true → exec (.powerStateChange d) s = .next s) ∧
  (∀ s : State, s.pcie.inReset = false → s.pcie.cfgRetry = false → exec (.powerStateChange true) s =
    .next { s with pcie := { s.pcie with d3hot := true } }) ∧
  (∀ s : State, s.pcie.inReset = false → s.pcie.cfgRetry = false → s.pcie.d3hot = true → ∃ t, exec (.powerStateChange false) s = .next t ∧
    t.pcie.d3hot = false ∧ t.pcie.linkL1 = false ∧ t.pcie.wakePending = false ∧ t.pcie.pmeSent = s.pcie.pmeSent ∧
    t.pcie.pmeStatus = s.pcie.pmeStatus ∧ t = { s with pcie := t.pcie }) ∧
  (∀ s : State, ∃ t, exec .linkL1Exit s = .next t ∧ t.pcie.linkL1 = false ∧ t.pcie.wakePending = false ∧
    t.pcie.pmeSent = s.pcie.pmeSent ∧ t = { s with pcie := t.pcie }) ∧
  (∀ s : State, s.pcie.inReset = false → exec .linkL1Entry s = .next { s with pcie := { s.pcie with linkL1 := true } }) ∧
  (∀ (v : Nat) (s : State), v < 128 → s.pcie.inReset = false →
    ∃ t, exec (.msixUnmask v) s = .next t ∧ vectorMasked t v = false ∧ t = { s with rf := t.rf, pcie := t.pcie } ∧
      ((sget {} s.pcie.vecs v).pending = false → t.pcie = s.pcie) ∧
      ((sget {} s.pcie.vecs v).pending = true → canSend s = true →
        (sget {} t.pcie.vecs v).sent = (sget {} s.pcie.vecs v).sent + 1 ∧ (sget {} t.pcie.vecs v).pending = false))

/-- For every mailbox command of the table, from either set: while a command runs (or the self-test has not ended, or the Foreman stalls), and for the PF while an SPI doorbell waits behind it in the queue, which stands for the same gate cycle (log entry 15), the refusal sets DONE, RESULT 1 and the refused code in that set alone, and leaves the running command, TAG and every other block unchanged. A set that its master cannot reach takes nothing. A free engine accepts the command: it runs from this instant with the code, flags and arguments written, and TAG of that set is incremented. DEVICE_RESET has a statement of its own. -/
def Obligations.DoorbellsWhileBusyAreRefused : Prop :=
  ∀ (c : Instr) (src : MbxSrc) (code fl : Nat) (args : List Nat) (s : State),
    mailboxOf c = some (src, code, fl, args) → code < 256 → (∀ a ∈ args, a < 2 ^ 32) →
    (setReachable s src = false → exec c s = .next s) ∧
    (setReachable s src = true → (engineBusy s = true ∨ (src = .pf ∧ spiTogether s = true)) → ∃ t, exec c s = .next t ∧
      (setOf t src).done = true ∧ (setOf t src).result = 1 ∧ (setOf t src).doneCode = code ∧
      (setOf t src).tag = (setOf s src).tag ∧ t.mbx.running = s.mbx.running ∧
      (∀ other, other ≠ src → setOf t other = setOf s other) ∧ OnlyReports { s with mbx := t.mbx } t) ∧
    (Accepts src s → code ≠ 0x60 → ∃ t r, exec c s = .next t ∧
      t.mbx.running = some r ∧ r.src = src ∧ r.code = code ∧ r.flags = fl ∧ r.args.length = 16 ∧
      r.args.take args.length = args ∧ r.startTick = s.clk.ticks ∧ (setOf t src).tag = ((setOf s src).tag + 1) % 256 ∧
      (∀ other, other ≠ src → setOf t other = setOf s other))

/-- SURVEY_LOAD, SURVEY_AMEND, SVN_COMMIT, DIAL_CHECK and SNAPSHOT_RESTORE from the SPI set, PCIE_RESET from the PF set, and the key commands from the SPI set (ATTEST apart, which both may issue) or without KEY_PRIV, are accepted and settle DENIED with no effect outside the engine, the key commands to end at exactly 4 us. A code that R372 does not list settles 0x05. Completes, under conditions on state and operands alone: PCIE_RESET, PRIV_DROP, UNKNOWN_COMMAND, NOP_COMMAND. -/
def Obligations.CommandsFromOtherSourcesAreDenied : Prop :=
  (∀ (c : Instr) (code fl : Nat) (args : List Nat) (s : State), mailboxOf c = some (.spi, code, fl, args) →
    code ∈ [0x10, 0x11, 0x12, 0x34, 0x41] → (∀ a ∈ args, a < 2 ^ 32) → Accepts .spi s →
    ∃ t, exec c s = .next t ∧ DeniedBy s t) ∧
  (∀ s : State, Accepts .pf s → ∃ t, exec (.pcieReset .pf) s = .next t ∧ DeniedBy s t) ∧
  (∀ (c : Instr) (src : MbxSrc) (code fl : Nat) (args : List Nat) (s : State), mailboxOf c = some (src, code, fl, args) →
    code ∈ [0x20, 0x21, 0x24] → (∀ a ∈ args, a < 2 ^ 32) → Accepts src s → (src = .spi ∨ s.power.keyPriv = false) →
    ∃ t, exec c s = .next t ∧ DeniedBy s t ∧ (t.mbx.running.map (·.exact4us)) = some true) ∧
  (∀ s : State, Accepts .spi s → ∃ t, exec (.privDrop .spi) s = .next t ∧ DeniedBy s t ∧
    (t.mbx.running.map (·.exact4us)) = some true) ∧
  (∀ (src : MbxSrc) (code : Nat) (s : State), Accepts src s → code < 256 → knownCode code = false →
    ∃ t, exec (.unknownCommand src code) s = .next t ∧ mbxResult t = some 5 ∧ OnlyReports { s with mbx := t.mbx } t) ∧
  (∀ (src : MbxSrc) (s : State), Accepts src s →
    ∃ t, exec (.nopCommand src) s = .next t ∧ mbxResult t = some 0 ∧ OnlyReports { s with mbx := t.mbx } t)

/-- From the PF set with KEY_PRIV: KEY_WRITE of an empty slot with attributes that obey the binding rules, before RETIRED, loads exactly that slot (SEALED where R297 says so), and is denied, the Magazine untouched, where the slot is loaded. KEY_ERASE zeroes a loaded slot that is not SEALED, and no other, denies the operations that have yet to fetch it, and is denied for a SEALED one. PRIV_DROP clears KEY_PRIV. LIFECYCLE_ADVANCE to the next state takes the OTP step and has its erasure outstanding; another target is denied. From either set ATTEST with a SIGN key of a PK unit puts the P-256 signature, whose nonce uses the next free random number, into the sixteen OUT words; without such a key it is denied. Completes, under conditions on state and operands alone: KEY_WRITE, KEY_ERASE, ATTEST, PRIV_DROP, LIFECYCLE_ADVANCE. -/
def Obligations.KeyCommandsChangeTheMagazine : Prop :=
  (∀ (slot attr label : Nat) (value : List Nat) (s : State), Accepts .pf s → s.power.keyPriv = true →
    slot < 4096 → attr < 2 ^ 32 → label < 2 ^ 32 → value.length = 8 → (∀ w ∈ value, w < 2 ^ 32) →
    ∃ t, exec (.keyWrite .pf slot attr label value) s = .next t ∧
      (let m := attrSlot attr label (value.foldl (fun a b => a * 2 ^ 32 + b) 0)
       if (magSlot s slot).loaded = true ∨ s.otp.lifecycle = 3 ∨ keyAttrOk s slot m = false then DeniedBy s t
       else mbxResult t = some 0 ∧
        magSlot t slot = { m with isSealed := s.otp.lifecycle == 2 && (m.bind == 2 || m.bind == 3) } ∧
        (∀ j, j ≠ slot → magSlot t j = magSlot s j) ∧
        OnlyReports { s with mbx := t.mbx, cry := { s.cry with mag := t.cry.mag } } t)) ∧
  (∀ (slot : Nat) (s : State), Accepts .pf s → s.power.keyPriv = true → slot < 4096 →
    ∃ t, exec (.keyErase .pf slot) s = .next t ∧
      (if (magSlot s slot).loaded = true ∧ (magSlot s slot).isSealed = false then
        mbxResult t = some 0 ∧ magSlot t slot = {} ∧ (∀ j, j ≠ slot → magSlot t j = magSlot s j) ∧
        t.shaft = (denyFetches slot s).shaft ∧
        OnlyReports { s with mbx := t.mbx, cry := { s.cry with mag := t.cry.mag }, shaft := t.shaft } t
       else DeniedBy s t)) ∧
  (∀ (src : MbxSrc) (nonce : List Nat) (slot : Nat) (s : State), Accepts src s → slot < 4096 → nonce.length = 8 →
    (∀ w ∈ nonce, w < 2 ^ 32) →
    ∃ t r, exec (.attest src nonce slot) s = .next t ∧ t.mbx.running = some r ∧
      (let m := magSlot s slot
       if m.loaded = true ∧ m.device = true ∧ m.usage = 3 ∧ m.bind = 3 then
        r.result = some 0 ∧ t.clk.freeCtr = s.clk.freeCtr + 1 ∧
        r.outs = (List.range 16).map (fun k => beAt (fit 64
          (Config.ecdsaSign (magKey m) (Config.entropy s.clk.freeCtr) (attestMessage r s))) (4 * k) 4) ∧
        OnlyReports { s with mbx := t.mbx, clk := { s.clk with freeCtr := t.clk.freeCtr } } t
       else DeniedBy s t ∧ r.exact4us = true)) ∧
  (∀ s : State, Accepts .pf s → ∃ t, exec (.privDrop .pf) s = .next t ∧ mbxResult t = some 0 ∧
    t.power = { s.power with keyPriv := false } ∧ OnlyReports { s with mbx := t.mbx, power := t.power } t) ∧
  (∀ (target : Nat) (s : State), Accepts .pf s → s.power.keyPriv = true → target < 2 ^ 32 →
    ∃ t, exec (.lifecycleAdvance .pf target) s = .next t ∧
      (if target = s.otp.lifecycle + 1 ∧ s.otp.lifecycle < 3 then
        mbxResult t = some 0 ∧ t.otp = { s.otp with lifecycle := target, erasePending := true } ∧
        OnlyReports { s with mbx := t.mbx, otp := t.otp } t
       else DeniedBy s t))

/-- Each takes effect when it is accepted and ends later (the model's choice: log entry 15). A Survey command from the PF set waits for its image, unless the device reads or applies one at boot, where it is denied (log entry 14). SVN_COMMIT raises the floor to the version in force and never lowers it. SELFTEST puts a used gallery into BIST, fencing it first; GALLERY_FENCE leaves it fenced with no queued item, and answers OK for one that is fenced (log entry 16); GALLERY_READMIT puts a fenced one into BIST and is denied otherwise. PICK_READMIT starts the self-test of a fenced pick of a gallery that runs, and is denied for every other pick. DIAL_CHECK puts a check on every channel. SNAPSHOT_SAVE starts a save of the present instant into the half that does not hold the last good save, or takes over the save that runs, and its data go to the host only where the PF issued it. SNAPSHOT_RESTORE fails where the device may not read the host's buffer, and otherwise restores the buffer's snapshot, raising and never lowering the measured flywheel bounds, or is denied and changes nothing while the service gate is open. The completion and denial is RESULT as settled. Completes, under conditions on state and operands alone: SURVEY_LOAD, SURVEY_AMEND, SVN_COMMIT, SELFTEST, GALLERY_FENCE, GALLERY_READMIT, PICK_READMIT, DIAL_CHECK, SNAPSHOT_SAVE, SNAPSHOT_RESTORE. -/
def Obligations.ServiceCommandsTakeEffectAtAcceptance : Prop :=
  (∀ (addr len : Nat) (flag : Bool) (s : State), Accepts .pf s → addr < 2 ^ 64 → len < 2 ^ 32 →
    ∃ t u, exec (.surveyLoad .pf addr len flag) s = .next t ∧ exec (.surveyAmend .pf addr len flag) s = .next u ∧
      (if s.surv.state = 1 ∨ s.surv.state = 2 then DeniedBy s t ∧ DeniedBy s u
       else mbxResult t = none ∧ mbxResult u = none ∧
        (s.surv.check = none → (surveyCommand t).isSome = true ∧ (surveyCommand u).isSome = true ∧
          (surveyCommand t).map commandPurpose = some (.load flag) ∧ (surveyCommand u).map commandPurpose = some (.amend flag)) ∧
        OnlyReports { s with mbx := t.mbx } t ∧ OnlyReports { s with mbx := u.mbx } u)) ∧
  (∀ s : State, Accepts .pf s → ∃ t, exec (.svnCommit .pf) s = .next t ∧ mbxResult t = some 0 ∧
    t.otp = { s.otp with svnFloor := max s.otp.svnFloor s.surv.svn } ∧ OnlyReports { s with mbx := t.mbx, otp := t.otp } t) ∧
  (∀ (src : MbxSrc) (g : Nat) (s : State), Accepts src s → g < 16 → (galSt s g).phase ≠ .off →
    ∃ t u, exec (.selftest src g) s = .next t ∧ (galSt t g).phase = .bist ∧ (galSt t g).readmitTick = s.clk.ticks ∧
      mbxResult t = none ∧ exec (.galleryFence src g) s = .next u ∧ (galSt u g).phase = .fenced ∧ mbxResult u = some 0 ∧
      ((galSt s g).phase ≠ .fenced → queued u g = [] ∧ (galSt u g).fenceCause = 5)) ∧
  (∀ (src : MbxSrc) (g : Nat) (s : State), Accepts src s → g < 2 ^ 32 →
    ∃ t, exec (.galleryReadmit src g) s = .next t ∧
      (if g < 16 ∧ (galSt s g).phase = .fenced then (galSt t g).phase = .bist ∧ mbxResult t = none else DeniedBy s t)) ∧
  (∀ (src : MbxSrc) (p : Nat) (s : State), Accepts src s → p < 2 ^ 32 →
    ∃ t, exec (.pickReadmit src p) s = .next t ∧
      (if p < 512 ∧ (pickSt s p).phase = .fenced ∧ galRuns s (p / 32) = true then
        pickSt t p = { pickSt s p with testing := true, reload := true } ∧ (∀ q, q ≠ p → pickSt t q = pickSt s q) ∧
        mbxResult t = none ∧ OnlyReports { s with mbx := t.mbx, picks := t.picks } t
       else DeniedBy s t)) ∧
  (∀ s : State, Accepts .pf s → ∃ t, exec (.dialCheck .pf) s = .next t ∧
    t.dial.chkRun = true ∧ (∀ n, n < 24 → dialCh t n = { dialCh s n with
      checking := some s.clk.ticks, done0 := false, done1 := false }) ∧
    mbxResult t = none ∧ OnlyReports { s with mbx := t.mbx, dial := t.dial } t) ∧
  (∀ (src : MbxSrc) (s : State), Accepts src s → s.haul.snap.save = none →
    ∃ t v, exec (.snapshotSave src) s = .next t ∧ t.haul.snap.save = some v ∧ v.mailbox = true ∧ v.forSpi = (src == .spi) ∧
      v.snap.serial = s.otp.serial ∧ v.snap.time = nowFu s ∧ v.snap.inc = s.clk.inc ∧ v.snap.dir = validDir s ∧
      (∀ h, s.haul.snap.good = some h → v.half = 1 - h) ∧ mbxResult t = none ∧
      t.haul = { s.haul with snap := { s.haul.snap with save := some v } }) ∧
  (∀ (src : MbxSrc) (v : SaveSt) (s : State), Accepts src s → s.haul.snap.save = some v →
    ∃ t, exec (.snapshotSave src) s = .next t ∧ mbxResult t = none ∧ t.haul = { s.haul with snap := { s.haul.snap with
      save := some { v with mailbox := true, forSpi := src == .spi } } }) ∧
  (∀ (addr len : Nat) (x : Snap) (s : State), Accepts .pf s → addr < 2 ^ 64 → len < 2 ^ 32 →
    ∃ t, exec (.snapshotRestore .pf addr len (some x)) s = .next t ∧
      (if canWriteHost s = false then mbxResult t = some 4 ∧ OnlyReports { s with mbx := t.mbx } t
       else if restoreDenied s x = true then DeniedBy s t
       else mbxResult t = some 0 ∧ t.haul.snap.restored = true ∧ t.haul.snap.ya = yaMax s.haul.snap.ya x.ya ∧ t.sess.cache = [] ∧
        (x.serial = s.otp.serial → t.clk.inc = x.inc ∧ t.lode.integ = x.integ ∧ t.lode.yFw = x.yFw) ∧
        (x.serial ≠ s.otp.serial → t.clk = s.clk ∧ t.lode = s.lode)))

/-- DEVICE_RESET with its magic argument, from either set: the device is held in a configuration reset with CAUSE 2; the PCIe endpoint (with no vector's message pending), KEY_PRIV, OTP, Magazine, flash, orbit cache, fault log and its sequence are as they were, no command runs, and the Lode, the galleries, the picks, the session store and the Survey image are as after reset. Without the magic argument it is denied. PCIE_RESET from the SPI set puts the endpoint alone through a reset: bus mastering off, every vector clear, configuration retries for 100 ms; no other block changes. Completes, under conditions on state and operands alone: DEVICE_RESET, PCIE_RESET. -/
def Obligations.ResetCommandsReachWhatTheirRowsName : Prop :=
  (∀ (src : MbxSrc) (magic : Nat) (s : State), Accepts src s → magic < 2 ^ 32 →
    ∃ t, exec (.deviceReset src magic) s = .next t ∧
      (if magic = 0x52455345 then
        t.power.phase = .inReset ∧ t.power.cause = 2 ∧ t.power.keyPriv = s.power.keyPriv ∧ t.otp = s.otp ∧
        t.cry.mag = s.cry.mag ∧ t.flash = s.flash ∧ t.dayl.orbit = s.dayl.orbit ∧ t.fault.log = s.fault.log ∧
        t.fault.seq = s.fault.seq ∧ t.fault.srcs = [] ∧ t.pcie = { s.pcie with vecs := t.pcie.vecs } ∧ (∀ v, (sget {} t.pcie.vecs v).pending = false) ∧ t.mbx = {} ∧ t.lode = {} ∧ t.assay = {} ∧
        t.tally = {} ∧ t.gals = [] ∧ t.picks = [] ∧ t.sess = {} ∧ t.surv = {} ∧ t.cfg = {} ∧ t.hostLoad = none ∧
        t.pending = s.pending
       else DeniedBy s t)) ∧
  (∀ s : State, Accepts .spi s → ∃ t, exec (.pcieReset .spi) s = .next t ∧ mbxResult t = some 0 ∧
    t.pcie = { inReset := false, retryEndTick := s.clk.ticks + 100 * ticksPerMs } ∧
    OnlyReports { s with mbx := t.mbx } t)

/-- MAILBOX_COMMAND_END ends a running command once its result can be given: BUSY is over, and the set that issued it shows DONE, RESULT and the code, except where the PF was reset meanwhile. A key-family refusal ends at exactly 4 us. A life-cycle change has by then zeroed every slot, the directory and the records. With no running command, or one whose result is still open, nothing changes. A VF's doorbell starts its own command, or is refused with BUSY while that runs; the answer comes at exactly 4 us, OK for NOP and DENIED for every other code, with the engine's running command untouched. Completes, under conditions on state and operands alone: MAILBOX_COMMAND_END, VF_MAILBOX_COMMAND, VF_MAILBOX_ANSWER. -/
def Obligations.MailboxCommandsEndWithTheirResult : Prop :=
  (∀ (ok : Bool) (s : State), s.mbx.running = none → exec (.mailboxCommandEnd ok) s = .next s) ∧
  (∀ (ok : Bool) (r : Running) (s : State), s.mbx.running = some r → endResult r ok s = none →
    exec (.mailboxCommandEnd ok) s = .next s) ∧
  (∀ (ok : Bool) (r : Running) (res : Nat) (s : State), s.mbx.running = some r → endResult r ok s = some res →
    ∃ t, exec (.mailboxCommandEnd ok) s = .next t ∧ t.mbx.running = none ∧
      (r.discard = false → (setOf t r.src).done = true ∧ (setOf t r.src).result = res ∧
        (setOf t r.src).doneCode = r.code % 256) ∧
      (r.discard = true → setOf t r.src = setOf s r.src) ∧
      (∀ other, other ≠ r.src → setOf t other = setOf s other) ∧
      (r.exact4us = true → r.code ≠ 0x34 → t.clk.ticks = max s.clk.ticks (r.startTick + 6250)) ∧
      (r.code = 0x24 → res = 0 → t.cry.mag = [] ∧ t.sess.dir = [] ∧ t.sess.recs = [] ∧ t.sess.cache = [] ∧
        t.otp.erasePending = false) ∧
      (r.code = 0x10 → r.result = none → ok = true → ∀ c, s.surv.check = some c →
        sget {} t.flash c.slot = { image := some c.image } ∧ ∀ k, k ≠ c.slot → sget {} t.flash k = sget {} s.flash k) ∧
      (r.code = 0x34 → res = 0 → t.dial.chkRun = false)) ∧
  (∀ (v : SeamNo) (code : Nat) (s : State), s.power.phase = .running → s.pcie.inReset = false → code < 256 →
    ∃ t, exec (.vfMailboxCommand v code) s = .next t ∧ t.mbx.running = s.mbx.running ∧ t.mbx.pf = s.mbx.pf ∧
      t.mbx.spi = s.mbx.spi ∧ (∀ w, w ≠ v.val → vfSet t w = vfSet s w) ∧
      ((vfSet s v).running = none → (vfSet t v).running = some (code, s.clk.ticks)) ∧
      (∀ x, (vfSet s v).running = some x → (vfSet t v).running = some x ∧ (vfSet t v).set.done = true ∧
        (vfSet t v).set.result = 1 ∧ (vfSet t v).set.doneCode = code) ∧ OnlyReports { s with mbx := t.mbx } t) ∧
  (∀ (v : SeamNo) (code t0 : Nat) (s : State), (vfSet s v).running = some (code, t0) →
    ∃ t, exec (.vfMailboxAnswer v) s = .next t ∧ (vfSet t v).running = none ∧ (vfSet t v).set.done = true ∧
      (vfSet t v).set.result = (if code = 0 then 0 else 2) ∧ (vfSet t v).set.doneCode = code ∧
      (vfSet t v).set.elapsed = 4 ∧ t.clk.ticks = max s.clk.ticks (t0 + 6250) ∧ t.mbx.running = s.mbx.running ∧
      ∀ w, w ≠ v.val → vfSet t w = vfSet s w)

/-- Which failure comes first is not spoken of. A check whose cause is 0 had a length within its kind's maximum, a source read without error, a sound header, this device's serial or 0, a version of at most 63 and not below the floor, sound record CRCs, the right records, the required signers with accepted keys, no failed verification, sound content and, for an amendment, the base image in force, rising sequence numbers and amendable fields only, and with PERSIST room in the log of the slot in force (the bound 63 on the version among the header's values, and the place of the PERSIST test after the others, are the model's choice: log entry 14). IMAGE_CHECKS_DONE while verifications are outstanding changes nothing. An image refused for a load or an amendment settles REFUSED and shows its cause: no section, sequence number, slot, key or gallery changes. A refused boot image only marks its slot as tried. An accepted amendment is held for its activation, no section changed yet; an accepted boot image is VERIFIED, with its PATCH in force. A load with FLASH clear leaves the device in a configuration reset with CAUSE 3 and the buffer's address, length and M kept. Completes, under conditions on state and operands alone: IMAGE_CHECKS_DONE. -/
def Obligations.AcceptedImagePassedEveryCheckAndRefusedOneChangesNothing : Prop :=
  (∀ (s : State) (c : CheckSt), checkCause s c = 0 →
    c.len ≤ (if c.image.kind = 2 then 2097152 else 8388608) ∧ c.readError = false ∧ c.image.magicOk = true ∧
    c.image.formatVersion = 1 ∧ c.image.headerLength = 64 ∧ c.image.headerCrcOk = true ∧
    (c.image.deviceSerial = 0 ∨ c.image.deviceSerial = s.otp.serial) ∧ s.otp.svnFloor ≤ c.image.securityVersion ∧
    c.image.securityVersion ≤ 63 ∧
    (∀ r ∈ c.image.records, r.crcOk = true) ∧ c.image.kind = purposeKind c.purpose ∧ multiplicityOk c.image = true ∧
    (∀ k ∈ requiredRoles c.image, k ∈ c.image.signers.map (·.role)) ∧
    (∀ g ∈ c.image.signers, signerKeyOk s g = true) ∧ (∀ v ∈ c.verdicts, v.2.2 = true) ∧ patchOk c.image = true ∧
    (c.image.kind = 2 → c.image.baseDigest = s.surv.digest / 2 ^ 128 ∧ sequencesOk s c.image = true ∧
      amendableOk s c.image = true) ∧ contentOk (checkView s c.image) = true ∧
    (c.purpose = .amend true → s.surv.src ≠ 2 ∧ s.surv.logOwnerChanged = false ∧
      logEntryBytes { image := c.image } ≤ logFree s)) ∧
  (∀ (c : CheckSt) (s : State), s.surv.check = some c → c.accepted = false →
    (earlyCause s c = none ∧ sigFailed c = false ∧ (nextSigner c).isSome = true ∨ s.cry.pkBusy ≠ 0) →
    exec .imageChecksDone s = .next s) ∧
  (∀ s : State, s.surv.check = none → exec .imageChecksDone s = .next s) ∧
  (∀ (c : CheckSt) (s : State), s.surv.check = some c → c.accepted = false → s.cry.pkBusy = 0 →
    ((earlyCause s c).isSome = true ∨ sigFailed c = true ∨ nextSigner c = none) →
    ∃ t, exec .imageChecksDone s = .next t ∧
      (checkCause s c ≠ 0 → (∀ k, c.purpose ≠ .boot k) → t.surv.cause = checkCause s c ∧ t.surv.check = none ∧
        mbxResult t = s.mbx.running.map (fun _ => 3) ∧
        OnlyReports { s with mbx := t.mbx, surv := { s.surv with check := none, policyLatch := [], cause := t.surv.cause } } t) ∧
      (checkCause s c ≠ 0 → ∀ k, c.purpose = .boot k → t.surv.cause = checkCause s c ∧ k ∈ t.surv.tried ∧ t.cfg = s.cfg ∧
        t.surv.check = none ∧ OnlyReports { s with surv := t.surv } t) ∧
      (checkCause s c = 0 → ∀ p, c.purpose = .amend p →
        t = { s with surv := { s.surv with check := some { c with accepted := true } } }) ∧
      (checkCause s c = 0 → ∀ k, c.purpose = .boot k → t = applyPatch c.image { s with surv := { s.surv with
        check := some { c with accepted := true }, state := 2, booted := some c.image } }) ∧
      (checkCause s c = 0 → c.purpose = .load false → t.power.phase = .inReset ∧ t.power.cause = 3 ∧ t.cfg = {} ∧
        t.pcie = { s.pcie with vecs := t.pcie.vecs } ∧ t.flash = s.flash ∧ t.hostLoad.map (·.digest) = some (digestOf c.image) ∧
        t.hostLoad.map (·.len) = some c.len) ∧
      (checkCause s c = 0 → c.purpose = .load true → t.cfg = s.cfg ∧
        sget {} t.flash (writeSlot s) = {} ∧ ∀ k, k ≠ writeSlot s → sget {} t.flash k = sget {} s.flash k))

/-- The end of the boot self-test opens the mailboxes, reports the Dial channels whose OTP check fails, and begins the image read where the strap selects flash or SURVEY_LOAD left a buffer, but not with the reserved strap, which is a Critical fault. An image read puts what its bytes hold under checks, with a read error where the device may not read the host; the flash slot taken is the one with the higher serial, slot A when they are equal. Both PK units start, and each PK_VERIFY_DONE frees its unit and records its verdict. IMAGE_APPLIED with a verified image that came from the host puts its records in force, the state APPLIED, and the image's version, serial and digest on show. A completed channel training marks that channel trained; a failed one is a fault and leaves it out. Completes, under conditions on state and operands alone: BOOT_SELFTEST_DONE, IMAGE_READ_DONE, PK_VERIFY_DONE, IMAGE_APPLIED, CHANNEL_TRAINING_DONE. -/
def Obligations.BootReadsVerifiesAndApplies : Prop :=
  (∀ (pass : Bool) (bad : List Nat) (s : State), s.power.phase = .running → s.power.selftestDone = false →
    ∃ t, exec (.bootSelftestDone pass bad) s = .next t ∧ t.power.selftestDone = true ∧ t.otp.dialBad = bad ∧
      t.power.selftestFailed = (!pass) ∧ (bad ≠ [] → bitAt (rfGet t 0x00400100) 5 = true) ∧ t.cfg = s.cfg ∧ t.clk = s.clk ∧
      t.surv.state = (if s.power.bootSrc ≠ 3 ∧ (s.hostLoad.isSome ∨ s.power.bootSrc = 0 ∨ s.power.bootSrc = 2) then 1
        else s.surv.state)) ∧
  (∀ (host : Option (List Nat)) (ok : Bool) (r : Running) (s : State), surveyCommand s = some r →
    ∃ t c, exec (.imageReadDone host ok) s = .next t ∧ t.surv.check = some c ∧ c.purpose = commandPurpose r ∧
      c.image = hostImage host ∧ c.readError = !(ok && canSend s) ∧ c.verdicts = [] ∧ (t.cry.pkBusy = s.cry.pkBusy ∨ t.cry.pkBusy = 3) ∧
      t = { s with surv := { s.surv with check := some c }, cry := { s.cry with pkBusy := t.cry.pkBusy } }) ∧
  (∀ (host : Option (List Nat)) (ok : Bool) (k : Nat) (i : Image) (s : State), surveyCommand s = none → s.surv.state = 1 →
    s.surv.check = none → s.power.phase = .running → s.power.selftestDone = true → s.hostLoad = none →
    bootSlot s = some (k, i) → ∃ t c, exec (.imageReadDone host ok) s = .next t ∧ t.surv.check = some c ∧
      c.purpose = .boot k ∧ c.image = i ∧ t.cfg = s.cfg) ∧
  (∀ (a b : Image) (s : State), slotImage s 0 = some a → slotImage s 1 = some b → s.surv.tried = [] →
    bootSlot s = some (if a.serial < b.serial then (1, b) else (0, a))) ∧
  (∀ (unit : Fin 2) (valid : Bool) (c : CheckSt) (k : Nat) (s : State), s.surv.check = some c → nextSigner c = some k →
    s.cry.pkBusy = 3 ∨ s.cry.pkBusy = 2 ^ unit.val →
    ∃ t, exec (.pkVerifyDone unit valid) s = .next t ∧
      t.surv.check = some { c with verdicts := (k, unit.val, valid) :: c.verdicts } ∧ t.cfg = s.cfg ∧ t.mbx = s.mbx ∧
      (s.cry.pkBusy = 3 → t.cry.pkBusy = 2 ^ (1 - unit.val)) ∧
      (s.cry.pkBusy = 2 ^ unit.val → t.cry.pkBusy = 0 ∨ t.cry.pkBusy = 3)) ∧
  (∀ (c : CheckSt) (i : Image) (k : Nat) (s : State), s.surv.check = some c → s.surv.booted = some i →
    c.purpose = .boot k → s.surv.state = 2 → 2 ≤ k →
    ∃ t, exec .imageApplied s = .next t ∧ t.surv.state = 3 ∧ t.surv.src = k ∧ t.surv.svn = i.securityVersion ∧
      t.surv.serial = i.serial ∧ t.surv.digest = digestOf i ∧ t.surv.structureApplied = true ∧ t.surv.check = none ∧
      t.surv.policyLatch = [] ∧ t.cfg = putRecords (forceRecords i s) {} ∧ t.flash = s.flash ∧ t.otp = s.otp) ∧
  (∀ (m : ChanNo) (s : State), s.surv.structureApplied = true → s.cfg.str.sessEn = true →
    (∃ t, exec (.channelTrainingDone m true) s = .next t ∧ bitAt t.sess.trained m = true ∧
      t = { s with sess := { s.sess with trained := t.sess.trained } }) ∧
    (∃ t, exec (.channelTrainingDone m false) s = .next t ∧ OnlyReports s t ∧
      (srcSt t (228 + m)).active = true))

/-- A log entry that is written is the last of the log of the slot in force, and lets the amendment go on; a failed write settles ERROR and drops the amendment. AMENDMENT_ACTIVATION of an amendment that is not accepted, is in force already, or whose log entry is not yet written changes nothing; otherwise time passes to the next decision tick and the records are in force, REFERENCES and LIMITS only those whose digests the policy port had latched, whose latch is then clear. SWAP_DONE of a gallery with no swap in progress, with no amendment under way, changes nothing; of one whose picks all hold new-bank items, it ends the swap. Completes, under conditions on state and operands alone: AMENDMENT_LOG_WRITTEN, AMENDMENT_ACTIVATION, SWAP_DONE. -/
def Obligations.AmendmentsComeIntoForceAtADecisionTick : Prop :=
  (∀ (c : CheckSt) (s : State), s.surv.check = some c → c.purpose = .amend true → c.accepted = true → c.logWritten = false →
    (∃ t, exec (.amendmentLogWritten true) s = .next t ∧ t.surv.check = some { c with logWritten := true } ∧
      (sget {} t.flash s.surv.src).log = (sget {} s.flash s.surv.src).log ++ [{ image := c.image }] ∧
      t = { s with flash := t.flash, surv := t.surv }) ∧
    ∃ t, exec (.amendmentLogWritten false) s = .next t ∧ t.surv.check = none ∧
      mbxResult t = s.mbx.running.map (fun _ => 4) ∧ t = { s with mbx := t.mbx, surv := t.surv }) ∧
  (∀ (c : CheckSt) (s : State), s.surv.check = some c →
    (c.accepted = false ∨ c.applied = true ∨ (c.purpose = .amend true ∧ c.logWritten = false) ∨ ∀ p, c.purpose ≠ .amend p) →
    exec .amendmentActivation s = .next s) ∧
  (∀ (c : CheckSt) (persist : Bool) (s : State), s.surv.check = some c → c.purpose = .amend persist → c.accepted = true →
    c.applied = false → (persist = true → c.logWritten = true) →
    ∃ t, exec .amendmentActivation s = .next t ∧ t.surv.policyLatch = [] ∧
      t.cfg = putRecords (forceRecords c.image s) s.cfg ∧ t.otp = s.otp ∧ t.flash = s.flash ∧
      t.clk.ticks = max s.clk.ticks (nextDecision s)) ∧
  (∀ (g : GalNo) (s : State), s.surv.check = none → (galSt s g).swapTick = none → exec (.swapDone g) s = .next s) ∧
  (∀ (g : GalNo) (t0 : Nat) (s : State), s.surv.check = none → (galSt s g).swapTick = some t0 →
    (∀ p ∈ picksOf g, holdsOld s g p = false) →
    ∃ t, exec (.swapDone g) s = .next t ∧ galSt t g = { galSt s g with swapTick := none } ∧
      OnlyReports { s with gals := t.gals } t)

/-- SNAPSHOT_PERIODIC with an interval set and the image applied starts a save at the next multiple of the interval, leaves a save that runs as it is, and does nothing where no interval is set or no image is applied. SNAPSHOT_SAVE_DONE with no save changes nothing. A save that ends well, with the key and the host reachable, leaves its snapshot, with the key that seals it, at its half's address and everything else of the buffers as it was, and the next save goes to the other half. A save for SPI ends with its bytes staged, and so does a periodic one that SPI joined, whose command then ends OK though the host cannot be written. A save that fails before the host buffer could be written leaves both halves as they were. A save asked for by a mailbox command settles OK, or ERROR where it fails. Completes, under conditions on state and operands alone: SNAPSHOT_PERIODIC, SNAPSHOT_SAVE_DONE. -/
def Obligations.SnapshotsAreSavedToTheHalvesInTurn : Prop :=
  (∀ s : State, s.cfg.haul.present = true → s.cfg.haul.snapS ≠ 0 → s.surv.state = 3 → s.haul.snap.save = none →
    ∃ t v, exec .snapshotPeriodic s = .next t ∧ t.haul.snap.save = some v ∧ v.mailbox = false ∧ v.spi = false ∧ v.forSpi = false ∧
      v.snap.serial = s.otp.serial ∧ t.clk.ticks = max s.clk.ticks (nextMultiple (s.cfg.haul.snapS * ticksPerSec) s) ∧
      t.haul = { s.haul with snap := { s.haul.snap with save := some v } } ∧ t.lode = s.lode ∧ t.cfg = s.cfg) ∧
  (∀ s : State, (s.cfg.haul.present = false ∨ s.cfg.haul.snapS = 0 ∨ s.surv.state ≠ 3) → exec .snapshotPeriodic s = .next s) ∧
  (∀ (v : SaveSt) (s : State), s.cfg.haul.present = true → s.cfg.haul.snapS ≠ 0 → s.surv.state = 3 →
    s.haul.snap.save = some v → ∃ t, exec .snapshotPeriodic s = .next t ∧ OnlyTime s t) ∧
  (∀ (ok : Bool) (s : State), s.haul.snap.save = none → exec (.snapshotSaveDone ok) s = .next s) ∧
  (∀ (v : SaveSt) (k : Nat × MagSlot) (s : State), s.haul.snap.save = some v → v.spi = true → snapKey s = some k →
    ∃ t, exec (.snapshotSaveDone true) s = .next t ∧ t.haul.snap.staged = snapBytes { v.snap with key := magKey k.2 } ∧
      t.haul.snap.save = none ∧ t.haul.snap.halves = s.haul.snap.halves ∧ t.haul.snap.good = s.haul.snap.good) ∧
  (∀ (v : SaveSt) (s : State), s.haul.snap.save = some v → v.spi = false → (snapKey s).isSome = true →
    canWriteHost s = true → v.half < 2 →
    ∃ t, exec (.snapshotSaveDone true) s = .next t ∧ sget none t.haul.snap.halves v.addr = some { v.snap with key := ((snapKey s).map fun k => magKey k.2).getD [] } ∧
      (∀ h, h ≠ v.addr → sget none t.haul.snap.halves h = sget none s.haul.snap.halves h) ∧
      t.haul.snap.save = none ∧ t.haul.snap.good = some v.half ∧ saveHalf t = 1 - v.half ∧
      mbxResult t = (if v.mailbox = true then s.mbx.running.map (fun _ => 0) else mbxResult s)) ∧
  (∀ (ok : Bool) (v : SaveSt) (s : State), s.haul.snap.save = some v → ((snapKey s) = none ∨ (v.spi = false ∧ v.forSpi = false ∧ canWriteHost s = false)) →
    ∃ t, exec (.snapshotSaveDone ok) s = .next t ∧ t.haul.snap.halves = s.haul.snap.halves ∧
      t.haul.snap.save = none ∧ t.haul.snap.good = s.haul.snap.good ∧
      mbxResult t = (if v.mailbox = true then s.mbx.running.map (fun _ => 4) else mbxResult s)) ∧
  (∀ (v : SaveSt) (k : Nat × MagSlot) (s : State), s.haul.snap.save = some v → v.spi = false → v.forSpi = true →
    v.mailbox = true → snapKey s = some k → canWriteHost s = false →
    ∃ t, exec (.snapshotSaveDone true) s = .next t ∧ t.haul.snap.halves = s.haul.snap.halves ∧
      t.haul.snap.staged = snapBytes { v.snap with key := magKey k.2 } ∧ t.haul.snap.save = none ∧
      t.haul.snap.good = s.haul.snap.good ∧ mbxResult t = s.mbx.running.map (fun _ => 0))

/-- For every port whose next reservation not yet sent has its frame complete: TIMED_LAUNCH waits until the tick that contains L and marks the reservation sent. Where the Tally's epoch at that tick differs from the one its STAMP returned, or the hold is set, the frame becomes an abort frame, its FCS complemented; otherwise it starts with its own FCS. At the frame's end, confirmed, an abort frame of this kind counts one under EPOCH, and so does a frame in whose tick of L the epoch was incremented or the hold set after the sampling, which then ends with the complemented FCS; any other counts under TX_FRAMES, and EPOCH does not count. A frame that was already bad at its deadline leaves as an abort frame and is not counted under EPOCH. How the line holds a frame and when its counter moves is the model's choice: log entry 37. Where no reservation is left to send, or the next one's deadline has not come, nothing changes. Completes, under conditions on state and operands alone: TIMED_LAUNCH, FRAME_TX_END. -/
def Obligations.TimedLaunchSamplesEpochAndHold : Prop :=
  (∀ (p : PortNo) (r : Resv) (s : State), (portSt s p).resvs.find? (fun x => x.fate != .sent) = some r → r.fate = .ready →
    ∃ t, exec (.timedLaunch p) s = .next t ∧ t.clk.ticks = max s.clk.ticks (tickOfLode r.launch s) ∧
      (portSt t p).resvs = (portSt s p).resvs.map (fun y => if y.id = r.id then { y with fate := .sent } else y) ∧
      t.rf = s.rf ∧ t.tally = s.tally ∧
      (let bad := decide (r.epoch ≠ s.tally.epoch ∨ s.tally.hold = true)
       (portSt t p).line = {
         bytes := r.out, fcs := if bad then complement32 (crc32 r.out) else crc32 r.out, launch := some r.launch
         ball := r.launch - portCout s p, aborted := bad, counted := false, tick := tickOfLode r.launch s
         moved := bad, busy := true })) ∧
  (∀ (p : PortNo) (s : State), (portSt s p).line.busy = true → (portSt s p).line.counted = false →
    (portSt s p).line.launch.isSome = true →
    ∃ t, exec (.frameTxEnd p true) s = .next t ∧ (portSt t p).line.busy = false ∧
      (let l := (portSt s p).line
       let e := rfField s (portBase p + 0x58) 31 16
       (l.moved = true ∨ s.tally.moves.contains l.tick = true → (portSt t p).line.aborted = true ∧
         (portSt t p).line.fcs = (if l.aborted then l.fcs else complement32 l.fcs) ∧
         rfField t (portBase p + 0x58) 31 16 = satAdd 16 e 1) ∧
       (l.moved = false → s.tally.moves.contains l.tick = false → (portSt t p).line.fcs = l.fcs ∧
         rfField t (portBase p + 0x58) 31 16 = e))) ∧
  (∀ (p : PortNo) (r : Resv) (s : State), (portSt s p).resvs.find? (fun x => x.fate != .sent) = some r →
    (r.fate = .underrun ∨ r.fate = .badPath) →
    ∃ t, exec (.timedLaunch p) s = .next t ∧ (portSt t p).line.aborted = true ∧ (portSt t p).line.bytes = r.out ∧
      (portSt t p).line.fcs = complement32 (crc32 r.out) ∧ (portSt t p).line.counted = true ∧ t.rf = s.rf ∧
      ∀ q, q ≠ p.val → portSt t q = portSt s q) ∧
  (∀ (p : PortNo) (s : State), (∀ r, (portSt s p).resvs.find? (fun x => x.fate != .sent) = some r → r.fate = .pending) →
    exec (.timedLaunch p) s = .next s)

/-- At L - 250 ns: a reservation with nothing present is released, nothing sent, and VACANT counts; a part of the frame makes it an underrun, filled with zeros, and theta rises one step below its maximum; a whole frame with a bad launch-buffer check is a path failure (its counter, interrupt and fault once, the model's choice: log entry 40); a whole good one gets its insertions in the order of R187. A transfer of at most 512 bytes reaches the buffer when the outbound channel of its gallery is free and the buffer has room (log entries 45 and 46); of a frame that was vacant it is late, and the frame is discarded. The end of a frame counted as bad before changes no counter; of another it is confirmed, and counted under TX_FRAMES or best effort where its epoch has not moved, or not confirmed, where its FCS is a complemented one and PATH counts. A best-effort frame leaves only when it is whole, the line is free and the gap suffices, without timestamp insertion. After a quiet period theta falls one step, never below theta_min. Completes, under conditions on state and operands alone: LAUNCH_DEADLINE, LAUNCH_BUFFER_ARRIVAL, FRAME_TX_END, BEST_EFFORT_SEND, THETA_DECAY. -/
def Obligations.DeadlinesAndTheLaunchBuffer : Prop :=
  (∀ (p : PortNo) (r : Resv) (s : State), (portSt s p).resvs.find? (fun x => x.fate == .pending) = some r →
    ∃ t, exec (.launchDeadline p) s = .next t ∧ t.clk.ticks = max s.clk.ticks (tickOfLode (r.launch - fuOfNs 250) s) ∧
      (∀ q, q ≠ p.val → portSt t q = portSt s q) ∧
      (let fr := (portSt s p).tx.find? fun x => x.resv == some r.id
       ((fr = none ∨ ∃ x, fr = some x ∧ x.arrived = 0) →
        (portSt t p).resvs = (portSt s p).resvs.filter (fun x => x.id != r.id) ∧
        rfField t (portBase p + 0x60) 15 0 = satAdd 16 (rfField s (portBase p + 0x60) 15 0) 1) ∧
       (∀ x, fr = some x → x.arrived ≠ 0 → x.arrived < x.bytes.length →
        (∀ y ∈ (portSt t p).resvs, y.id = r.id → y.fate = .underrun ∧
          y.out = x.bytes.take x.arrived ++ List.replicate (r.n - x.arrived) 0) ∧
        (portSt t p).thetaNs = (if 20000 ≤ theta s p then (portSt s p).thetaNs else min (theta s p + 250) 20000)) ∧
       (∀ x, fr = some x → x.arrived ≠ 0 → x.bytes.length ≤ x.arrived →
        (∀ y ∈ (portSt t p).resvs, y.id = r.id → (if x.pathOk = true
          then y.fate = .ready ∧ y.out = insertAll (some r.launch) x else y.fate = .badPath ∧ y.out = x.bytes)) ∧
        (portSt t p).thetaNs = (portSt s p).thetaNs))) ∧
  (∀ (p : PortNo) (ok : Bool) (x : TxFrame) (s : State), nextTx (portSt s p) = some x →
    sget 0 s.shaft.chan (x.pick / 32) = 0 → ∃ t, exec (.launchBufferArrival p ok) s = .next t ∧
      (let k := min 512 (x.bytes.length - x.arrived)
       (x.vacant = true → (portSt t p).tx = (portSt s p).tx.map (fun y => if y.seq = x.seq then
          { y with vacant := false, dead := true, arrived := y.arrived + k } else y) ∧
        (portSt t p).thetaNs = (if 20000 ≤ theta s p then (portSt s p).thetaNs else min (theta s p + 250) 20000)) ∧
       (x.vacant = false → x.dead = false → bufferHeld (portSt s p) + k ≤ 16384 →
        (portSt t p).tx = (portSt s p).tx.map (fun y => if y.seq = x.seq then
          { y with arrived := y.arrived + k, pathOk := y.pathOk && ok } else y) ∧ t = { s with prt := t.prt }) ∧
       (x.vacant = false → x.dead = false → 16384 < bufferHeld (portSt s p) + k → t = s))) ∧
  (∀ (p : PortNo) (ok : Bool) (s : State), (∀ x, nextTx (portSt s p) = some x → sget 0 s.shaft.chan (x.pick / 32) ≠ 0) →
    exec (.launchBufferArrival p ok) s = .next s) ∧
  (∀ (p : PortNo) (s : State), (portSt s p).resvs.find? (fun x => x.fate == .pending) = none →
    exec (.launchDeadline p) s = .next s) ∧
  (∀ (p : PortNo) (confirmed : Bool) (s : State), (portSt s p).line.busy = false →
    exec (.frameTxEnd p confirmed) s = .next s) ∧
  (∀ (p : PortNo) (confirmed : Bool) (s : State), (portSt s p).line.busy = true →
    ∃ t, exec (.frameTxEnd p confirmed) s = .next t ∧ (portSt t p).line.busy = false ∧
      (portSt t p).line.bytes = (portSt s p).line.bytes ∧
      ((portSt s p).line.counted = true → t = { s with prt := t.prt } ∧ (portSt t p).line.fcs = (portSt s p).line.fcs) ∧
      ((portSt s p).line.counted = false → confirmed = false → (portSt t p).line.aborted = true ∧
        (portSt t p).line.fcs = (if (portSt s p).line.aborted then (portSt s p).line.fcs
          else complement32 (portSt s p).line.fcs) ∧
        rfField t (portBase p + 0x5C) 15 0 = satAdd 16 (rfField s (portBase p + 0x5C) 15 0) 1) ∧
      ((portSt s p).line.counted = false → confirmed = true → ((portSt s p).line.launch = none ∨
          (portSt s p).line.moved = false ∧ s.tally.moves.contains (portSt s p).line.tick = false) →
        (portSt t p).line.fcs = (portSt s p).line.fcs ∧
        rfField t (portBase p + (if (portSt s p).line.launch.isSome then 0x50 else 0x54)) 31 0 =
          satAdd 32 (rfField s (portBase p + (if (portSt s p).line.launch.isSome then 0x50 else 0x54)) 31 0) 1)) ∧
  (∀ (p : PortNo) (x : TxFrame) (s : State), (portSt s p).tx.find? (fun y => y.resv.isNone && !y.dead) = some x →
    ∃ t, exec (.bestEffortSend p) s = .next t ∧
      (if (portSt s p).link = true ∧ (portSt s p).line.busy = false ∧ x.bytes.length ≤ x.arrived ∧
          gapFor s p x.bytes.length = true then
        (portSt t p).line.bytes = insertAll none x ∧ (portSt t p).line.busy = true ∧
        (portSt t p).line.launch = none ∧ (portSt t p).line.aborted = (!x.pathOk) ∧
        (portSt t p).resvs = (portSt s p).resvs ∧ t.clk = s.clk
       else t = s)) ∧
  (∀ (p : PortNo) (s : State),
    (theta s p ≠ thetaMin s p → ∃ t, exec (.thetaDecay p) s = .next t ∧
      (portSt t p).thetaNs = max (theta s p - 250) (thetaMin s p) ∧ (∀ q, q ≠ p.val → portSt t q = portSt s q) ∧
      t.clk.ticks = max s.clk.ticks ((portSt s p).thetaTick + s.cfg.lim.qThetaMs * ticksPerMs)) ∧
    (theta s p = thetaMin s p → exec (.thetaDecay p) s = .next s)) ∧
  (∀ (p : PortNo) (s : State), 2000 ≤ thetaMin s p ∧ thetaMin s p ≤ theta s p ∧ theta s p ≤ 20000)

/-- A KR or CR port links up only after training; a failed training leaves the link down. A link that goes down, by itself or by PORT_CTL.DOWN, releases every reservation; a port that a reference is bound to ignores PORT_CTL.DOWN. A PCS fault and its end change that one status bit. The symbols that the FEC corrects in a frame's codewords count in every case. A frame with a bad FCS, a pause frame or one outside the length limits goes no further than the MAC. One that matches no rule, or whose seam has no pair with the port, reaches no gallery. Otherwise it waits at the receive gate for the gallery of its pair, where the gate has room (its 32-byte descriptor counts, the model's choice: log entry 39). The head frame of a gate enters the packet store of a running gallery when its path check verifies and there is room, and Q_RX takes it last. Completes, under conditions on state and operands alone: PORT_LINK_UP, LINK_TRAINING_DONE, PORT_LINK_DOWN, PORT_ADMIN_DOWN, PORT_ADMIN_UP, PORT_PCS_FAULT, PCS_FAULT_CLEAR, FRAME_RECEIVED, RX_STORE_ADMIT. -/
def Obligations.LinksAndReceivedFrames : Prop :=
  (∀ (p : PortNo) (s : State), portEn s p = true → portDown s p = false → (portSt s p).link = false →
    ((portCfg s p).pmd = 2 ∨ (portSt s p).train = 2) →
    ∃ t, exec (.portLinkUp p) s = .next t ∧ (portSt t p).link = true ∧ (portSt t p).blockLock = true ∧
      (portSt t p).tsValid = true ∧ (portSt t p).resvs = (portSt s p).resvs ∧ OnlyReports { s with prt := t.prt } t) ∧
  (∀ (p : PortNo) (s : State), (portCfg s p).pmd ≠ 2 → (portSt s p).train ≠ 2 → exec (.portLinkUp p) s = .next s) ∧
  (∀ (p : PortNo) (s : State), portEn s p = true → portDown s p = false → (portCfg s p).pmd ≠ 2 →
    (∃ t, exec (.linkTrainingDone p true) s = .next t ∧ portSt t p = { portSt s p with train := 2 } ∧
      t = { s with prt := t.prt }) ∧
    ∃ t, exec (.linkTrainingDone p false) s = .next t ∧ (portSt t p).train = 3 ∧ (portSt t p).link = false ∧
      OnlyReports { s with prt := t.prt } t) ∧
  (∀ (p : PortNo) (s : State), ∃ t, exec (.portLinkDown p) s = .next t ∧
    (portSt t p).link = false ∧ (portSt t p).resvs = [] ∧ (∀ q, q ≠ p.val → portSt t q = portSt s q) ∧
    OnlyReports { s with prt := t.prt } t) ∧
  (∀ (p : PortNo) (s : State),
    ((portRef s p).isSome = true → exec (.portAdminDown p) s = .next s) ∧
    (portRef s p = none → ∃ t, exec (.portAdminDown p) s = .next t ∧ portDown t p = true ∧ (portSt t p).link = false ∧
      (portSt t p).resvs = [] ∧ (portSt t p).train = 0 ∧ OnlyReports { s with prt := t.prt } t) ∧
    ∃ t, exec (.portAdminUp p) s = .next t ∧ portDown t p = false ∧ t = { s with rf := t.rf }) ∧
  (∀ (p : PortNo) (kind : Nat) (s : State), portEn s p = true →
    (∃ t, exec (.portPcsFault p kind) s = .next t ∧ portSt t p = pcsSet s.clk.ticks kind true (portSt s p) ∧
      OnlyReports { s with prt := t.prt } t) ∧
    (∃ t, exec (.pcsFaultClear p kind) s = .next t ∧
      portSt t p = (if (kind = 4 ∧ usesAm s p = false) ∨ (kind = 5 ∧ (portCfg s p).fec = 0) then portSt s p
        else pcsSet s.clk.ticks kind false (portSt s p)) ∧ t = { s with prt := t.prt })) ∧
  (∀ (p : PortNo) (f : List Nat) (fcsOk uncorr : Bool) (tag : WordTag) (s : State),
    ((portSt s p).link = false ∨ portDown s p = true → exec (.frameReceived p f fcsOk uncorr tag) s = .next
      (if portEn s p = true ∧ (portCfg s p).fec ≠ 0 then rfBump (portBase p + 0x40) 31 0 tag.corrected s else s)) ∧
    (fcsOk = false ∨ uncorr = true ∨ f.length < 60 ∨ 9212 < f.length ∨ beAt f 12 2 = 0x8808 ∨
        classify? s p (parse f) = none →
      ∃ t, exec (.frameReceived p f fcsOk uncorr tag) s = .next t ∧ t = { s with rf := t.rf }) ∧
    (∀ i r h g, portEn s p = true → (portSt s p).link = true → portDown s p = false → fcsOk = true → uncorr = false →
      60 ≤ f.length → f.length ≤ 9212 → beAt f 12 2 ≠ 0x8808 → classify? s p (parse f) = some (i, r) →
      (police r.seam (parse f).cls s).1 = none → homeOf s p r.seam = some h → boundGal s h p = some g →
      gateRoom s p f.length = true →
      ∃ t, exec (.frameReceived p f fcsOk uncorr tag) s = .next t ∧
        (portSt t p).gate = (portSt s p).gate ++ [{
          gal := g, bytes := f,
          desc := descriptor (parse f) f (lodeBits (ballTime s p (portCfg s p).speed (portCfg s p).fec tag - portCin s p)) p r.seam i
            (tsInvalid s p (ballTime s p (portCfg s p).speed (portCfg s p).fec tag - portCin s p)) }] ∧
        t = { s with rf := t.rf, prt := t.prt, seam := t.seam })) ∧
  (∀ (p : PortNo) (pathOk : Bool) (r : RxFrame) (rest : List RxFrame) (s : State), (portSt s p).gate = r :: rest →
    ∃ t, exec (.rxStoreAdmit p pathOk) s = .next t ∧
      (galRuns s r.gal = true → pathOk = true → r.pathOk = true → (galSt s r.gal).qRx.length < 256 →
        ∀ c, findCells s r.gal (ceilDiv r.bytes.length 128) = some c →
          (portSt t p).gate = rest ∧ (galSt t r.gal).qRx = (galSt s r.gal).qRx ++ [rxItem r c] ∧
          t = { s with prt := t.prt, gals := t.gals }) ∧
      (galRuns s r.gal = true → pathOk = true → r.pathOk = true → 256 ≤ (galSt s r.gal).qRx.length → t = s) ∧
      (galRuns s r.gal = false ∨ pathOk = false ∨ r.pathOk = false → (portSt t p).gate = rest ∧ t.gals = s.gals)) ∧
  (∀ (p : PortNo) (pathOk : Bool) (s : State), (portSt s p).gate = [] → exec (.rxStoreAdmit p pathOk) s = .next s)

/-- An idle pick of a running gallery takes the head of the first non-empty queue, of Q_RX alone while eight picks hold control work, and starts it with the state that R237 resets; registers and local store stay. With nothing queued it stays as it is. A pick at its watchdog limit, or with a parity error, is fenced and its item dropped, its steps wasted; below the limit nothing happens. The third fence of a pick within the hour holds it, and an earlier one does not; each fence is remembered. A fenced pick's self-test starts unless its gallery is fenced; a passed test readmits a pick that is not held, and after PICK_READMIT a held one too, then with the local-store image and registers 0; a failed one holds it, and a held pick stays fenced. A fault of the gallery fences every pick with cause 5, ends every test and empties every queue; it holds no pick that was not held. A corrected error of a cell only counts. An uncorrectable cell removes the queued item that lies in it, or ends the item that a pick holds there, or fences the pick whose response area it is. Completes, under conditions on state and operands alone: WORK_ITEM_ASSIGN, WATCHDOG_EXPIRY, PICK_PARITY_ERROR, PICK_SELFTEST, PICK_SELFTEST_DONE, GALLERY_FAULT_FENCE, STORE_UNCORRECTABLE. -/
def Obligations.DispatchAndPickFences : Prop :=
  (∀ (pick : PickNo) (i : Item) (s : State), let g := pick.val / 32
    (pickSt s pick).phase = .idle → (pickSt s pick).releasing = false → galRuns s g = true →
    (if 8 ≤ ctrlPicks s g then (galSt s g).qRx else queued s g).head? = some i →
    dispatchEntry (activeBank s g) i.cls ≠ 0xFFFF →
    ∃ t, exec (.workItemAssign pick) s = .next t ∧
      (let q := pickSt t pick
       q.phase = .running ∧ q.item = some i ∧ q.pc = dispatchEntry (activeBank s g) i.cls ∧ q.bank = (galSt s g).active ∧
       q.steps = 0 ∧ q.fl = 1 ∧ q.z = false ∧ q.c = false ∧ q.n = false ∧ q.stack = [] ∧ q.resv = [] ∧
       q.ptr 0 = { addr := 0, tag := 1 } ∧ (∀ j, j ≠ 0 → q.ptr j = {}) ∧ (∀ k, q.context k = (crcUnit k).init) ∧
       q.regs = (pickSt s pick).regs ∧ q.loc = (pickSt s pick).loc) ∧
      (queued t g).length + 1 = (queued s g).length ∧ (∀ p, p ≠ pick.val → pickSt t p = pickSt s p) ∧
      t = { s with gals := t.gals, picks := t.picks, wbr := t.wbr }) ∧
  (∀ (pick : PickNo) (s : State), queued s (pick.val / 32) = [] → exec (.workItemAssign pick) s = .next s) ∧
  (∀ (pick : PickNo) (s : State),
    ((pickSt s pick).phase ≠ .idle ∨ (pickSt s pick).releasing = true ∨ galRuns s (pick.val / 32) = false) →
    exec (.workItemAssign pick) s = .next s) ∧
  (∀ (pick : PickNo) (s : State), let p := pickSt s pick
    let limit := watchdogSteps (bankOf s (pick.val / 32) p.bank)
    (p.item.isSome = true → limit ≤ p.steps → ∃ t, exec (.watchdogExpiry pick) s = .next t ∧
      (pickSt t pick).phase = .fenced ∧ (pickSt t pick).item = none ∧ (pickSt t pick).wasted = p.wasted + p.steps ∧
      (let hour := p.fences.filter fun f => decide (s.clk.ticks < f + 3600 * ticksPerSec)
       (pickSt t pick).fences = s.clk.ticks :: hour ∧ (pickSt t pick).held = (p.held || decide (2 ≤ hour.length))) ∧
      t.clk = s.clk ∧ t.lode = s.lode ∧ t.tally = s.tally ∧ t.sess = s.sess) ∧
    (p.steps < limit → exec (.watchdogExpiry pick) s = .next s)) ∧
  (∀ (pick : PickNo) (s : State), ((pickSt s pick).phase = .fenced → exec (.pickParityError pick) s = .next s) ∧
    ((pickSt s pick).phase ≠ .fenced → ∃ t, exec (.pickParityError pick) s = .next t ∧
      (pickSt t pick).phase = .fenced ∧ (pickSt t pick).item = none ∧
      (let hour := (pickSt s pick).fences.filter fun f => decide (s.clk.ticks < f + 3600 * ticksPerSec)
       (pickSt t pick).fences = s.clk.ticks :: hour ∧
         (pickSt t pick).held = ((pickSt s pick).held || decide (2 ≤ hour.length))) ∧ t.lode = s.lode)) ∧
  (∀ (pick : PickNo) (s : State), let p := pickSt s pick
    (p.phase = .fenced → p.fenceCause ≠ 5 → ∃ t, exec (.pickSelftest pick) s = .next t ∧
      pickSt t pick = { p with testing := true } ∧ t = { s with picks := t.picks }) ∧
    (p.phase ≠ .fenced ∨ p.fenceCause = 5 → exec (.pickSelftest pick) s = .next s) ∧
    (p.phase = .fenced → p.testing = true → ∀ pass, ∃ t, exec (.pickSelftestDone pick pass) s = .next t ∧
      (pickSt t pick).testing = false ∧
      (pass = true ∧ (p.held = false ∨ p.reload = true) →
        pickSt t pick = { (if p.reload = true then loadImage (activeBank s (pick.val / 32)) p else p) with
          phase := .idle, testing := false, held := false, reload := false, fencedTicks := fencedSpan s.clk.ticks p } ∧
        rfField t (galBase (pick.val / 32) + 0x1000 + 0x10 * (pick.val % 32)) 31 16 =
          satAdd 16 (rfField s (galBase (pick.val / 32) + 0x1000 + 0x10 * (pick.val % 32)) 31 16) 1) ∧
      (pass = false ∨ (p.held = true ∧ p.reload = false) → (pickSt t pick).phase = .fenced ∧ (pickSt t pick).held = true) ∧
      OnlyReports { s with picks := t.picks } t)) ∧
  (∀ (g : GalNo) (cause : Nat) (s : State),
    ((galSt s g).phase = .off ∨ (galSt s g).phase = .fenced → exec (.galleryFaultFence g cause) s = .next s) ∧
    ((galSt s g).phase ≠ .off → (galSt s g).phase ≠ .fenced →
      ∃ t, exec (.galleryFaultFence g cause) s = .next t ∧ (galSt t g).phase = .fenced ∧ (galSt t g).fenceCause = cause ∧
        (galSt t g).moving = true ∧ queued t g = [] ∧
        (∀ p ∈ picksOf g, (pickSt t p).phase = .fenced ∧ (pickSt t p).item = none ∧
          (pickSt t p).fenceCause = 5 ∧ (pickSt t p).testing = false ∧ (pickSt t p).held = (pickSt s p).held) ∧
        t.lode = s.lode ∧ t.tally = s.tally ∧ t.clk = s.clk)) ∧
  (∀ (g : GalNo) (cell : Nat) (s : State), ∃ t, exec (.storeUncorrectable g cell) s = .next t ∧
    (cell < 1536 → ∀ x ∈ (galSt t g).qCtrl ++ (galSt t g).qInbox ++ (galSt t g).qRx, inCell x cell = false) ∧
    (cell < 1536 → (queued s g).all (fun x => !inCell x cell) = true → ∀ p i, (pickSt s p).item = some i →
      (picksOf g).find? (fun q => match (pickSt s q).item with
        | some x => inCell x cell
        | none => false) = some p → (pickSt t p).item = none) ∧
    (1536 ≤ cell → cell < 2048 → (pickSt t (32 * g + (cell - 1536) / 16 % 32)).phase = .fenced) ∧
    (2048 ≤ cell → OnlyReports s t ∧ rfField t (galBase g + 0x28) 15 0 = satAdd 16 (rfField s (galBase g + 0x28) 15 0) 1) ∧
    t.clk = s.clk ∧ t.lode = s.lode)

/-- Rebinding gives the pairs of a fenced gallery to the first ACTIVE gallery of its chain of alternates, or leaves them unbound where there is none. BIST, load, warm-up and ramp follow one another, each only from the one before; a failed BIST fences the gallery again, which lets an amendment go on; the load puts the verified record in the active bank and its image into every pick, registers 0, a held pick staying fenced; the alternate hands over its session log of the moved pairs; once every pair is at home the ramp steps on, and the sixteenth ramp step makes the gallery ACTIVE with its pairs at home. A pair returns once its gallery ramps and nothing of it waits at the alternate. A loaded bank becomes active, every pick's item and registers as they were; a pick still on the old bank 20 ms later is fenced. The step rate is the replica's steps by 1,000, and the slots of the time for which a pick was fenced in the last millisecond are FENCED (that the tick of the measure brings the other slots is the model's choice: log entry 47). A due tick is queued for its stream, or merged into the queued one, and none comes while COARSE is 1 (that a standard program takes a tick within the command is the model's choice, log entry 52, left aside here); the ticks of a fenced gallery go to the gallery that its pairs are bound to. Completes, under conditions on state and operands alone: REBIND_DONE, READMIT_BIST_DONE, READMIT_LOAD_DONE, READMIT_WARM_DONE, TOKEN_RAMP_STEP, PAIR_RETURN, BANK_LOAD_DONE, SWAP_DEADLINE, STEP_RATE_MEASURE, GALLERY_TICK. -/
def Obligations.ReadmissionSwapsAndStepRate : Prop :=
  (∀ (g : GalNo) (s : State), ((galSt s g).moving = false → exec (.rebindDone g) s = .next s) ∧
    ((galSt s g).moving = true → ∃ t, exec (.rebindDone g) s = .next t ∧ (galSt t g).moving = false ∧
      (∀ a, findAlternate s g 16 g = some a → (galSt t g).boundTo = some a ∧ (galSt t g).unbound = false) ∧
      (findAlternate s g 16 g = none → (galSt t g).unbound = true) ∧
      (∀ h, h ≠ g.val → galSt t h = galSt s h) ∧ OnlyReports { s with gals := t.gals } t)) ∧
  (∀ (g : GalNo) (s : State), ((galSt s g).phase = .bist →
      (∃ t, exec (.readmitBistDone g true) s = .next t ∧ galSt t g = { galSt s g with phase := .loading } ∧
        t = { s with gals := t.gals }) ∧
      (∃ t, exec (.readmitBistDone g false) s = .next t ∧ (galSt t g).phase = .fenced ∧
        (s.surv.check = none → galSt t g = { galSt s g with phase := .fenced }) ∧
        OnlyReports { s with gals := t.gals, surv := t.surv, mbx := t.mbx } t)) ∧
    ((galSt s g).phase ≠ .bist → ∀ pass, exec (.readmitBistDone g pass) s = .next s)) ∧
  (∀ (g : GalNo) (b : Bank) (s : State), ((galSt s g).phase ≠ .loading → exec (.readmitLoadDone g) s = .next s) ∧
    ((galSt s g).phase = .loading → (galSt s g).verified = some b → ∃ t, exec (.readmitLoadDone g) s = .next t ∧
      (galSt t g).phase = .warming ∧ activeBank t g = b ∧
      (∀ p ∈ picksOf g, pickSt t p = { loadImage b (pickSt s p) with
        phase := if (pickSt s p).held = true then .fenced else .idle
        fenceCause := if (pickSt s p).held = true then (pickSt s p).fenceCause else 0
        fencedTicks := if (pickSt s p).held = true then (pickSt s p).fencedTicks else fencedSpan s.clk.ticks (pickSt s p) } ∧
        (pickSt t p).regs = []) ∧
      (∀ p, p / 32 ≠ g.val → pickSt t p = pickSt s p) ∧ t = { s with gals := t.gals, picks := t.picks })) ∧
  (∀ (g : GalNo) (s : State), ((galSt s g).phase ≠ .warming → exec (.readmitWarmDone g) s = .next s) ∧
    ((galSt s g).phase = .warming → ∃ t, exec (.readmitWarmDone g) s = .next t ∧ (galSt t g).phase = .ramping ∧
      (galSt t g).rampStep = 0 ∧ (let a := (galSt s g).boundTo.getD g
        (galSt t g).sessLog = ((galSt s a).sessLog.filter fun e => e.1 == g.val).take 4096 ∧
        (a ≠ g.val → (galSt t a).sessLog = (galSt s a).sessLog.filter fun e => e.1 != g.val)) ∧
      t.picks = s.picks ∧ t.lode = s.lode ∧ t.prt = s.prt ∧ t.cfg = s.cfg ∧ t.sess.recs = s.sess.recs ∧ t.sess.dir = s.sess.dir)) ∧
  (∀ (g : GalNo) (s : State), ((galSt s g).phase ≠ .ramping ∨ pairsHome s g = false → exec (.tokenRampStep g) s = .next s) ∧
    ((galSt s g).phase = .ramping → pairsHome s g = true → ∃ t, exec (.tokenRampStep g) s = .next t ∧
      (if 15 ≤ (galSt s g).rampStep then (galSt t g).phase = .active ∧ (galSt t g).boundTo = none ∧
          (galSt t g).returned = [] ∧ ∀ p, boundGal t g p = some g.val
        else galSt t g = { galSt s g with rampStep := (galSt s g).rampStep + 1 } ∧ t = { s with gals := t.gals }) ∧
      OnlyReports { s with gals := t.gals, surv := t.surv, mbx := t.mbx } t)) ∧
  (∀ (p : PortNo) (seam : SeamNo) (h : Nat) (s : State), homeOf s p seam = some h → (galSt s h).phase = .ramping →
    (galSt s h).returned.contains p.val = false → undispatched s ((galSt s h).boundTo.getD 16) p seam = false →
    ∃ t, exec (.pairReturn p seam) s = .next t ∧ boundGal t h p = some h ∧ t = { s with gals := t.gals }) ∧
  (∀ (p : PortNo) (seam : SeamNo) (h : Nat) (s : State), homeOf s p seam = some h →
    ((galSt s h).phase ≠ .ramping ∨ undispatched s ((galSt s h).boundTo.getD 16) p seam = true) →
    exec (.pairReturn p seam) s = .next s) ∧
  (∀ (g : GalNo) (b : Bank) (s : State), (galSt s g).loading = some b → (galSt s g).active < 2 →
    ∃ t, exec (.bankLoadDone g) s = .next t ∧ (galSt t g).active = 1 - (galSt s g).active ∧ activeBank t g = b ∧
      bankOf t g (galSt s g).active = activeBank s g ∧ (galSt t g).swapTick = some s.clk.ticks ∧
      (galSt t g).loading = none ∧ t = { s with gals := t.gals }) ∧
  (∀ (g : GalNo) (s : State), (galSt s g).loading = none → exec (.bankLoadDone g) s = .next s) ∧
  (∀ (g : GalNo) (s : State), ((galSt s g).swapTick = none → exec (.swapDeadline g) s = .next s) ∧
    (∀ t0, (galSt s g).swapTick = some t0 → ∃ t, exec (.swapDeadline g) s = .next t ∧
      t.clk.ticks = max s.clk.ticks (t0 + 20 * ticksPerMs) ∧
      (∀ p ∈ picksOf g, holdsOld s g p = true → (pickSt t p).phase = .fenced ∧ (pickSt t p).item = none) ∧
      ((∀ p ∈ picksOf g, holdsOld s g p = false) → OnlyTime s t))) ∧
  (∀ (g : GalNo) (steps : Nat) (s : State), ∃ t, exec (.stepRateMeasure g steps []) s = .next t ∧
    (galSt t g).stepRate = steps / 1000 % 2 ^ 32 ∧
    (∀ p, p / 32 = g.val → pickSt t p = { pickSt s p with
      fencedSlots := (pickSt s p).fencedSlots + steps * fencedSpan t.clk.ticks (pickSt s p) / ticksPerMs, fencedTicks := 0 }) ∧
    t.lode = s.lode ∧ t.cfg = s.cfg) ∧
  (∀ (g : GalNo) (l : Fin 32) (f b steps : Nat) (s : State),
    ∃ t, exec (.stepRateMeasure g steps [(l.val, f, b)]) s = .next t ∧
      pickSt t (32 * g + l) = endMs t.clk.ticks steps { pickSt s (32 * g + l) with
        front := (pickSt s (32 * g + l)).front + f, back := (pickSt s (32 * g + l)).back + b }) ∧
  (∀ (g : GalNo) (k : Fin 4) (ecc : List (Nat × ReadErr)) (s : State), let per := fuOfNs (tickPeriod (activeBank s g) k * 1000)
    (per = 0 ∨ s.lode.coarse = true ∨ tickGals s g = [] → exec (.galleryTick (g, ecc) k) s = .next s) ∧
    (per ≠ 0 → s.lode.coarse = false → tickGals s g = [g.val] → NoPtpPull s g →
      ∃ t, exec (.galleryTick (g, ecc) k) s = .next t ∧
        t.clk.ticks = max s.clk.ticks (tickOfLode ((nowFu s / per + 1) * per) s) ∧
        (∃ i, (k.val, i) ∈ (galSt t g).qTick ∧ i.cls = 0xC ∧ ofLodeBits (beAt i.hdr 0 12) % 2 ^ 64 =
          ofLodeBits (lodeBits ((nowFu s / per + 1) * per)) % 2 ^ 64) ∧
        (galSt t g).qTick.length = (galSt s g).qTick.length +
          (if (galSt s g).qTick.any (fun e => e.1 == k.val) = true then 0 else 1) ∧ t.picks = s.picks) ∧
    (∀ a, per ≠ 0 → s.lode.coarse = false → a ≠ g.val → tickGals s g = [a] → NoPtpPull s a →
      ∃ t, exec (.galleryTick (g, ecc) k) s = .next t ∧ galSt t g = galSt s g ∧
        (∃ i, (4 * (g.val + 1) + k.val, i) ∈ (galSt t a).qTick ∧ i.cls = 0xC) ∧
        (galSt t a).qTick.length = (galSt s a).qTick.length +
          (if (galSt s a).qTick.any (fun e => e.1 == 4 * (g.val + 1) + k.val) = true then 0 else 1) ∧ t.picks = s.picks))

/-- For every running pick and every operand: MOV to TST and MOVI to TSTI write and flag their result, with the carry of a sum or the borrow of a difference in C where the row names C, and C unchanged elsewhere; SHL and SHR put the last bit out in C, or 0; ROL and ROR rotate within four bits; NOT and NEG; BIT puts the complement of the bit in Z alone; SETB and CLRB change one bit and no flag; GETF and SETF move the flags. Each takes one step and changes nothing else of the pick or of any other. Completes, under conditions on state and operands alone: MOV, ADD, ADC, SUB, SBC, AND, OR, XOR, CMP, TST, MOVI, ADDI, ADCI, SUBI, SBCI, ANDI, ORI, XORI, CMPI, TSTI, SHL, SHR, ROL, ROR, BIT, SETB, CLRB, NOT, NEG, GETF, SETF. -/
def Obligations.NibbleInstructionsFollowTheirTable : Prop :=
  ∀ (pick : PickNo) (d n : Reg) (s : State), (pickSt s pick).phase = .running →
    let p := pickSt s pick
    let a := p.reg d
    let b := p.reg n
    let k := p.c.toNat
    ((∃ t, exec (.mov pick d n) s = .next t ∧ NibbleSet pick s t (some d) b p.c) ∧
     (∃ t, exec (.add pick d n) s = .next t ∧ NibbleSet pick s t (some d) (a + b) (decide (16 ≤ a + b))) ∧
     (∃ t, exec (.adc pick d n) s = .next t ∧ NibbleSet pick s t (some d) (a + b + k) (decide (16 ≤ a + b + k))) ∧
     (∃ t, exec (.sub pick d n) s = .next t ∧ NibbleSet pick s t (some d) (a + 32 - b) (decide (a < b))) ∧
     (∃ t, exec (.sbc pick d n) s = .next t ∧ NibbleSet pick s t (some d) (a + 32 - b - k) (decide (a < b + k))) ∧
     (∃ t, exec (.and pick d n) s = .next t ∧ NibbleSet pick s t (some d) (a &&& b) p.c) ∧
     (∃ t, exec (.or pick d n) s = .next t ∧ NibbleSet pick s t (some d) (a ||| b) p.c) ∧
     (∃ t, exec (.xor pick d n) s = .next t ∧ NibbleSet pick s t (some d) (a ^^^ b) p.c) ∧
     (∃ t, exec (.cmp pick d n) s = .next t ∧ NibbleSet pick s t none (a + 32 - b) (decide (a < b))) ∧
     (∃ t, exec (.tst pick d n) s = .next t ∧ NibbleSet pick s t none (a &&& b) p.c)) ∧
    (∀ x : Fin 16,
      (∃ t, exec (.movi pick d x) s = .next t ∧ NibbleSet pick s t (some d) x p.c) ∧
      (∃ t, exec (.addi pick d x) s = .next t ∧ NibbleSet pick s t (some d) (a + x) (decide (16 ≤ a + x))) ∧
      (∃ t, exec (.adci pick d x) s = .next t ∧ NibbleSet pick s t (some d) (a + x + k) (decide (16 ≤ a + x + k))) ∧
      (∃ t, exec (.subi pick d x) s = .next t ∧ NibbleSet pick s t (some d) (a + 32 - x) (decide (a < x))) ∧
      (∃ t, exec (.sbci pick d x) s = .next t ∧ NibbleSet pick s t (some d) (a + 32 - x - k) (decide (a < x + k))) ∧
      (∃ t, exec (.andi pick d x) s = .next t ∧ NibbleSet pick s t (some d) (a &&& x) p.c) ∧
      (∃ t, exec (.ori pick d x) s = .next t ∧ NibbleSet pick s t (some d) (a ||| x) p.c) ∧
      (∃ t, exec (.xori pick d x) s = .next t ∧ NibbleSet pick s t (some d) (a ^^^ x) p.c) ∧
      (∃ t, exec (.cmpi pick d x) s = .next t ∧ NibbleSet pick s t none (a + 32 - x) (decide (a < x))) ∧
      (∃ t, exec (.tsti pick d x) s = .next t ∧ NibbleSet pick s t none (a &&& x) p.c)) ∧
    (∀ x : Fin 4,
      (∃ t, exec (.shl pick d x) s = .next t ∧ NibbleSet pick s t (some d) (a * 2 ^ x.val) (decide (x.val ≠ 0) && bitAt a (4 - x))) ∧
      (∃ t, exec (.shr pick d x) s = .next t ∧ NibbleSet pick s t (some d) (a / 2 ^ x.val) (decide (x.val ≠ 0) && bitAt a (x - 1))) ∧
      (∃ t, exec (.rol pick d x) s = .next t ∧ NibbleSet pick s t (some d) (a * 2 ^ x.val % 16 + a / 2 ^ (4 - x.val)) p.c) ∧
      (∃ t, exec (.ror pick d x) s = .next t ∧ NibbleSet pick s t (some d) (a / 2 ^ x.val + a * 2 ^ (4 - x.val) % 16) p.c) ∧
      (∃ t, exec (.bit pick d x) s = .next t ∧ NibbleIs pick s t none 0 (!bitAt a x) p.c p.n) ∧
      (∃ t, exec (.setb pick d x) s = .next t ∧ NibbleIs pick s t (some d) (if bitAt a x = true then a else a + 2 ^ x.val) p.z p.c p.n) ∧
      (∃ t, exec (.clrb pick d x) s = .next t ∧ NibbleIs pick s t (some d) (if bitAt a x = true then a - 2 ^ x.val else a) p.z p.c p.n)) ∧
    (∃ t, exec (.not pick d) s = .next t ∧ NibbleSet pick s t (some d) (15 - a) p.c) ∧
    (∃ t, exec (.neg pick d) s = .next t ∧ NibbleSet pick s t (some d) (32 - a) (decide (0 < a))) ∧
    (∃ t, exec (.getf pick d) s = .next t ∧ NibbleIs pick s t (some d) (4 * p.n.toNat + 2 * p.c.toNat + p.z.toNat) p.z p.c p.n) ∧
    (∃ t, exec (.setf pick n) s = .next t ∧ NibbleIs pick s t none 0 (bitAt b 0) (bitAt b 1) (bitAt b 2))

/-- For every running pick with FL from 1 to 32, in the spaces LOCAL and RESP, where the two fields share no nibble and no helper result is outstanding: FADD leaves the sum of the two fields modulo 16^FL with its carry in C, FADC adds C, FSUB and FSBC subtract with the borrow, FAND, FOR and FXOR act on every bit, FMOV and FFILL copy, FSHL and FSHR shift the whole field by one bit with the bit out in C, and the forms with a nibble register add or subtract its value. FCMP, FTST and FCMPN set the flags alone. Z says whether the result is 0 and N is its top bit. Each takes FL steps, a pointer whose advance bit is set moves on by FL and no other, and no nibble outside the field changes. Completes, under conditions on state and operands alone: FMOV, FADD, FADC, FSUB, FSBC, FAND, FOR, FXOR, FCMP, FTST, FFILL, FADDN, FADCN, FSUBN, FCMPN, FSHL, FSHR. -/
def Obligations.FieldOperationsComputeOnWholeNumbers : Prop :=
  ∀ (pick : PickNo) (i j : Ptr) (ai aj : Bool) (n : Reg) (s : State), (pickSt s pick).phase = .running →
    Settled pick s → 1 ≤ (pickSt s pick).fl → (pickSt s pick).fl ≤ 32 →
    let p := pickSt s pick
    let w := 16 ^ p.fl
    let a := fieldVal p (p.ptr i) p.fl
    let k := p.c.toNat
    let r := p.reg n
    (Apart (p.ptr i) (p.ptr j) p.fl →
      let b := fieldVal p (p.ptr j) p.fl
      (∃ t, exec (.fmov pick i j ai aj) s = .next t ∧ FieldIs pick s t i [(i, ai), (j, aj)] true b p.c) ∧
      (∃ t, exec (.fadd pick i j ai aj) s = .next t ∧ FieldIs pick s t i [(i, ai), (j, aj)] true ((a + b) % w) (decide (w ≤ a + b))) ∧
      (∃ t, exec (.fadc pick i j ai aj) s = .next t ∧ FieldIs pick s t i [(i, ai), (j, aj)] true ((a + b + k) % w) (decide (w ≤ a + b + k))) ∧
      (∃ t, exec (.fsub pick i j ai aj) s = .next t ∧ FieldIs pick s t i [(i, ai), (j, aj)] true ((a + w - b) % w) (decide (a < b))) ∧
      (∃ t, exec (.fsbc pick i j ai aj) s = .next t ∧ FieldIs pick s t i [(i, ai), (j, aj)] true ((a + 2 * w - b - k) % w) (decide (a < b + k))) ∧
      (∃ t, exec (.fand pick i j ai aj) s = .next t ∧ FieldIs pick s t i [(i, ai), (j, aj)] true (a &&& b) p.c) ∧
      (∃ t, exec (.fieldOr pick i j ai aj) s = .next t ∧ FieldIs pick s t i [(i, ai), (j, aj)] true (a ||| b) p.c) ∧
      (∃ t, exec (.fxor pick i j ai aj) s = .next t ∧ FieldIs pick s t i [(i, ai), (j, aj)] true (a ^^^ b) p.c) ∧
      (∃ t, exec (.fcmp pick i j ai aj) s = .next t ∧ FieldIs pick s t i [(i, ai), (j, aj)] false ((a + w - b) % w) (decide (a < b))) ∧
      (∃ t, exec (.ftst pick i j ai aj) s = .next t ∧ FieldIs pick s t i [(i, ai), (j, aj)] false (a &&& b) p.c)) ∧
    (Plain (p.ptr i) →
      (∃ t, exec (.ffill pick i ai n) s = .next t ∧ FieldIs pick s t i [(i, ai)] true (r * ((w - 1) / 15)) p.c) ∧
      (∃ t, exec (.faddn pick i ai n) s = .next t ∧ FieldIs pick s t i [(i, ai)] true ((a + r) % w) (decide (w ≤ a + r))) ∧
      (∃ t, exec (.fadcn pick i ai n) s = .next t ∧ FieldIs pick s t i [(i, ai)] true ((a + r + k) % w) (decide (w ≤ a + r + k))) ∧
      (∃ t, exec (.fsubn pick i ai n) s = .next t ∧ FieldIs pick s t i [(i, ai)] true ((a + w - r) % w) (decide (a < r))) ∧
      (∃ t, exec (.fcmpn pick i ai n) s = .next t ∧ FieldIs pick s t i [(i, ai)] false ((a + w - r) % w) (decide (a < r))) ∧
      (∃ t, exec (.fshl pick i ai) s = .next t ∧ FieldIs pick s t i [(i, ai)] true (2 * a % w) (decide (w ≤ 2 * a))) ∧
      (∃ t, exec (.fshr pick i ai) s = .next t ∧ FieldIs pick s t i [(i, ai)] true (a / 2) (decide (a % 2 = 1))))

/-- For every running pick: FLEN and FLENR set FL; FADDI, FSET, FCPY, FADDR, FADDW and FSPACE give the pointer the address and tag of their row; FLDP and FADDB read them from the field at Fj; FSTP stores a pointer there. LDN reads a nibble into a register, and one outside ITEM reads as 0 with a program error and no other effect; STN stores one into LOCAL or RESP. FGET and FPUT move FL nibbles between the field and the registers, modulo 16, and advance where the bit is set. An instruction that reads a RESULT byte that a helper will write waits: it changes nothing. Completes, under conditions on state and operands alone: FLEN, FLENR, FADDI, FSET, FCPY, FADDR, FADDW, FSPACE, FLDP, FADDB, FSTP, LDN, STN, FGET, FPUT. -/
def Obligations.PointerLoadAndStoreInstructions : Prop :=
  ∀ (pick : PickNo) (i j : Ptr) (a : Bool) (d n : Reg) (s : State), (pickSt s pick).phase = .running →
    let p := pickSt s pick
    (∀ x : Fin 32, ∃ t, exec (.flen pick x) s = .next t ∧
      pickSt t pick = { p with fl := x.val + 1, pc := p.pc + 1, steps := p.steps + 1 } ∧ OnlyPick pick s t) ∧
    (∃ t, exec (.flenr pick n) s = .next t ∧
      pickSt t pick = { p with fl := p.reg n + 1, pc := p.pc + 1, steps := p.steps + 1 } ∧ OnlyPick pick s t) ∧
    (∀ x : Fin 512, (∃ t, exec (.faddi pick i x) s = .next t ∧ PtrIs pick s t i
      ((p.ptr i).addr + x.val + (if x.val < 256 then 0 else 65536 - 512)) (p.ptr i).tag 1)) ∧
    (∀ (sp : Fin 4) (x : Fin 128), (∃ t, exec (.fset pick i sp x) s = .next t ∧ PtrIs pick s t i (2 * x.val) sp 1)) ∧
    (∃ t, exec (.fcpy pick i j) s = .next t ∧ PtrIs pick s t i (p.ptr j).addr (p.ptr j).tag 1) ∧
    (∃ t, exec (.faddr pick i n) s = .next t ∧ PtrIs pick s t i ((p.ptr i).addr + p.reg n) (p.ptr i).tag 1) ∧
    (∃ t, exec (.faddw pick i n) s = .next t ∧ PtrIs pick s t i ((p.ptr i).addr + 8 * p.reg n) (p.ptr i).tag 1) ∧
    (∀ sp : Fin 4, (∃ t, exec (.fspace pick i sp) s = .next t ∧ PtrIs pick s t i (p.ptr i).addr sp 1)) ∧
    (Settled pick s → (∃ t, exec (.fldp pick i j) s = .next t ∧ PtrIs pick s t i (fieldVal p (p.ptr j) 4) (p.ptr i).tag 4) ∧
      (∃ t, exec (.faddb pick i j) s = .next t ∧ PtrIs pick s t i ((p.ptr i).addr + 2 * fieldVal p (p.ptr j) 2) (p.ptr i).tag 2)) ∧
    (∃ t, exec (.fstp pick i j) s = .next t ∧ (pickSt t pick).steps = p.steps + 4 ∧ (pickSt t pick).ptrs = p.ptrs ∧
      (Plain (p.ptr j) → fieldVal (pickSt t pick) (p.ptr j) 4 = (p.ptr i).addr % 2 ^ 16) ∧ OnlyPick pick s t) ∧
    (∀ x : Fin 32, Settled pick s → ∃ t, exec (.ldn pick d i x) s = .next t ∧
      (pickSt t pick).reg d = p.nib (p.ptr i).tag ((p.ptr i).addr + x) ∧
      (∀ e : Reg, e ≠ d → (pickSt t pick).reg e = p.reg e) ∧ (pickSt t pick).z = p.z ∧ OnlyPick pick s t ∧
      (p.outside (p.ptr i).tag ((p.ptr i).addr + x) = true → (pickSt t pick).reg d = 0 ∧
        t.wbr = (wbrEvent 2 pick 1 s).wbr) ∧
      (p.outside (p.ptr i).tag ((p.ptr i).addr + x) = false → t.wbr = s.wbr)) ∧
    (∀ x : Fin 32, ∃ t, exec (.stn pick n i x) s = .next t ∧ (pickSt t pick).regs = p.regs ∧ OnlyPick pick s t ∧
      (Plain (p.ptr i) → (pickSt t pick).nib (p.ptr i).tag ((p.ptr i).addr + x) = p.reg n ∧
        ∀ tag m, (tag ≠ (p.ptr i).tag ∨ m % 4096 ≠ ((p.ptr i).addr + x) % 4096) →
          (pickSt t pick).nib tag m = p.nib tag m)) ∧
    (Settled pick s → ∃ t, exec (.fget pick i a n) s = .next t ∧ (pickSt t pick).steps = p.steps + p.fl ∧
      (∀ m, m < p.fl → m < 16 → (pickSt t pick).reg (n + m) = p.nib (p.ptr i).tag ((p.ptr i).addr + m)) ∧
      (pickSt t pick).ptr i = (if a = true then { p.ptr i with addr := ((p.ptr i).addr + p.fl) % 2 ^ 16 } else p.ptr i) ∧
      OnlyPick pick s t) ∧
    (∃ t, exec (.fput pick i a n) s = .next t ∧ (pickSt t pick).regs = p.regs ∧
      (Plain (p.ptr i) → p.fl ≤ 32 → ∀ m, m < p.fl →
        (pickSt t pick).nib (p.ptr i).tag ((p.ptr i).addr + m) = p.reg (n + m)) ∧ OnlyPick pick s t) ∧
    (∀ x : Fin 32, readWaits s pick (p.ptr i).tag ((p.ptr i).addr + x) 1 = true → exec (.ldn pick d i x) s = .next s) ∧
    (readWaits s pick (p.ptr i).tag (p.ptr i).addr p.fl = true → exec (.fget pick i a n) s = .next s)

/-- For every running pick and unit: KINIT puts the context at the unit's initial value and clears its taint. KFEED of 1, 2 or 4 bytes folds them, in ascending address order, into that context alone, in one step more than the bytes. KRES writes the unit's value to the eight nibbles at the pointer, in LOCAL or RESP, and sets Z exactly when the value is the unit's good value and the context is not tainted, in eight steps; no other flag changes. A context fed with the nine bytes 31 to 39 shows the check value of its unit. Completes, under conditions on state and operands alone: KINIT, KFEED, KRES. -/
def Obligations.CheckUnitInstructions : Prop :=
  (∀ (pick : PickNo) (k i : Ptr) (s : State), (pickSt s pick).phase = .running →
    (∃ t, exec (.kinit pick k) s = .next t ∧ (pickSt t pick).context k = (crcUnit k).init ∧
      (pickSt t pick).tainted.contains k.val = false ∧ (∀ m, m ≠ k.val → (pickSt t pick).context m = (pickSt s pick).context m) ∧
      (pickSt t pick).steps = (pickSt s pick).steps + 1 ∧ OnlyPick pick s t) ∧
    (∀ w : Fin 3, Settled pick s → ∃ t, exec (.kfeed pick k i w) s = .next t ∧
      (pickSt t pick).context k = ((pickSt s pick).bytes ((pickSt s pick).ptr i).tag ((pickSt s pick).ptr i).addr
        (2 ^ w.val)).foldl (crcUnitByte (crcUnit k)) ((pickSt s pick).context k) ∧
      (∀ m, m ≠ k.val → (pickSt t pick).context m = (pickSt s pick).context m) ∧
      (pickSt t pick).steps = (pickSt s pick).steps + 1 + 2 ^ w.val ∧ (pickSt t pick).z = (pickSt s pick).z ∧
      OnlyPick pick s t) ∧
    (∃ t, exec (.kres pick k i) s = .next t ∧
      (Plain ((pickSt s pick).ptr i) → fieldVal (pickSt t pick) ((pickSt s pick).ptr i) 8 =
        crcValue k ((pickSt s pick).context k) % 2 ^ 32) ∧
      ((pickSt t pick).z = true ↔ crcValue k ((pickSt s pick).context k) = (crcUnit k).good ∧
        (pickSt s pick).tainted.contains k.val = false) ∧
      (pickSt t pick).c = (pickSt s pick).c ∧ (pickSt t pick).n = (pickSt s pick).n ∧
      (pickSt t pick).steps = (pickSt s pick).steps + 8 ∧
      OnlyReports { s with picks := t.picks, wbr := t.wbr } t)) ∧
  ((List.range 8).map fun k => crcValue k ([0x31, 0x32, 0x33, 0x34, 0x35, 0x36, 0x37, 0x38, 0x39].foldl
    (crcUnitByte (crcUnit k)) (crcUnit k).init)) =
    [0xE3069283, 0xCBF43926, 0x0376E6E7, 0xFC891918, 0xCDE703, 0x29B1, 0xBB3D, 0xF4]

/-- For every running pick: each conditional branch goes on at its target, counted from the next instruction modulo 2^14, in 2 steps where its condition holds, and at the next instruction in 1 step elsewhere. JMP branches always; CALL also pushes the return address, of which four are kept, and a fifth is a program error; RET pops it. DJNZ subtracts 1 and branches unless the result is 0. WAIT goes on once no NOWAIT call is outstanding and until then changes nothing. RET with an empty stack, its two steps wasted with those before, and a fetch at or beyond the record's instruction count, end the item as DROP. No plain instruction does anything to a pick that is not running. Completes, under conditions on state and operands alone: BRA, BEQ, BNE, BCS, BCC, BMI, BPL, BHI, JMP, CALL, DJNZ, NOP, RET, WAIT, PROGRAM_FETCH_OVERRUN. -/
def Obligations.BranchesCallsAndWaits : Prop :=
  (∀ (pick : PickNo) (s : State), (pickSt s pick).phase = .running →
    let p := pickSt s pick
    let goes := fun (t : State) (taken : Bool) (bits o : Nat) => OnlyPick pick s t ∧
      pickSt t pick = { p with
        pc := if taken then (((p.pc : Int) + 1 + signedOf bits o) % 16384).toNat else p.pc + 1
        steps := p.steps + if taken then 2 else 1 }
    (∀ o : Fin 512, (∃ t, exec (.bra pick o) s = .next t ∧ goes t true 9 o) ∧ (∃ t, exec (.beq pick o) s = .next t ∧ goes t p.z 9 o) ∧ (∃ t, exec (.bne pick o) s = .next t ∧ goes t (!p.z) 9 o) ∧
      (∃ t, exec (.bcs pick o) s = .next t ∧ goes t p.c 9 o) ∧ (∃ t, exec (.bcc pick o) s = .next t ∧ goes t (!p.c) 9 o) ∧ (∃ t, exec (.bmi pick o) s = .next t ∧ goes t p.n 9 o) ∧
      (∃ t, exec (.bpl pick o) s = .next t ∧ goes t (!p.n) 9 o) ∧ (∃ t, exec (.bhi pick o) s = .next t ∧ goes t (!p.c && !p.z) 9 o)) ∧
    (∀ o : Fin 4096, (∃ t, exec (.jmp pick o) s = .next t ∧ goes t true 12 o) ∧
      ∃ t, exec (.call pick o) s = .next t ∧ OnlyPick pick s t ∧
        pickSt t pick = { p with
          pc := (((p.pc : Int) + 1 + signedOf 12 o) % 16384).toNat, steps := p.steps + 2
          stack := ((p.pc + 1) % 16384 :: p.stack).take 4 } ∧
        t.wbr = (if 4 ≤ p.stack.length then (wbrEvent 2 pick 1 s).wbr else s.wbr)) ∧
    (∀ (d : Reg) (o : Fin 256), ∃ t, exec (.djnz pick d o) s = .next t ∧ OnlyPick pick s t ∧
      (pickSt t pick).reg d = (p.reg d + 15) % 16 ∧ (∀ e : Reg, e ≠ d → (pickSt t pick).reg e = p.reg e) ∧
      (pickSt t pick).z = p.z ∧
      (pickSt t pick).pc = (if p.reg d = 1 then p.pc + 1 else (((p.pc : Int) + 1 + signedOf 8 o) % 16384).toNat) ∧
      (pickSt t pick).steps = p.steps + (if p.reg d = 1 then 1 else 2)) ∧
    (∃ t, exec (.nop pick) s = .next t ∧ goes t false 9 0) ∧
    (∀ a l, p.stack = a :: l → ∃ t, exec (.ret pick) s = .next t ∧ OnlyPick pick s t ∧
      pickSt t pick = { p with pc := a, stack := l, steps := p.steps + 2 }) ∧
    ((∃ r ∈ s.shaft.reqs, r.pick = pick.val ∧ r.nowait = true ∧ r.stale = false) → exec (.wait pick) s = .next s) ∧
    ((∀ r ∈ s.shaft.reqs, r.pick = pick.val → r.nowait = true → r.stale = true) → (∃ t, exec (.wait pick) s = .next t ∧ goes t false 9 0)) ∧
    (p.stack = [] → ∃ t, exec (.ret pick) s = .next t ∧ (pickSt t pick).item = none ∧ (pickSt t pick).phase = .idle ∧
      (pickSt t pick).wasted = p.wasted + p.steps + 2 ∧ t.prt = s.prt ∧ t.sess = s.sess) ∧
    ((bankOf s (pick.val / 32) p.bank).prog.insns.length ≤ p.pc → ∃ t, exec (.programFetchOverrun pick) s = .next t ∧
      (pickSt t pick).item = none ∧ (pickSt t pick).phase = .idle ∧ (pickSt t pick).wasted = p.wasted + p.steps) ∧
    (p.pc < (bankOf s (pick.val / 32) p.bank).prog.insns.length → exec (.programFetchOverrun pick) s = .next s)) ∧
  (∀ (i : Instr) (w : Nat) (s : State), encodePick i = some w → w < 0xE000 ∨ 0xF000 ≤ w →
    (pickSt s (pickOf i)).phase ≠ .running → exec i s = .next s)

/-- For every instruction of a pick with every operand at every value its encoding admits, the word that R242 and R244 give it lies below 2^16, decodes to that instruction and no other, and every word that decodes at all is the word of the instruction it decodes to. So no bit of an encoding is dropped and no two instructions share a word. -/
def Obligations.EveryPickWordDecodesToItsInstruction : Prop :=
  (∀ (i : Instr) (w : Nat), encodePick i = some w → w < 2 ^ 16 ∧ decodePick (pickOf i) w = some i) ∧
  (∀ (pick : PickNo) (w : Nat) (i : Instr), w < 2 ^ 16 → decodePick pick w = some i →
    encodePick i = some w ∧ pickOf i = pick) ∧
  (∀ (i j : Instr) (w : Nat), encodePick i = some w → encodePick j = some w →
    pickOf i = pickOf j → i = j)

/-- ntp-srv drops a request that fails the checks of R210 or has an invalid receive time, under their own counters; one with a stamp gets a response whose 48-byte header names version, stratum and dispersion of the bound, and the request's transmit time as origin. nts-srv drops a request without sound NTS fields or with an invalid receive time; they are sound only with a cookie of 104 bytes, and a nonce and a ciphertext of at least 16, under an Authenticator that is the last field. A request verified under the keys of its session record or cookie gets one authenticated response: header, unique identifier and bound, then the NTS seal with a new cookie and one per placeholder up to four. One whose cookie names no key gets a NAK of stratum 0 and kiss code NTSN without a STAMP, counted in its second, but none in an inserted second of a true-UTC seam or beyond the seam's rate (the NAK's open fields and instant are the model's choice: log entries 48 and 49). A program whose STAMP has to wait changes nothing (log entry 47). An information PDU leaves once per whole second with the port's QL, an event PDU when the QL changes, and neither when ten left in the last second (an information PDU before the event's leaves it due, the model's choice: log entry 51); with 64 items in the queue of the control gate the event PDU's report is dropped as a fault. A received PDU gives its QL to its port's SyncE reference, and restarts the 5 s of R95 only as an information PDU; its pick waits while the control gate's queue is full or the gallery's outbound channel is taken; a malformed one, and one of another port, are counted. neigh answers an ARP request for the seam's address from its MAC, and an ICMPv4 echo request as the worked example does; it drops any other, and counts a fragment, truncation, a bad IP checksum or a malformed ARP packet. Completes, under conditions on state and operands alone: NTP_REQUEST, NTS_REQUEST, ESMC_INFO_PDU, ESMC_EVENT_PDU, ESMC_PDU_RECEIVED, NEIGH_REPLY. -/
def Obligations.NtpNtsEsmcAndNeighbourRequests : Prop :=
  (∀ (pick : PickNo) (r : RxReq) (s : State), rxReq s pick = some r → r.cls = 6 → pickModule s pick = 3 →
    bankRuns (pickBank s pick) 3 = true → (bankRuns (pickBank s pick) 4 = true → r.hasExt 0x0104 = false) →
    ∃ t, exec (.ntpRequest pick) s = .next t ∧
      (∀ k, ntpCheck r = some k → k < 64 → t.prt = s.prt ∧ (pickSt t pick).item = none ∧
        sget 0 (galSt t (pick.val / 32)).pcnt k = satAdd 32 (sget 0 (galSt s (pick.val / 32)).pcnt k) 1) ∧
      (ntpCheck r = none → r.invalid = true → t.prt = s.prt ∧ (pickSt t pick).item = none ∧
        sget 0 (galSt t (pick.val / 32)).pcnt 3 = satAdd 32 (sget 0 (galSt s (pick.val / 32)).pcnt 3) 1) ∧
      (ntpCheck r = none → r.invalid = false → gateWaits s (pick.val / 32) = true → t = s) ∧
      (ntpCheck r = none → r.invalid = false → ∀ st u,
        respStamp r 1 ((replyWire s r).len (48 + if wantsBound s r then 24 else 0)) s = (.inl st, u) →
        (let e := (replyWire s r).emit u r.port true 0 (ntpHeader s r st ++ boundField s r st)
         r.pick = pick.val ∧ (emitOk u pick e = true → (pickSt t pick).item = none ∧
          (∃ x, (portSt t r.port).tx = (portSt u r.port).tx ++ [x] ∧ x.bytes = e.bytes ∧ x.final = true ∧
            x.pick = pick.val))))) ∧
  (∀ (s : State) (r : RxReq) (st : Stamp), 48 ≤ r.data.length → st.origin < 2 ^ 32 →
    (ntpHeader s r st).length = 48 ∧ slice 24 8 (ntpHeader s r st) = slice 40 8 r.data ∧
    (ntpHeader s r st)[1]? = some (ntpStratum s st) ∧ slice 8 4 (ntpHeader s r st) = beBytes 4 (ntpDispersion st.code)) ∧
  (∀ (pick : PickNo) (ecc : List (Nat × ReadErr)) (r : RxReq) (s : State), rxReq s pick = some r → r.cls = 6 →
    pickModule s pick = 4 →
    bankRuns (pickBank s pick) 4 = true → (bankRuns (pickBank s pick) 3 = true → r.hasExt 0x0104 = true) →
    ∃ t, exec (.ntsRequest (pick, ecc)) s = .next t ∧
      (ntpCheck r = none → ntsReq r = none → t.prt = s.prt ∧ (pickSt t pick).item = none ∧
        sget 0 (galSt t (pick.val / 32)).pcnt 16 = satAdd 32 (sget 0 (galSt s (pick.val / 32)).pcnt 16) 1) ∧
      (∀ n, ntpCheck r = none → ntsReq r = some n → r.invalid = true → t.prt = s.prt ∧ (pickSt t pick).item = none ∧
        sget 0 (galSt t (pick.val / 32)).pcnt 3 = satAdd 32 (sget 0 (galSt s (pick.val / 32)).pcnt 3) 1) ∧
      (∀ n, ntpCheck r = none → ntsReq r = some n → r.invalid = false → cookieSlot s r.seam n.cookie = none →
        sessEnabled s = false → issueWaits s pick .get 2 64 = false →
        (let sec := nowFu s / oneSec
         let used := if (seamSt s r.seam).nakSec = sec then (seamSt s r.seam).nakN else 0
         let silent := (seamRec s r.seam).smear = false ∧ (inInsertedSecond s r.tRx = true ∨ inInsertedSecond s (nowFu s) = true)
         (silent → t.prt = s.prt ∧ (pickSt t pick).item = none ∧
        sget 0 (galSt t (pick.val / 32)).pcnt 9 = satAdd 32 (sget 0 (galSt s (pick.val / 32)).pcnt 9) 1) ∧
         (¬ silent → (seamRec s r.seam).nakRate ≤ used → t.prt = s.prt ∧ (pickSt t pick).item = none ∧
        sget 0 (galSt t (pick.val / 32)).pcnt 7 = satAdd 32 (sget 0 (galSt s (pick.val / 32)).pcnt 7) 1) ∧
         (¬ silent → used < (seamRec s r.seam).nakRate → (seamSt t r.seam).nakN = used + 1 ∧ (seamSt t r.seam).nakSec = sec ∧
          sget 0 (galSt t (pick.val / 32)).pcnt 6 = satAdd 32 (sget 0 (galSt s (pick.val / 32)).pcnt 6) 1 ∧
          ∃ h, h.length = 48 ∧ h[0]?.map (· / 64) = some (leapLi s (nowFu s)) ∧ h[1]? = some 0 ∧ beAt h 12 4 = 0x4E54534E ∧
            (let e := (replyWire s r).emit s r.port false 0 (h ++ n.uid)
             emitOk s pick e = true → (pickSt t pick).item = none ∧
              ∃ x, (portSt t r.port).tx = (portSt s r.port).tx ++ [x] ∧ x.bytes = e.bytes ∧ x.resv = none)))) ∧
      (∀ n keys v st w x z, ntpCheck r = none → ntsReq r = some n → r.invalid = false →
        (let get := sessGetNow pick r.seam (srcKey r).1 (srcKey r).2 (memErrors r.seam ecc s)
         let verify := fun (u : State) => callCrypto pick (ntsVerifyOp n (keys.take 32)) u
         (∃ u o, get = (0, keys, u) ∧ verify u = (some o, v)) ∨
         (∃ c d u u1 o u2, get = (c, d, u) ∧ c ≠ 0 ∧
           openCookie pick r.seam n.cookie (countAt (pick.val / 32) 5 u) = (some keys, u1) ∧
           verify u1 = (some o, u2) ∧ v = sessPutNow pick r.seam (srcKey r).1 (srcKey r).2 keys u2)) →
        (let k := newCookies n
         let ad := ntpHeader v r st ++ n.uid ++ boundField v r st
         let e := (replyWire v r).emit z r.port true 0 (ad ++ x)
         respStamp r 1 ((replyWire v r).len (48 + n.uid.length + (if wantsBound v r then 24 else 0) + 40 + 108 * k)) v =
           (.inl st, w) →
         callCrypto pick (ntsSealOp (seamRec v r.seam).cookieCur keys ad k) w = (some x, z) →
         z.shaft.reqs.length ≤ s.shaft.reqs.length → emitOk z pick e = true →
         (pickSt t pick).item = none ∧
         sget 0 (galSt t (pick.val / 32)).pcnt 0 = satAdd 32 (sget 0 (galSt z (pick.val / 32)).pcnt 0) 1 ∧
         ∃ y, (portSt t r.port).tx = (portSt z r.port).tx ++ [y] ∧ y.bytes = e.bytes ∧ y.final = true ∧ y.pick = pick.val))) ∧
  (∀ (r : RxReq) (n : NtsReq), ntsReq r = some n → n.cookie.length = 104 ∧ n.nonce ≠ [] ∧ 16 ≤ n.ct.length ∧
    (0x0104, n.uid) ∈ r.exts.1 ∧
    ∃ a, r.exts.1.getLast? = some (0x0404, a) ∧ n.ad = r.data.take (r.data.length - a.length)) ∧
  (∀ (key label slot0 ad : List Nat) (k : Nat) (s : State),
    (ntsSeal key label slot0 ad k s).1.length = 40 + 108 * k ∧ beAt (ntsSeal key label slot0 ad k s).1 0 2 = 0x0404) ∧
  (∀ (p : PortNo) (g : Nat) (s : State), let u := elapseTo (nextMultiple ticksPerSec s) s
    esmcGal u p = some g → portEn s p = true → (portCfg s p).synceTx = true → (esmcRecent u p).length < 10 →
    ∃ t x, exec (.esmcInfoPdu p) s = .next t ∧ (portSt t p).tx = (portSt s p).tx ++ [x] ∧
      x.bytes = esmcPdu (seamRec s (galSeam s g)).mac (txQl u p) (portSt s p).esmcEvent ∧ x.resv = none ∧
      (portSt t p).qlSent = (if (portSt s p).esmcEvent = true then txQl u p else (portSt s p).qlSent) ∧
      (portSt t p).esmcEvent = false ∧ t.clk.ticks = max s.clk.ticks (nextMultiple ticksPerSec s)) ∧
  (∀ (p : PortNo) (s : State), (let u := elapseTo (nextMultiple ticksPerSec s) s
      esmcGal u p = none ∨ 10 ≤ (esmcRecent u p).length ∨ portEn s p = false ∨ (portCfg s p).synceTx = false) →
    exec (.esmcInfoPdu p) s = .next (elapseTo (nextMultiple ticksPerSec s) s)) ∧
  (∀ (p : PortNo) (g : Nat) (s : State), esmcGal s p = some g → portEn s p = true → (portCfg s p).synceTx = true →
    (txQl s p ≠ (portSt s p).qlSent → 64 ≤ (galSt s g).qCtrl.length →
      exec (.esmcEventPdu p) s = .next (faultEvent (256 + g) 1 0 s)) ∧
    (txQl s p ≠ (portSt s p).qlSent → (galSt s g).qCtrl.length < 64 → ∃ t, exec (.esmcEventPdu p) s = .next t ∧
      (if (esmcRecent s p).length < 10 then
        (∃ x, (portSt t p).tx = (portSt s p).tx ++ [x] ∧ x.bytes = esmcPdu (seamRec s (galSeam s g)).mac (txQl s p) true) ∧
        (portSt t p).qlSent = txQl s p
       else portSt t p = { portSt s p with esmcEvent := true }) ∧ t = { s with prt := t.prt }) ∧
    (txQl s p = (portSt s p).qlSent → exec (.esmcEventPdu p) s = .next s)) ∧
  (∀ (pick : PickNo) (r : RxReq) (s : State), rxReq s pick = some r → r.cls = 9 → pickModule s pick = 5 →
    (let b := r.f.drop r.q.l3
     let sound := beAt b 1 3 = 0x0019A7 ∧ beAt b 4 2 = 1 ∧ beAt b 6 1 / 16 = 1 ∧ beAt b 10 3 = 0x010004
     (¬ sound ∨ portSync s r.port = none ∨ gateWaits s (pick.val / 32) = false →
       ∃ t, exec (.esmcPduReceived pick) s = .next t ∧ (pickSt t pick).item = none ∧ t.prt = s.prt ∧
        (¬ sound → t.assay = s.assay ∧
          sget 0 (galSt t (pick.val / 32)).pcnt 16 = satAdd 32 (sget 0 (galSt s (pick.val / 32)).pcnt 16) 1) ∧
        (sound → ∀ n, portSync s r.port = some n → (refSt t n).ql = beAt b 13 1 % 16 ∧
          (refSt t n).qlTick = (if bitAt (beAt b 6 1) 3 then (refSt s n).qlTick else some s.clk.ticks)) ∧
        (sound → portSync s r.port = none → t.assay = s.assay ∧
          sget 0 (galSt t (pick.val / 32)).pcnt 15 = satAdd 32 (sget 0 (galSt s (pick.val / 32)).pcnt 15) 1)) ∧
     (sound → (portSync s r.port).isSome = true → gateWaits s (pick.val / 32) = true →
       exec (.esmcPduReceived pick) s = .next s))) ∧
  (∀ (pick : PickNo) (r : RxReq) (s : State), rxReq s pick = some r → r.cls = 1 ∨ r.cls = 4 ∨ r.cls = 5 →
    pickModule s pick = 6 → r.flagged = true →
    ∃ t, exec (.neighReply pick) s = .next t ∧ t.prt = s.prt ∧ (pickSt t pick).item = none ∧
      sget 0 (galSt t (pick.val / 32)).pcnt 16 = satAdd 32 (sget 0 (galSt s (pick.val / 32)).pcnt 16) 1) ∧
  (∀ (pick : PickNo) (r : RxReq) (s : State), rxReq s pick = some r → r.cls = 4 → pickModule s pick = 6 →
    r.flagged = false → ∃ t, exec (.neighReply pick) s = .next t ∧
      (let ask := beAt r.f r.q.l4 2 = 0x0800 ∧ r.q.dst = (seamRec s r.seam).ip4
       (¬ ask → t.prt = s.prt ∧ (pickSt t pick).item = none) ∧
       (ask → (echo4 r).length ≤ 9212 → r.q.l3 + 12 ≤ min (echo4 r).length 1023 → (pickSt t pick).item = none ∧
        ∃ x, (portSt t r.port).tx = (portSt s r.port).tx ++ [x] ∧ x.bytes = echo4 r ∧ x.ip4 = some (r.q.l3 + 10) ∧
          x.resv = none))) ∧
  (∀ (pick : PickNo) (r : RxReq) (s : State), rxReq s pick = some r → r.cls = 1 → pickModule s pick = 6 → r.flagged = false →
    ∃ t, exec (.neighReply pick) s = .next t ∧
      (let a := r.f.drop r.q.l3
       let c := seamRec s r.seam
       let f := pad60 (arpReply c r)
       (beAt a 24 4 ≠ c.ip4 ∨ c.ip4 = 0 ∨ beAt a 0 8 ≠ 0x0001080006040001 → t.prt = s.prt ∧ (pickSt t pick).item = none) ∧
       (beAt a 0 6 ≠ 0x000108000604 ∨ a.length < 28 → t.prt = s.prt ∧ (pickSt t pick).item = none ∧
        sget 0 (galSt t (pick.val / 32)).pcnt 16 = satAdd 32 (sget 0 (galSt s (pick.val / 32)).pcnt 16) 1) ∧
       (beAt a 24 4 = c.ip4 → c.ip4 ≠ 0 → beAt a 0 8 = 0x0001080006040001 → 28 ≤ a.length → f.length ≤ 9212 →
        (pickSt t pick).item = none ∧
        ∃ x, (portSt t r.port).tx = (portSt s r.port).tx ++ [x] ∧ x.bytes = f ∧ x.resv = none)))

/-- On a port that serves, a message of an unknown domain or of a transport its profile does not carry is dropped under its counter and sends nothing; so, with its count, is a Delay_Req whose profile needs a grant that its client does not hold, with the session store enabled or not. A Delay_Req of a profile that needs none, with a stamp and no authentication, from a client that is not over its 128 answers a second (what becomes of one that is, is the model's reading: log entry 66), gets one Delay_Resp that carries the request's receive time and identity. On a PTP-reference port a Delay_Resp that matches the Delay_Req in progress offers the Assay the offset ((t1 - t2) + (t4 - t3)) / 2 + A_p, stamped at the later of its own two instants (the model's choice, log entry 51), and ends the exchange, once the control gate takes it. A message with no record or pick to serve it changes nothing. A record whose one grant has come to its end while COARSE is 0 is released, unless the PUT that releases it has to wait, when only time passes; a record with no grant stays as it is. Completes, under conditions on state and operands alone: PTP_MESSAGE, GRANT_EXPIRY. -/
def Obligations.PtpMessagesAndGrants : Prop :=
  (∀ (pick : PickNo) (ecc : List (Nat × ReadErr)) (s : State), tickItem s pick = none → rxReq s pick = none →
    exec (.ptpMessage (pick, ecc)) s = .next s) ∧
  (∀ (pick : PickNo) (ecc : List (Nat × ReadErr)) (r : RxReq) (s : State), tickItem s pick = none → rxReq s pick = some r →
    (r.cls = 7 ∨ r.cls = 8) → pickModule s pick = 1 → bankRuns (pickBank s pick) 1 = true → portPtp s r.port = none →
    ∃ t, exec (.ptpMessage (pick, ecc)) s = .next t ∧
      (domainOf (seamRec s r.seam) (beAt r.ptp 4 1) = none → t.prt = s.prt ∧ (pickSt t pick).item = none ∧
        sget 0 (galSt t (pick.val / 32)).pcnt 10 = satAdd 32 (sget 0 (galSt s (pick.val / 32)).pcnt 10) 1) ∧
      (∀ d, domainOf (seamRec s r.seam) (beAt r.ptp 4 1) = some d →
        (ptpCarries d r.transport = false → t.prt = s.prt ∧ (pickSt t pick).item = none ∧
        sget 0 (galSt t (pick.val / 32)).pcnt 10 = satAdd 32 (sget 0 (galSt s (pick.val / 32)).pcnt 10) 1) ∧
        (ptpCarries d r.transport = true → beAt r.ptp 1 1 % 16 = 2 → beAt r.ptp 0 1 = 1 → ptpFormOk r.ptp = true →
          r.invalid = false → d.auth = none →
          (needsGrant d r.multicast = true → ∀ c x u,
            sessGetNow pick r.seam (ptpKey r).1 (ptpKey r).2 (memErrors r.seam ecc s) = (c, x, u) →
            u.shaft.reqs.length ≤ s.shaft.reqs.length →
            ¬ (c = 0 ∧ beAt x 18 1 = d.number ∧ grantLive s x 2 = true) → t.prt = s.prt ∧ (pickSt t pick).item = none ∧
        sget 0 (galSt t (pick.val / 32)).pcnt 10 = satAdd 32 (sget 0 (galSt s (pick.val / 32)).pcnt 10) 1) ∧
          (delayOver s r d = true → t.prt = s.prt ∧ (pickSt t pick).item = none ∧
            sget 0 (galSt t (pick.val / 32)).pcnt 10 = satAdd 32 (sget 0 (galSt s (pick.val / 32)).pcnt 10) 1) ∧
          (delayOver s r d = false → needsGrant d r.multicast = false → (d.profile = 1 → r.multicast = false) → ∀ st u,
            respStamp r 0 ((ptpReply s r).len 54) (memErrors r.seam ecc s) = (.inl st, u) →
            (let m := r.ptp.take (beAt r.ptp 2 2)
             let b := lodeBits r.tRx
             let x := ptpMsg 9 d.number (if r.multicast then 0 else 0x0400) ((beAt m 8 8 + 2 ^ 64 - b % 65536) % 2 ^ 64)
               (portIdentity (seamRec s r.seam).clockId r.port) (beAt m 30 2) 3
               (if r.multicast then twosComp 8 d.syncLog else 0x7F) (beBytes 10 (b / 65536) ++ slice 20 10 m)
             let e := (ptpReply s r).emit u r.port true 0 x
             emitOk u pick e = true → (pickSt t pick).item = none ∧
              ∃ f, (portSt t r.port).tx = (portSt u r.port).tx ++ [f] ∧ f.bytes = e.bytes ∧ f.pick = pick.val))))) ∧
  (∀ (pick : PickNo) (ecc : List (Nat × ReadErr)) (r : RxReq) (n t1 t2 t3 : Nat) (s : State), tickItem s pick = none → rxReq s pick = some r →
    r.cls = 8 → pickModule s pick = 2 → portPtp s r.port = some n → bankRuns (pickBank s pick) 2 = true →
    beAt r.ptp 0 1 = 9 → beAt r.ptp 1 1 % 16 = 2 → beAt r.ptp 4 1 = (refCfg s n).domain → ptpFormOk r.ptp = true →
    r.invalid = false → (refCfg s n).auth = none → (refPtp s n).t1 = some t1 → (refPtp s n).t2 = some t2 →
    (refPtp s n).t3 = some t3 → (refSt s n).masterLost = false →
    (let m := r.ptp.take (beAt r.ptp 2 2)
     beAt m 30 2 = (refPtp s n).seq → slice 44 10 m = portIdentity (refCfg s n).clockId r.port →
     (gateWaits s (pick.val / 32) = true → exec (.ptpMessage (pick, ecc)) s = .next s) ∧
     (gateWaits s (pick.val / 32) = false → ∃ t, exec (.ptpMessage (pick, ecc)) s = .next t ∧ (refPtp t n).t3 = none ∧ (pickSt t pick).item = none ∧ t.prt = s.prt ∧
      (refSt t n).offered = some (roundDiv (((t1 : Int) - t2) +
        ((ptpTime (beAt m 34 10) (-(signedOf 64 (beAt m 8 8))) : Int) - t3)) 2 + (portCfg s r.port).aP, tickBefore s (max t2 t3))))) ∧
  (∀ (seam : SeamNo) (i b : Nat) (q : PairCfg) (gal : Nat) (s : State), let c := seamRec s seam
    let x := recordOf s (c.recBase + i)
    s.cfg.str.pairs.find? (fun q => q.seam == seam.val && q.port == beAt x 33 1) = some q →
    boundGal s q.home q.port = some gal → bankRuns (activeBank s gal) 1 = true → sessEnabled s = true → i < c.recCount →
    i < 2 ^ 21 → b < 3 → s.lode.coarse = false → beAt x 19 1 % 8 = 2 ^ b → beAt x (40 + 4 * b) 4 = tai32 s →
    ∃ t, exec (.grantExpiry seam i) s = .next t ∧ (let u := elapseTo (tickOfLode (nowFu s / oneSec * oneSec) s) s
      let put := sessPutNow (32 * gal) seam 2 (beBytes 3 i) (List.replicate 64 0) u
      (u.shaft.reqs.length < put.shaft.reqs.length → t = u) ∧
      (put.shaft.reqs.length ≤ u.shaft.reqs.length → (dirEnt t (c.recBase + i)).valid = false ∧
        recordOf t (c.recBase + i) = List.replicate 64 0 ∧ (∀ g, g ≠ c.recBase + i → dirEnt t g = dirEnt s g) ∧ t.prt = s.prt))) ∧
  (∀ (seam : SeamNo) (i : Nat) (s : State), beAt (recordOf s ((seamRec s seam).recBase + i)) 19 1 % 8 = 0 →
    exec (.grantExpiry seam i) s = .next s)

/-- A running pick whose calls are below the limits issues SESSION_GET or CRYPTO in two steps: one request is queued, the pick waits unless the call is NOWAIT, and a call that its checks refuse is marked as denied. Beyond a limit, or while it does not run, it changes nothing. A denied result is status 0x80, 400 ns (GET) or 500 ns (CRYPTO) after the issue. The uncorrectable directory entries that a lookup meets are no longer valid. When its target has its turn, a GET lands its record with status 0, zero with status 1 where there is none; a corrected error is counted and an uncorrectable record is lost. SESSION_PUT is posted: a refused one is a program error, the zero record clears its entry at once, and a record is written when its write is done. CRYPTO lands its output in RESP with status 0 and its length: transfer by transfer, each at its turn, or on a fixed-slot lane 400 ns after its last input and in the order of the inputs; a failed check lands status 1 and no output. The form of requests and results is the model's choice (log entry 43). Completes, under conditions on state and operands alone: SESSION_GET, SESSION_GET_RESULT, SESSION_PUT, SESSION_PUT_DONE, CRYPTO, CRYPTO_RESULT. -/
def Obligations.SessionAndCryptoCalls : Prop :=
  (∀ (pick : PickNo) (i : Ptr) (nowait : Bool) (bad : List Nat) (s : State), let p := pickSt s pick
    let w := issueWaits s pick .get 2 64
    let b := blockAt p i 22
    (p.phase ≠ .running ∨ w = true → exec (.sessionGet (pick, bad) i nowait) s = .next s) ∧
    (p.phase = .running → w = false → ∃ t r, exec (.sessionGet (pick, bad) i nowait) s = .next t ∧
      t.shaft.reqs.length = s.shaft.reqs.length + 1 ∧ r ∈ t.shaft.reqs ∧ r.id = s.shaft.nextReq ∧ r.pick = pick.val ∧
      r.kind = .get ∧ r.slot = beAt b 0 1 % 2 ∧ r.nowait = nowait ∧
      r.denied = decide (resolve s (galSeam s (pick.val / 32)) (beAt b 1 1) (slice 4 18 b) = .denied) ∧
      pickSt t pick = { p with
        pc := p.pc + 1, steps := p.steps + 2, blocked := p.blocked || !nowait, phase := if nowait then .running else .wait } ∧
      (∀ q, q ≠ pick.val → pickSt t q = pickSt s q) ∧
      (∀ g ∈ bad, g ∈ lookupSet s (galSeam s (pick.val / 32)) (beAt b 1 1) (slice 4 18 b) → (dirEnt t g).valid = false) ∧
      OnlyReports { s with picks := t.picks, shaft := t.shaft, sess := t.sess, wbr := t.wbr } t)) ∧
  (∀ (pick : PickNo) (slot : Fin 2) (r : ShReq) (s : State),
    s.shaft.reqs.find? (fun r => r.pick == pick.val && r.kind == .get && r.slot == slot.val) = some r → r.stale = false →
    (r.denied = true → ∀ u, ∃ t, exec (.sessionGetResult pick slot u) s = .next t ∧
      t.clk.ticks = max s.clk.ticks (r.issueTick + ticksOfNs 400) ∧
      (pickSt t pick).byte 3 (2 * (200 + slot)) = 0x80 ∧ ∀ q ∈ t.shaft.reqs, q.id ≠ r.id) ∧
    (r.denied = false → r.doneTick ≠ none → r.budgetWait = false →
      (r.addr = none → ∀ u, ∃ t, exec (.sessionGetResult pick slot u) s = .next t ∧
        (pickSt t pick).byte 3 (2 * (200 + slot)) = 1 ∧ sessSlot (pickSt t pick) slot = List.replicate 64 0) ∧
      (∀ a, r.addr = some a → (inboundTurn s r = false → ∀ u, exec (.sessionGetResult pick slot u) s = .next s) ∧
        (inboundTurn s r = true →
          (let d := if r.data = [] then rawRecord s a else r.data
           d.length = 64 → (∀ x ∈ d, x < 256) →
            (∃ t, exec (.sessionGetResult pick slot 0) s = .next t ∧
              (pickSt t pick).byte 3 (2 * (200 + slot)) = 0 ∧
              sessSlot (pickSt t pick) slot = d ∧ t.sess = s.sess ∧ t.prt = s.prt) ∧
            (∃ t, exec (.sessionGetResult pick slot 1) s = .next t ∧ sessSlot (pickSt t pick) slot = d ∧ t.sess = s.sess ∧
              rfField t (0x01C10010 + 4 * (a % 4)) 23 0 = satAdd 24 (rfField s (0x01C10010 + 4 * (a % 4)) 23 0) 1)) ∧
          (∃ t, exec (.sessionGetResult pick slot 3) s = .next t ∧ (pickSt t pick).byte 3 (2 * (200 + slot)) = 1 ∧
            sessSlot (pickSt t pick) slot = List.replicate 64 0 ∧ (dirEnt t a).valid = false)))) ∧
    (r.denied = false → r.doneTick = none → ∀ u, exec (.sessionGetResult pick slot u) s = .next s)) ∧
  (∀ (pick : PickNo) (i : Ptr) (bad : List Nat) (s : State), let p := pickSt s pick
    let b := blockAt p i 22
    let v := lookupErrors (galSeam s (pick.val / 32)) (beAt b 1 1) (slice 4 18 b) bad s
    let x := resolve v (galSeam s (pick.val / 32)) (beAt b 1 1) (slice 4 18 b)
    let d := sessSlot p (beAt b 0 1 % 2)
    p.phase = .running → issueWaits s pick .put 2 64 = false → ∃ t, exec (.sessionPut (pick, bad) i) s = .next t ∧
      pickSt t pick = { p with pc := p.pc + 1, steps := p.steps + 2 } ∧ t.prt = s.prt ∧
      (x = .denied → t.sess = s.sess ∧ t.shaft = s.shaft) ∧
      (d.all (· == 0) = true → t.sess.recs = s.sess.recs ∧ (x = .none → t.shaft = s.shaft) ∧
        ∀ g, x = .entry g → (dirEnt t g).valid = false ∧ ((dirEnt v g).valid = false → t.shaft = s.shaft) ∧
          ((dirEnt v g).valid = true → ∃ r ∈ t.shaft.reqs, r.id = s.shaft.nextReq ∧ r.kind = .put ∧ r.addr = some g ∧
            r.data = d ∧ r.beats = 2)) ∧
      (∀ g, x = .entry g → d.all (· == 0) = false → (∃ r ∈ t.shaft.reqs, r.id = s.shaft.nextReq ∧ r.kind = .put ∧
        r.addr = some g ∧ r.data = d ∧ r.beats = 2) ∧ t.sess.recs = s.sess.recs)) ∧
  (∀ (pick : PickNo) (r : ShReq) (a : Nat) (s : State),
    s.shaft.reqs.find? (putReady s pick) = some r →
    r.addr = some a → r.data.length = 64 → ∃ t, exec (.sessionPutDone pick) s = .next t ∧
      ((dirEnt s a).valid = true → recordOf t a = r.data) ∧ (∀ g, g ≠ a → recordOf t g = recordOf s g) ∧
      (∀ q ∈ t.shaft.reqs, q.id ≠ r.id) ∧ t.picks = s.picks) ∧
  (∀ (pick : PickNo) (s : State),
    s.shaft.reqs.find? (putReady s pick) = none →
    exec (.sessionPutDone pick) s = .next s) ∧
  (∀ (pick : PickNo) (i : Ptr) (nowait : Bool) (s : State), let p := pickSt s pick
    let c := cryptoCall s p (galSeam s (pick.val / 32)) (blockAt p i 32)
    p.phase = .running → issueWaits s pick .crypto 1 32 = false → ∃ t r, exec (.crypto pick i nowait) s = .next t ∧
      r ∈ t.shaft.reqs ∧ r.id = s.shaft.nextReq ∧ r.pick = pick.val ∧ r.kind = .crypto ∧ r.denied = c.isNone ∧
      (∀ o m, c = some (o, m) → r.op = o ∧ r.lanes = m ∧ r.beats = max 1 (ceilDiv o.work 32)) ∧
      pickSt t pick = { p with
        pc := p.pc + 1, steps := p.steps + 2, blocked := p.blocked || !nowait, phase := if nowait then .running else .wait } ∧
      t = { s with picks := t.picks, shaft := t.shaft, wbr := t.wbr, rf := t.rf }) ∧
  (∀ (pick : PickNo) (r : ShReq) (s : State),
    s.shaft.reqs.find? (fun r => r.pick == pick.val && r.kind == .crypto) = some r → r.stale = false →
    (r.denied = true → ∀ ok, ∃ t, exec (.cryptoResult pick ok) s = .next t ∧ (pickSt t pick).byte 3 384 = 0x80 ∧
      t.clk.ticks = max s.clk.ticks (r.issueTick + ticksOfNs 500) ∧ (pickSt t pick).resp = (pickSt s pick).resp) ∧
    (∀ c t0, r.denied = false → r.doneTick = some t0 → r.lane = some c → (laneCfg s c).fixed = true →
      fixedBefore s c r = true → ∀ ok, exec (.cryptoResult pick ok) s = .next s) ∧
    (∀ c t0, r.denied = false → r.doneTick = some t0 → r.lane = some c → (laneCfg s c).fixed = false → ∀ ok,
      (inboundTurn s r = false → exec (.cryptoResult pick ok) s = .next s) ∧
      (inboundTurn s r = true → r.back + 1 < backTransfers ok r s → ∃ t, exec (.cryptoResult pick ok) s = .next t ∧
        (∃ q ∈ t.shaft.reqs, q.id = r.id ∧ q.back = r.back + 1) ∧ t = { s with shaft := t.shaft })) ∧
    (∀ c t0, r.denied = false → r.doneTick = some t0 → r.lane = some c →
      ((laneCfg s c).fixed = true → fixedBefore s c r = false) → ((laneCfg s c).fixed = false → inboundTurn s r = true) →
      (∃ t, exec (.cryptoResult pick false) s = .next t ∧ (pickSt t pick).byte 3 384 = 1 ∧
        (pickSt t pick).resp = (pickSt s pick).resp ∧ (∀ q ∈ t.shaft.reqs, q.id ≠ r.id) ∧
        (c < 16 → rfField t (laneBase c + 8) 31 16 = satAdd 16 (rfField s (laneBase c + 8) 31 16) 1)) ∧
      (1 ≤ r.op.code → r.op.code < 0xF → ((laneCfg s c).fixed = false → backTransfers true r s ≤ r.back + 1) → ∃ t, exec (.cryptoResult pick true) s = .next t ∧
        t.clk.ticks = (if (laneCfg s c).fixed = true then max s.clk.ticks (t0 + ticksOfNs 400) else s.clk.ticks) ∧
        (match (runCrypto r.op.label r.op s).1 with
        | none => (pickSt t pick).byte 3 384 = 1 ∧ (pickSt t pick).resp = (pickSt s pick).resp
        | some out => (pickSt t pick).byte 3 384 = 0 ∧ (pickSt t pick).bytes 3 388 2 = beBytes 2 out.length ∧
          (pickSt t pick).resp = pokeBytes (pickSt s pick).resp r.op.outOff out) ∧
        (∀ q ∈ t.shaft.reqs, q.id ≠ r.id))))

/-- Once its gallery's outbound channel is free and the control gate has room, STAMP takes two steps and reserves a launch slot of its port; while SVC is 0, its seam is stopped or the epoch hold is set it is refused with status 0x80 and reserves nothing, and so does a bound beyond the seam's limit, which stops the seam. An EMIT that breaks a rule is a program error and sends nothing; a sound one hands its frame to its port and ends the item or waits for the release; one to the control gate waits as a STAMP does, and a frame of more than 512 bytes goes there by transfers of 16 beats. The release of a final frame frees the pick. DROP ends the item and sends nothing; COUNT adds 1 to its counter, saturating, and changes no pick but its own. INBOX is refused with 0x80 outside its bounds or for a gallery of another seam and answers 1 where the destination has no room or is not ACTIVE; else it lands 16 beats at a time, when the outbound channel is free and the inbox has its turn, and the frame is queued at its destination with the last of them. A pick that does not run changes nothing. When a frame counts as handed over is the model's choice (log entries 45, 46 and 51). Completes, under conditions on state and operands alone: STAMP, EMIT, EMIT_RELEASE, DROP, COUNT, INBOX, INBOX_DATA_LANDED. -/
def Obligations.StampEmitDropCountAndInbox : Prop :=
  (∀ (pick : PickNo) (i : Ptr) (s : State), (pickSt s pick).phase = .running → let p := pickSt s pick
    let b := blockAt p i 28
    let m := beAt b 1 1
    let r := stampCall pick (beAt b 0 1) (m % 16) (m / 64 % 2) (beAt b 2 2) (if bitAt m 7 then 0 else ofLodeBits (beAt b 4 12))
      (ofLodeBits (beAt b 16 12)) (issuedBlock pick i 28 s)
    (gateWaits s (pick.val / 32) = true → exec (.stamp pick i) s = .next s) ∧
    (gateWaits s (pick.val / 32) = false → ∃ t, exec (.stamp pick i) s = .next t ∧
      (pickSt t pick).byte 3 256 = (if r.1.isSome then 0 else 0x80) ∧
      (pickSt t pick).pc = p.pc + 1 ∧ (pickSt t pick).steps = p.steps + 2 ∧
      (r.1 = none → (pickSt t pick).resv = p.resv ∧ t.prt = s.prt) ∧
      (∀ st, r.1 = some st → s.lode.svc = true ∧ (seamGate s (galSeam s (pick.val / 32))).stopped = false ∧
        st.code ≤ (seamRec s (galSeam s (pick.val / 32))).limit ∧ st.epoch = s.tally.epoch ∧
        t.prt.nextResv = s.prt.nextResv + 1 ∧
        sget none (pickSt t pick).resv (m / 64 % 2) = some
          { id := s.prt.nextResv, port := beAt b 0 1, n := beAt b 2 2, launch := st.launch, epoch := s.tally.epoch }) ∧
      (s.lode.svc = false ∨ (seamGate s (galSeam s (pick.val / 32))).stopped = true ∨ s.tally.hold = true → r.1 = none) ∧
      (∀ l, m % 16 ≤ 1 → beAt b 0 1 < 64 → (homeOf s (beAt b 0 1) (galSeam s (pick.val / 32))).isSome = true →
        sget none p.resv (m / 64 % 2) = none → s.lode.svc = true → (seamGate s (galSeam s (pick.val / 32))).stopped = false →
        s.tally.hold = false →
        grantSlot s (beAt b 0 1) (beAt b 2 2) (if bitAt m 7 then 0 else ofLodeBits (beAt b 4 12)) (nowFu s) = some l →
        (seamRec s (galSeam s (pick.val / 32))).limit < boundCode s l (termDpt s (beAt b 0 1)) (carrierAllowance (m % 16 == 1)) →
        r.1 = none ∧ (seamGate t (galSeam s (pick.val / 32))).stopped = true) ∧
      (∀ q, q ≠ pick.val → pickSt t q = pickSt s q) ∧ t.lode = s.lode ∧ t.shaft = s.shaft)) ∧
  (∀ (pick : PickNo) (i : Ptr) (s : State), (pickSt s pick).phase = .running → let p := pickSt s pick
    let e := emitOf p (blockAt p i 16)
    (emitOk s pick e = false → ∃ t, exec (.emit pick i) s = .next t ∧ t.prt = s.prt ∧ t.gals = s.gals ∧
      (if e.final = true then (pickSt t pick).item = none
        else (pickSt t pick).item = p.item ∧ (pickSt t pick).pc = p.pc + 1 ∧ (pickSt t pick).steps = p.steps + 2)) ∧
    (emitOk s pick e = true → e.port ≠ 0x80 → ∃ t x, exec (.emit pick i) s = .next t ∧
      (portSt t e.port).tx = (portSt s e.port).tx ++ [x] ∧ x.bytes = e.bytes ∧ x.pick = pick.val ∧ x.final = e.final ∧
      x.ip4 = e.ip4 ∧ x.udp = e.udp ∧ x.seq = s.prt.nextTx ∧ t.prt.nextTx = s.prt.nextTx + 1 ∧
      (∀ p, p ≠ e.port → portSt t p = portSt s p) ∧
      (if e.final = true then (pickSt t pick).item = none ∧ (pickSt t pick).releasing = true
        else (pickSt t pick).item = p.item ∧ (pickSt t pick).phase = .wait)) ∧
    (emitOk s pick e = true → e.port = 0x80 → gateWaits s (pick.val / 32) = true → exec (.emit pick i) s = .next s) ∧
    (emitOk s pick e = true → e.port = 0x80 → gateWaits s (pick.val / 32) = false →
      ∃ t, exec (.emit pick i) s = .next t ∧ t.prt = s.prt ∧
        (e.n ≤ 512 → (galSt t (pick.val / 32)).ctrlIn = (galSt s (pick.val / 32)).ctrlIn ++ [e.bytes]) ∧
        (512 < e.n → (galSt t (pick.val / 32)).ctrlIn = (galSt s (pick.val / 32)).ctrlIn ∧
          ∃ r ∈ t.shaft.reqs, r.id = s.shaft.nextReq ∧ r.kind = .emit ∧ r.data = e.bytes ∧ r.sent = 16 ∧
            r.beats = ceilDiv e.n 32))) ∧
  (∀ (pick : PickNo) (p : Nat) (x : TxFrame) (s : State),
    (List.range 64).find? (fun p => (portSt s p).tx.any fun x => x.pick == pick.val && !x.released && !txMoving x) = some p →
    (portSt s p).tx.find? (fun x => x.pick == pick.val && !x.released && !txMoving x) = some x →
    ∃ t, exec (.emitRelease pick) s = .next t ∧
      (x.final = true → (pickSt t pick).releasing = false ∧ (pickSt t pick).leaving = none) ∧
      (x.final = false → (pickSt s pick).phase = .wait → (pickSt t pick).phase = .running) ∧
      (∀ y ∈ (portSt t p).tx, y.seq = x.seq → y.released = true) ∧ t = { s with picks := t.picks, prt := t.prt }) ∧
  (∀ (pick : PickNo) (s : State),
    (List.range 64).find? (fun p => (portSt s p).tx.any fun x => x.pick == pick.val && !x.released && !txMoving x) = none →
    let find := s.shaft.reqs.find? (fun r => r.pick == pick.val && r.kind == .emit)
    (find = none → exec (.emitRelease pick) s = .next s) ∧
    (∀ r, find = some r → (chanOf s r.gal ≠ 0 → exec (.emitRelease pick) s = .next s) ∧
      (chanOf s r.gal = 0 → r.sent + 16 < r.beats → ∃ t, exec (.emitRelease pick) s = .next t ∧
        (∃ q ∈ t.shaft.reqs, q.id = r.id ∧ q.sent = r.sent + 16) ∧ t = { s with shaft := t.shaft }) ∧
      (chanOf s r.gal = 0 → r.beats ≤ r.sent + 16 → ctrlFull s r.gal = true → exec (.emitRelease pick) s = .next s) ∧
      (chanOf s r.gal = 0 → r.beats ≤ r.sent + 16 → ctrlFull s r.gal = false → ∃ t, exec (.emitRelease pick) s = .next t ∧
        (galSt t r.gal).ctrlIn = (galSt s r.gal).ctrlIn ++ [r.data] ∧ (∀ q ∈ t.shaft.reqs, q.id ≠ r.id) ∧
        (r.slot = 1 → (pickSt t pick).releasing = false ∧ (pickSt t pick).leaving = none) ∧
        (r.slot ≠ 1 → (pickSt s pick).phase = .wait → (pickSt t pick).phase = .running) ∧ t.prt = s.prt))) ∧
  (∀ (pick : PickNo) (k : Fin 64) (s : State), (pickSt s pick).phase = .running → let p := pickSt s pick
    (∃ t, exec (.drop pick) s = .next t ∧ (pickSt t pick).item = none ∧ (pickSt t pick).phase = .idle ∧
      (pickSt t pick).retired = p.retired + p.steps + 2 ∧ t.prt = s.prt ∧ t.gals = s.gals) ∧
    (∃ t, exec (.count pick k) s = .next t ∧ pickSt t pick = { p with pc := p.pc + 1, steps := p.steps + 2 } ∧
      (∀ j, sget 0 (galSt t (pick.val / 32)).pcnt j = (if j = k.val
        then satAdd 32 (sget 0 (galSt s (pick.val / 32)).pcnt j) 1 else sget 0 (galSt s (pick.val / 32)).pcnt j)) ∧
      (∀ q, q ≠ pick.val → pickSt t q = pickSt s q) ∧ t = { s with picks := t.picks, gals := t.gals, rf := t.rf })) ∧
  (∀ (pick : PickNo) (i : Ptr) (s : State), (pickSt s pick).phase = .running → issueWaits s pick .inbox 1 32 = false →
    let b := blockAt (pickSt s pick) i 8
    let d := beAt b 0 1
    let n := beAt b 2 2
    let off := beAt b 4 2
    let bad := 16 ≤ d ∨ n = 0 ∨ 2048 < n ∨ 2048 < off + n ∨ ((galCfg s d).used = true ∧ galSeam s d ≠ galSeam s (pick.val / 32))
    ∃ t, exec (.inbox pick i) s = .next t ∧ (pickSt t pick).pc = (pickSt s pick).pc + 1 ∧
      (bad → (pickSt t pick).byte 3 404 = 0x80 ∧ t.shaft = s.shaft) ∧
      (¬ bad → (galSt s d).phase ≠ .active ∨ inboxRoom s d = 0 ∨ findCells s d (ceilDiv n 128) = none →
        (pickSt t pick).byte 3 404 = 1 ∧ t.shaft = s.shaft) ∧
      (¬ bad → (galSt s d).phase = .active → inboxRoom s d ≠ 0 → ∀ c, findCells s d (ceilDiv n 128) = some c →
        (pickSt t pick).phase = .wait ∧ ∃ r ∈ t.shaft.reqs, r.id = s.shaft.nextReq ∧ r.kind = .inbox ∧ r.dest = d ∧
          r.cell = c ∧ r.data = (pickSt s pick).bytes 2 (2 * off) n)) ∧
  (∀ (pick : PickNo) (r : ShReq) (s : State), s.shaft.reqs.find? (fun r => r.pick == pick.val && r.kind == .inbox) = some r →
    (chanOf s r.gal ≠ 0 ∨ inboxTurn s r = false ∨ inboundTurn s r = false → exec (.inboxDataLanded pick) s = .next s) ∧
    (chanOf s r.gal = 0 → inboxTurn s r = true → inboundTurn s r = true → r.sent + 16 < r.beats → ∃ t, exec (.inboxDataLanded pick) s = .next t ∧
      (∃ q ∈ t.shaft.reqs, q.id = r.id ∧ q.sent = r.sent + 16 ∧ q.granted = true) ∧
      t = { s with shaft := t.shaft }) ∧
    (chanOf s r.gal = 0 → inboxTurn s r = true → inboundTurn s r = true → r.beats ≤ r.sent + 16 → r.stale = false →
      galRuns s r.dest = true → ∃ t x, exec (.inboxDataLanded pick) s = .next t ∧
      (galSt t r.dest).qInbox = (galSt s r.dest).qInbox ++ [x] ∧ x.cls = 0xD ∧ x.frame = r.data ∧ x.cell = r.cell ∧
      (pickSt t pick).byte 3 404 = 0 ∧ ∀ q ∈ t.shaft.reqs, q.id ≠ r.id)) ∧
  (∀ (pick : PickNo) (i : Ptr) (k : Fin 64) (nowait : Bool) (bad : List Nat) (s : State), (pickSt s pick).phase ≠ .running →
    ∀ c ∈ [Instr.sessionGet (pick, bad) i nowait, .sessionPut (pick, bad) i, .crypto pick i nowait, .stamp pick i, .emit pick i,
      .drop pick, .count pick k, .inbox pick i], exec c s = .next s)

/-- A draw among galleries names one of them; without a backstop it names one that holds tokens, if any does. A free target with one request eligible goes to that request, and with none stays free. The beat in flight belongs to a revoked transfer (how draws share a cycle, and the queue's order of waiting accesses, are the model's choices: log entries 44 and 45). The quota guard leaves a protected holder, a holder within its quota and a transfer on its last beat, and gives the target of one over its quota, or a lane bound to its operation, to the request that waits. A commit puts the class of every pick and the tokens of every gallery in force; a write without COMMIT does nothing. A patrol scrub comes 24 h after the last one of its channel and loses the records that it could not correct; a refresh changes nothing; a session access goes on once its seam's bucket holds an access and the session gate has room for the request. A lane under test leaves eligibility, a bound operation first, on a fixed-slot lane every operation that has begun; a failure fences it, the third in 24 h until reset, and refuses the queued operations that no lane is left for; two passes bring it back. Completes, under conditions on state and operands alone: LOTTERY_DRAW, QUOTA_REVOKE, SHAFT_COMMIT, PATROL_SCRUB, DDR_REFRESH, DDR_ACCESS_RELEASE, LANE_SELFTEST, LANE_SELFTEST_DONE. -/
def Obligations.ShaftDrawsRevocationsAndCommits : Prop :=
  (∀ (k : Nat) (e : List Nat) (s : State), e ≠ [] → (drawWinner k e s).1 ∈ e) ∧
  (∀ (k : Nat) (e : List Nat) (s : State), (drawWinner k e s).2.1 = false → (∃ g ∈ e, 0 < tokensOf s g k) →
    0 < tokensOf s (drawWinner k e s).1 k) ∧
  (∀ (k g : Nat) (e : List Nat) (s : State), (drawWinner k e s).2.1 = true → (drawWinner k e s).1 = g →
    64 ≤ sget 0 (groupSt s k).loss g ∧ (drawWinner k e s).2.2 = s) ∧
  (∀ (x : Fin 21) (progress : Progress) (s : State), holderOf s x = none → (16 ≤ x.val ∨ (laneSt s x).bound = 0) →
    (eligible s x none progress (fun _ => true) = [] → exec (.lotteryDraw x progress) s = .next s) ∧
    (∀ r, eligible s x none progress (fun _ => true) = [r] → r.gal < 16 → r.cls < 4 → ∃ t h, exec (.lotteryDraw x progress) s = .next t ∧
      holderOf t x = some h ∧ h.req = r.id ∧ h.gal = r.gal ∧ h.seam = r.seam ∧ h.beats = transferBeats x r ∧
      chanOf t r.gal = x.val + 1 ∧ t.picks = s.picks ∧ t.lode = s.lode ∧ t.prt = s.prt)) ∧
  (∀ (x : Fin 21) (progress : Nat × Progress) (s : State),
    (guarded s x = none → exec (.quotaRevoke x progress) s = .next s) ∧
    (∀ h, guarded s x = some h →
      (h.isProtected = true ∨ overQuota s h.seam (groupOf x) = false ∨
          (holderOf s x = some h ∧ h.beats ≤ progress.1 + 1) → exec (.quotaRevoke x progress) s = .next s) ∧
      (∀ r, h.isProtected = false → overQuota s h.seam (groupOf x) = true →
        (holderOf s x = some h → progress.1 + 1 < h.beats) → r.gal < 16 → r.cls < 4 →
        (eligible s x (some h.req) progress.2 (fun seam => !overQuota s seam (groupOf x))).filter
          (fun q => q.id != h.req) = [r] →
        ∃ t g, exec (.quotaRevoke x progress) s = .next t ∧ holderOf t x = some g ∧ g.req = r.id ∧ g.gal = r.gal))) ∧
  (∀ (v : Nat) (s : State), (bitAt v 0 = false → exec (.shaftCommit v) s = .next s) ∧
    (bitAt v 0 = true → ∃ t, exec (.shaftCommit v) s = .next t ∧
      (∀ p : PickNo, pickClass t p = rfGet s (shaftGal (p.val / 32) + 4 * (p.val % 32 / 16)) / 4 ^ (p.val % 16) % 4) ∧
      (∀ g : GalNo, tokenWord t g = rfGet s (shaftGal g + 8)) ∧ t.shaft.holders = s.shaft.holders ∧
      t.shaft.reqs = s.shaft.reqs ∧ OnlyReports { s with shaft := t.shaft } t)) ∧
  (∀ (m : ChanNo) (corr dirCorr : Nat) (bad dirBad : List Nat) (s : State),
    ∃ t, exec (.patrolScrub m corr bad dirCorr dirBad) s = .next t ∧
      (∀ g ∈ bad, g % 4 = m.val → (dirEnt t g).valid = false) ∧ (∀ g ∈ dirBad, dirEnt t g = {}) ∧
      (∀ g, g ∉ bad → g ∉ dirBad → dirEnt t g = dirEnt s g ∧ recordOf t g = recordOf s g) ∧
      t.clk.ticks = max s.clk.ticks (sget 0 s.sess.scrubTick m + 86400 * ticksPerSec) ∧
      sget 0 t.sess.scrubTick m = t.clk.ticks ∧ t.lode = s.lode ∧ t.picks = s.picks ∧ t.prt = s.prt ∧ t.cfg = s.cfg) ∧
  (∀ (m : ChanNo) (s : State), exec (.ddrRefresh m) s = .next s) ∧
  (∀ (m : ChanNo) (seam : SeamNo) (s : State),
    let find := (waiters s seam m).head?
    (find = none → exec (.ddrAccessRelease m seam) s = .next s) ∧
    (∀ r, find = some r → 0 < (seamRec s seam).beta →
      (sget (0, 0) s.sess.bucket (16 * m.val + seam.val)).2 ≤ nsOfTicks s.clk.ticks →
      (sget (0, 0) s.sess.gate m.val).2 ≤ nsOfTicks s.clk.ticks → r.need ≤ 128 →
      ∃ t, exec (.ddrAccessRelease m seam) s = .next t ∧ s.clk.ticks ≤ t.clk.ticks ∧
        (∃ n, n ≤ r.need - 1 ∧ t.shaft.reqs = s.shaft.reqs.map
          (fun x => if x.id = r.id then { x with budgetWait := decide (0 < n), need := n } else x)) ∧
        t.lode = s.lode ∧ t.picks = s.picks)) ∧
  (∀ (c : LaneNo) (s : State), ∃ t, exec (.laneSelftest c) s = .next t ∧
    ((laneSt s c).stuck = true → OnlyTime s t) ∧
    ((laneSt s c).stuck = false → laneReady t c = false ∧ (∀ d, d ≠ c.val → laneSt t d = laneSt s d)) ∧
    ((laneSt s c).stuck = false → (laneCfg s c).fixed = true → fixedEnd t c ≤ t.clk.ticks) ∧
    ((laneSt s c).stuck = false → (laneCfg s c).fixed = false → laneSt t c = (if (laneSt s c).bound = 0 then { laneSt s c with testing := true }
        else { laneSt s c with testDue := true }) ∧
      t.shaft = s.shaft)) ∧
  (∀ (c : LaneNo) (s : State), let l := laneSt s c
    (l.testing = false → ∀ ok, exec (.laneSelftestDone c ok) s = .next s) ∧
    (l.testing = true → (∃ t, exec (.laneSelftestDone c true) s = .next t ∧ (laneSt t c).testing = false ∧
        (laneSt t c).fenced = (l.fenced && (l.passes == 0 || l.stuck)) ∧
        (laneSt t c).testEnd = s.clk.ticks ∧ OnlyReports { s with cry := t.cry } t) ∧
      (∃ t, exec (.laneSelftestDone c false) s = .next t ∧ (laneSt t c).testing = false ∧ (laneSt t c).fenced = true ∧
        ((laneSt t c).stuck = true ↔ l.stuck = true ∨
          2 ≤ (l.fails.filter fun x => decide (s.clk.ticks < x + 86400 * ticksPerSec)).length) ∧
        (∀ r, r ∈ t.shaft.reqs ↔ ∃ q ∈ s.shaft.reqs, r = (if q.kind = .crypto ∧ q.lane = none ∧
          (liveLanes t q.lanes).isEmpty = true then { q with denied := true } else q)) ∧
        OnlyReports { s with cry := t.cry, shaft := { s.shaft with reqs := t.shaft.reqs } } t)))

/-- A link that may send gets a body for the first slot at least 500 us ahead, of the type that R316 gives; without a free slot nothing happens, and without a key or the right to send the next frame is to be a keyframe. Which slot instants a link still meets is the model's choice (log entry 53). At its deadline a body whose frame has not come back is given up. At a slot instant every body that is due leaves or is given up, and the largest slot sent of a type never falls. DELAY_REQ leaves on every receive link that may send at the slot instant plus 500 us; KEY_REQ only for a held delta, on a haulage link. A KEY_REPEAT answers a request for a stored keyframe within its limits, under the next repeat number; otherwise the request is forgotten. A link that comes up starts with a keyframe; one that goes down forgets what it accepted last. Completes, under conditions on state and operands alone: HAUL_BODY_ISSUE, HAUL_BODY_DEADLINE, HAUL_FRAME_LAUNCH, HAUL_DELAY_REQ_SEND, KEY_REQ_SEND, KEY_REPEAT_SEND, HAUL_LINK_DOWN, HAUL_LINK_UP. -/
def Obligations.HaulageBodiesLaunchesAndRequests : Prop :=
  (∀ (link : LinkNo) (s : State), let k := link.val
    let slot := slotOf (nowFu s + fuMs / 2 + fuMs - 1)
    let type := nextType s k slot
    let may := hTx s k && linkSends s k && slotFree s k type slot && (sendKey s k).isSome
    nowFu s + fuMs / 2 ≤ slot * fuMs ∧ slot * fuMs < nowFu s + fuMs / 2 + fuMs ∧
    (hTx s k = false ∨ (linkSends s k = true ∧ (sendKey s k).isSome = true ∧ slotFree s k type slot = false) →
      exec (.haulBodyIssue link) s = .next s) ∧
    (hTx s k = true → linkSends s k = false ∨ sendKey s k = none →
      exec (.haulBodyIssue link) s = .next (hlinkMod k (fun l => { l with firstKey := true }) s)) ∧
    (may = true → ∃ t, exec (.haulBodyIssue link) s = .next t ∧
      (∀ key, sendKey s k = some key →
        (hlink t k).body = some { slot := slot, type := type, key := key.1, echo := (hlink s k).echo, frame := none }) ∧
      (∀ j, j ≠ k → hlink t j = hlink s j) ∧ OnlyReports { s with haul := t.haul, gals := t.gals } t)) ∧
  (∀ (link : LinkNo) (s : State), ((hlink s link).body = none → exec (.haulBodyDeadline link) s = .next s) ∧
    (∀ b, (hlink s link).body = some b → ∃ t, exec (.haulBodyDeadline link) s = .next t ∧
      (∀ c, (hlink t link).body = some c → c.frame ≠ none) ∧
      t.clk.ticks = max s.clk.ticks (tickOfLode (b.slot * fuMs - fuOfNs 50000) s) ∧ t.lode = s.lode)) ∧
  (∀ s : State, ∃ t, exec .haulFrameLaunch s = .next t ∧
    t.clk.ticks = max s.clk.ticks (tickOfLode ((slotOf (nowFu s) + 1) * fuMs) s) ∧
    (∀ k b, k < 18 → (hlink t k).body = some b → nowFu t < b.slot * fuMs) ∧
    (∀ k type, sget 0 (hlink s k).sentMax type ≤ sget 0 (hlink t k).sentMax type) ∧
    (unitsSend s = false → ∀ k, (hlink t k).sentMax = (hlink s k).sentMax ∧ (hlink t k).line = (hlink s k).line) ∧
    t.lode = s.lode ∧ t.tally = s.tally) ∧
  (∀ s : State, let slot := slotAhead s (fuMs / 2)
    ∃ t, exec .haulDelayReqSend s = .next t ∧
      t.clk.ticks = max s.clk.ticks (tickOfLode (slot * fuMs + fuMs / 2) s) ∧
      (∀ k, k < 16 → hRx s k = true → unitsSend s = true → slotFree s k 4 slot = true → (sendKey s k).isSome = true →
        sget 0 (hlink t k).sentMax 4 = slot + 1 ∧
        (hlink t k).reqs = ((slot % 2 ^ 32, slotAfter s (64 + k) (slot * fuMs + fuMs / 2)) :: (hlink s k).reqs).take 32 ∧
        (hlink t k).line.length = 62) ∧
      (∀ k, 16 ≤ k ∨ hRx s k = false ∨ unitsSend s = false ∨ slotFree s k 4 slot = false ∨ (sendKey s k).isNone = true →
        hlink t k = hlink s k)) ∧
  (∀ (link : LinkNo) (s : State), ((hlink s link).held = [] → exec (.keyReqSend link) s = .next s) ∧
    ((hlink s link).held ≠ [] → ∃ t, exec (.keyReqSend link) s = .next t ∧
      (16 ≤ link.val ∨ hRx s link = false ∨ unitsSend s = false ∨ (sendKey s link).isNone = true → OnlyTime s t) ∧
      (∀ h rest, link.val < 16 → hRx s link = true → unitsSend s = true → (hlink s link).up = true →
        (sendKey s link).isSome = true → sget 0 (hlink s link).sentMax 5 = 0 → (hlink s link).held = h :: rest →
        (hlink t link).keyReqTick = some t.clk.ticks ∧ beAt (hlink t link).line 34 4 = h.keySeq % 2 ^ 32 ∧
        beAt (hlink t link).line 14 1 = 0x15))) ∧
  (∀ (link : LinkNo) (s : State), let k := link.val
    let l := hlink s k
    (l.want = none → exec (.keyRepeatSend link) s = .next s) ∧
    (∀ q w, l.want = some (q, w) →
      (∃ t, exec (.keyRepeatSend link) s = .next t ∧ (hlink t k).want = none ∧ t.clk = s.clk) ∧
      (l.sent.find? (fun e => e.seq == q) = none →
        exec (.keyRepeatSend link) s = .next (hlinkMod k (fun x => { x with want := none }) s)) ∧
      (∀ e key, l.sent.find? (fun e => e.seq == q) = some e →
        (haulKeys s).find? (fun x => x.1 == e.key) = some key →
        (let ok := e.reps < 15 ∧ (l.repTicks.filter fun x => decide (s.clk.ticks < x + ticksPerSec)).length < 100 ∧
            hTx s k = true ∧ linkSends s k = true ∧ l.up = true ∧ l.repBar < slotOf e.t1 + 1
         (ok → ∃ t, exec (.keyRepeatSend link) s = .next t ∧ (hlink t k).line = keyRepeat s k (e.reps + 1) e key.2 ∧
          (hlink t k).sent = l.sent.map (fun y => if y.seq = q then { y with reps := y.reps + 1 } else y) ∧
          OnlyReports { s with haul := t.haul } t) ∧
         (¬ ok → exec (.keyRepeatSend link) s = .next (hlinkMod k (fun x => { x with want := none }) s)))))) ∧
  (∀ (link : LinkNo) (s : State),
    (∃ t, exec (.haulLinkDown link) s = .next t ∧ (hlink t link).up = false ∧ (hlink t link).lastSeq = [] ∧
      (hlink t link).body = none ∧ (∀ j, j ≠ link.val → hlink t j = hlink s j) ∧ t = { s with haul := t.haul }) ∧
    (s.surv.structureApplied = true → hTx s link = true ∨ hRx s link = true →
      ∃ t, exec (.haulLinkUp link) s = .next t ∧ hlink t link = { hlink s link with up := true, firstKey := true } ∧
        (∀ j, j ≠ link.val → hlink t j = hlink s j) ∧ t = { s with haul := t.haul }) ∧
    (s.surv.structureApplied = false ∨ (hTx s link = false ∧ hRx s link = false) →
      exec (.haulLinkUp link) s = .next s))

/-- A link that is down, or without the LO, takes nothing; while COARSE is 1 a t2 is invalid and gives no echo. A frame of no valid type, or whose tag does not verify, counts under AUTH and does nothing else. A sound DELAY_REQ is kept for the echo and a sound KEY_REQ for the answer; one that is not newer than the last is stale. A KEY frame, and a KEY_REPEAT that a held delta waits for, is kept among the keyframes of the last two sequences and no delta stays held for it; a delta without its keyframe is held, at most eight; a KEY_REPEAT that no delta waits for is stale. haul waits while the control gate has no room or its gallery's outbound channel is taken, ends an item that fails its checks as malformed and releases the copy of one that passes. A released copy leaves its link; one of a split feed waits for w_s. JOIN ends in CLAIM only when no peer claimed; a lost peer makes the twin the lead, but never while PEER_CANARY runs. Which frames are stale, and what a duplicate brings, are the model's reading (log entries 54 and 56). Completes, under conditions on state and operands alone: HAUL_KEY_RX, HAUL_DELTA_RX, HAUL_KEY_REPEAT_RX, HAUL_DELAY_REQ_RX, HAUL_KEY_REQ_RX, TWIN_FRAME_RX, HAUL_BODY, HAUL_RELEASE, HAUL_COPY_RELEASE, SPLIT_WAIT_EXPIRY, JOIN_WINDOW_EXPIRY, FOLLOW_QUALIFY, PEER_LOST, PEER_CANARY_EDGE, PEER_CANARY_STOP. -/
def Obligations.HaulageFramesReceivedAndTheTwin : Prop :=
  (∀ (k : LinkNo) (f : List Nat) (tag : WordTag) (s : State),
    let t2 := ballTime s (64 + k.val) 1 (if (linkCfg s k).fec = true then 2 else 0) tag - (linkCfg s k).cIn
    let tick := tickBefore s t2
    let bad := flagAt s.lode.coarse s.lode.coarseTick tick
    let q := beAt f 26 4
    let last := fun (type : Nat) => sget 0 (hlink s k).lastSeq (rxKind type)
    let on := fun (type : Nat) => (hlink s k).up && s.lode.loOk && (if type = 4 ∨ type = 5 then hTx s k else hRx s k)
    let turned := fun (type : Nat) (o : Res) =>
      (on type = false → o = .next s) ∧
      (on type = true → rxType k f = 0 ∨ (rxType k f = type ∧ rxAuth s type t2 f = false) → ∃ t, o = .next t ∧
        OnlyReports s t ∧ rfField t (haulBase k + 0x28) 15 0 = satAdd 16 (rfField s (haulBase k + 0x28) 15 0) 1) ∧
      (on type = true → rxType k f ≠ 0 → rxType k f ≠ type → o = .next s)
    let taken := fun (type : Nat) => on type = true ∧ rxType k f = type ∧ rxAuth s type t2 f = true ∧ rxTimeBad type f = false ∧
      s.lode.seeded = true ∧ beAt f 18 4 = s.cfg.haul.streamId ∧ beAt f 22 4 ≠ s.cfg.haul.senderId
    let new := fun (type : Nat) (t : State) =>
      (hlink t k).peerKey = some (beAt f 32 1) ∧
      (last type ≠ 0 → seqAfter q (last type - 1) = false → hlink t k = { hlink s k with peerKey := some (beAt f 32 1) }) ∧
      (last type = 0 ∨ seqAfter q (last type - 1) = true →
        sget 0 (hlink t k).lastSeq (rxKind type) = q + 1 ∧ (hlink t k).lastAccepted = q)
    let isNew := fun (type : Nat) => last type = 0 ∨ seqAfter q (last type - 1) = true
    turned 1 (exec (.haulKeyRx k f tag) s) ∧
    turned 2 (exec (.haulDeltaRx k f tag) s) ∧
    turned 3 (exec (.haulKeyRepeatRx k f tag) s) ∧
    turned 4 (exec (.haulDelayReqRx k f tag) s) ∧
    turned 5 (exec (.haulKeyReqRx k f tag) s) ∧
    turned 8 (exec (.twinFrameRx k f tag) s) ∧
    (taken 1 → ∃ t, exec (.haulKeyRx k f tag) s = .next t ∧ new 1 t ∧
      (isNew 1 → (hlink t k).keys = lastKeys { seq := q, t1 := ofLodeBits (beAt f 34 12), origin := beAt f 62 4 } (hlink s k).keys ∧
        ∀ d ∈ (hlink t k).held, d.keySeq ≠ q)) ∧
    (taken 2 → ∃ t, exec (.haulDeltaRx k f tag) s = .next t ∧ new 2 t ∧
      (isNew 2 → (hlink s k).keys.find? (fun x => x.seq == beAt f 34 4) = none → (hlink s k).held.length ≤ 8 →
        (hlink t k).held.length = min 8 ((hlink s k).held.length + 1))) ∧
    (taken 3 → ∃ t, exec (.haulKeyRepeatRx k f tag) s = .next t ∧ (hlink t k).peerKey = some (beAt f 32 1) ∧
      ((hlink s k).held.any (fun h => h.keySeq == q) = false →
        hlink t k = { hlink s k with peerKey := some (beAt f 32 1) }) ∧
      ((hlink s k).held.any (fun h => h.keySeq == q) = true →
        (hlink t k).keys = lastKeys { seq := q, t1 := ofLodeBits (beAt f 34 12), origin := beAt f 62 4 } (hlink s k).keys ∧
        ∀ d ∈ (hlink t k).held, d.keySeq ≠ q)) ∧
    (taken 4 → ∃ t, exec (.haulDelayReqRx k f tag) s = .next t ∧ new 4 t ∧
      (isNew 4 → (hlink t k).echo = (if bad then (hlink s k).echo else some (q, t2)))) ∧
    (taken 5 → ∃ t, exec (.haulKeyReqRx k f tag) s = .next t ∧ new 5 t ∧
      (isNew 5 → (hlink t k).want = some (beAt f 34 4, s.clk.ticks))) ∧
    (taken 8 → ∃ t, exec (.twinFrameRx k f tag) s = .next t ∧ new 8 t ∧
      (isNew 8 → (s.haul.twin.state = .none → t.haul.twin = s.haul.twin) ∧
        (s.haul.twin.state ≠ .none → t.haul.twin.lastSeq = some q ∧ t.haul.twin.peerLead = bitAt (beAt f 90 1) 1)))) ∧
  (∀ (pick : PickNo) (s : State), (haulItem s pick = none →
      exec (.haulBody pick) s = .next s ∧ exec (.haulRelease pick) s = .next s) ∧
    (∀ i, haulItem s pick = some i → gateWaits s (pick.val / 32) = true → beAt i.hdr 0 12 = 0 →
      exec (.haulBody pick) s = .next s) ∧
    (∀ i, haulItem s pick = some i → gateWaits s (pick.val / 32) = false →
      (beAt i.hdr 0 12 ≠ 0 → exec (.haulBody pick) s = .next s) ∧
      (beAt i.hdr 0 12 = 0 → exec (.haulRelease pick) s = .next s ∧
        ∃ t, exec (.haulBody pick) s = .next t ∧ (pickSt t pick).item = none) ∧
      (let type := beAt i.frame 14 1 % 16
       let good := beAt i.frame 14 1 / 16 = 1 ∧ haulLen type ≠ 0 ∧ beAt i.frame 16 2 = haulLen type ∧
        i.frame.length = 14 + haulLen type ∧ beAt i.frame 18 4 = s.cfg.haul.streamId
       (beAt i.hdr 0 12 ≠ 0 → ∃ t, exec (.haulRelease pick) s = .next t ∧ (pickSt t pick).item = none ∧
        (¬ good → t.haul = s.haul ∧ sget 0 (galSt t (pick.val / 32)).pcnt 16 = satAdd 32 (sget 0 (galSt s (pick.val / 32)).pcnt 16) 1) ∧
        (good → beAt i.hdr 14 1 < 18 → emitOk s pick
            { n := 8, port := 0x80, final := true, timed := false, bytes := [beAt i.hdr 14 1, type, 0, 0] ++ slice 26 4 i.frame } = true →
          ∀ c ∈ (hlink t (beAt i.hdr 14 1)).copies, c.type = type → c.seq = beAt i.frame 26 4 → c.released = true))))) ∧
  (∀ (k : LinkNo) (s : State), let u := ctrlDrain s
    ((hlink u k).copies.find? (·.released) = none → exec (.haulCopyRelease k) s = .next u) ∧
    (∀ c, (hlink u k).copies.find? (·.released) = some c → ∃ t, exec (.haulCopyRelease k) s = .next t ∧
      (hlink t k).copies = (hlink u k).copies.filter (fun y => !(y.type == c.type && y.seq == c.seq)) ∧
      (c.type = 3 → t.assay = s.assay ∧ ∀ n, (feedSt t n).applied = (feedSt s n).applied ∧ (feedSt t n).wait = (feedSt s n).wait) ∧
      (c.type = 8 → c.lead = false → t.assay = s.assay ∧ t.haul.feeds = s.haul.feeds) ∧
      (c.type = 1 → (hlink u k).accepted = 16 → u.clk.ticks ≤ c.tick + feedValid u (feedOf u k) → (feedSt u (feedOf u k)).split = true →
        (feedSt u (feedOf u k)).applied.find? (fun a => a.copy.seq == c.seq) = none →
        (∃ w ∈ (feedSt t (feedOf u k)).wait, w.1 = c.seq) ∧ t.assay = s.assay))) ∧
  (∀ (feed : RefId) (s : State), ((feedSt s feed).wait = [] → exec (.splitWaitExpiry feed) s = .next s) ∧
    (∀ w rest, (feedSt s feed).wait = w :: rest → ∃ t, exec (.splitWaitExpiry feed) s = .next t ∧
      (feedSt t feed).wait = rest ∧ t.clk.ticks = max s.clk.ticks (w.2.1 + ticksOfNs (s.cfg.haul.waitUs * 1000)))) ∧
  (∀ s : State, (s.haul.twin.state ≠ .join → exec .joinWindowExpiry s = .next s) ∧
    (s.haul.twin.state = .join → ∃ t, exec .joinWindowExpiry s = .next t ∧
      t.haul.twin.state = (if s.haul.twin.claimSeen then .join else .claim) ∧ t.haul.twin.claimSeen = false)) ∧
  (∀ s : State, (s.haul.twin.okSince = none → exec .followQualify s = .next s) ∧
    (s.haul.twin.okSince ≠ none → ∃ t, exec .followQualify s = .next t ∧
      (s.haul.twin.state = .lead ∨ s.haul.twin.state = .claim ∨ s.haul.twin.state = .none → OnlyTime s t) ∧
      (t.haul.twin.state = .follow → followOk t = true ∨ peerLost t = true ∨ s.haul.twin.state = .follow))) ∧
  (∀ s : State, (s.haul.twin.state = .none ∨ s.haul.twin.state = .lead → exec .peerLost s = .next s) ∧
    (s.haul.twin.state ≠ .none → s.haul.twin.state ≠ .lead → ∃ t, exec .peerLost s = .next t ∧
      (s.haul.twin.canary = true → OnlyTime s t) ∧
      (s.haul.twin.canary = false → s.haul.twin.peerSlot = none → t.haul.twin.state = .lead)) ∧
    (∃ t, exec .peerCanaryEdge s = .next t ∧ t.haul.twin = { s.haul.twin with canary := true, canaryTick := s.clk.ticks } ∧
      t = { s with haul := t.haul }) ∧
    (s.haul.twin.canary = false → exec .peerCanaryStop s = .next s) ∧
    (s.haul.twin.canary = true → ∃ t, exec .peerCanaryStop s = .next t ∧ t.haul.twin = { s.haul.twin with canary := false } ∧
      t.clk.ticks = max s.clk.ticks (s.haul.twin.canaryTick + ticksPerMs + 1)))

/-- While the SPI port does not answer, no transaction changes anything. A READ or SNAP_READ of 1 to 64 aligned words carries the words and their CRC on MISO and is counted; a form that R376 does not admit leaves only its answer open. A WRITE whose CRC or count does not fit its words changes no mailbox; one with a right CRC writes the SPI set's arguments and discards a word elsewhere. An unknown opcode counts. A VF's read clears nothing and a PF's read clears exactly the RC bits; an unlisted address reads 0. A write where the master may not write is discarded; an enable register takes its bits, an argument word its RW bits, and a W1C write clears the bits written in an interrupt status register. A configuration request that gets retry status reads 0 and writes nothing; a write of the command register sets bus mastering. The configuration space's layout, and what a port without an answer carries, are the model's own (log entries 19, 20 and 21). Completes, under conditions on state and operands alone: SPI_READ, SNAP_READ, SPI_WRITE, SPI_UNKNOWN_OPCODE, READ_CLEAR, REGISTER_WRITE, W1C_WRITE. -/
def Obligations.SpiAndRegisterAccesses : Prop :=
  (∀ (a n op crc : Nat) (w : List Nat) (s : State), spiReaches s = false →
    ∀ c ∈ [Instr.spiRead a n, .snapRead a n, .spiWrite a w (n, crc), .spiUnknownOpcode op], exec c s = .next s) ∧
  (∀ (a n : Nat) (s : State), spiReaches s = true →
    (spiFormOk a n = true →
      (∃ t, exec (.spiRead a n) s = .next t ∧ t.spi.miso = spiAnswer 0x0B a n ((List.range n).map fun k => spiReg s (a + 4 * k)) ∧
        t.spi.miso.length = 4 * n + 4 ∧ rfField t 0x708 15 0 = satAdd 16 (rfField s 0x708 15 0) 1 ∧
        t = { s with spi := t.spi, rf := t.rf }) ∧
      (∃ t, exec (.snapRead a n) s = .next t ∧ t.spi.miso = spiAnswer 0x0C a n ((List.range n).map fun k => stagedWord s (a + 4 * k)) ∧
        t.spi.miso.length = 4 * n + 4 ∧ t = { s with spi := t.spi, rf := t.rf })) ∧
    (spiFormOk a n = false → ∀ c ∈ [Instr.spiRead a n, .snapRead a n], ∃ t, exec c s = .next t ∧
      t = { s with spi := t.spi, rf := t.rf, clk := t.clk } ∧ t.clk = { s.clk with freeCtr := t.clk.freeCtr })) ∧
  (∀ (a w : Nat) (ws : List Nat) (s : State), spiReaches s = true →
    (∀ n crc, spiWriteOk a n ws crc = false → ∃ t, exec (.spiWrite a ws (n, crc)) s = .next t ∧ t.mbx = s.mbx ∧ t.lode = s.lode ∧
      rfField t 0x708 31 24 = satAdd 8 (rfField s 0x708 31 24) 1 ∧ bitAt (rfGet t 0x700) 3 = true) ∧
    (a < 0x300 ∨ (0x348 < a ∧ a ≠ 0x700 ∧ a ≠ 0x704) → exec (.spiWrite a [w] (1, spiWriteCrc a 1 [w])) s = .next (spiDone [] s)) ∧
    (0x300 ≤ a → a < 0x344 → a % 4 = 0 → ∃ t, exec (.spiWrite a [w] (1, spiWriteCrc a 1 [w])) s = .next t ∧
      rfGet t a = (w % 2 ^ 32 &&& (regMask a).rw) ||| (rfGet s a &&& (all32 - (regMask a).rw)) ∧
      (∀ b, b ≠ a → b ≠ 0x708 → rfGet t b = rfGet s b) ∧ t = { s with spi := t.spi, rf := t.rf })) ∧
  (∀ (op : Nat) (s : State), spiReaches s = true → op ≠ 0x0B → op ≠ 0x02 → op ≠ 0x0C →
    ∃ t, exec (.spiUnknownOpcode op) s = .next t ∧ t.spi.miso = [] ∧
      rfField t 0x708 23 16 = satAdd 8 (rfField s 0x708 23 16) 1 ∧ t = { s with spi := t.spi, rf := t.rf }) ∧
  (∀ (m : Master) (a : Nat) (s : State), (hostReaches s = false → exec (.readClear m a) s = .next s) ∧
    (hostReaches s = true → homeAddr s m a = none → ∃ t, exec (.readClear m a) s = .next t ∧ t.pcie.readData = 0 ∧
      t = { s with pcie := t.pcie }) ∧
    (∀ h, hostReaches s = true → homeAddr s m a = some h →
      (∀ n, m = .vf n → ∃ t, exec (.readClear m a) s = .next t ∧ t.pcie.readData = readReg s h ∧ t = { s with pcie := t.pcie }) ∧
      (m = .pf → h < 0x00400000 → h % 4 = 0 → ∃ t, exec (.readClear m a) s = .next t ∧ t.pcie.readData = readReg s h ∧
        rfGet t h = (if (regMask h).rc = 0 then rfGet s h else rfGet s h &&& (all32 - (regMask h).rc)) ∧
        (∀ b, b ≠ h → rfGet t b = rfGet s b) ∧ t = { s with pcie := t.pcie, rf := t.rf }))) ∧
  (∀ (m : Master) (a v : Nat) (s : State),
    (writeHome s m a = none → exec (.w1cWrite m a v) s = .next s ∧ exec (.registerWrite m a v) s = .next s) ∧
    (hostReaches s = true → s.pcie.cfgRetry = true → isCfg a = true → exec (.registerWrite .pf a v) s = .next s ∧
      ∃ t, exec (.readClear .pf a) s = .next t ∧ t.pcie.readData = 0 ∧ t = { s with pcie := t.pcie }) ∧
    (hostReaches s = true → s.pcie.cfgRetry = false → ∃ t, exec (.registerWrite .pf cfgCommand v) s = .next t ∧
      t.pcie.busMaster = bitAt v 2 ∧ t = { s with pcie := t.pcie, rf := t.rf }) ∧
    (∀ h i, writeHome s m a = some h →
      (irqPlace h = some (i, true) → exec (.w1cWrite m a v) s = .next s ∧
        ∃ t, exec (.registerWrite m a v) s = .next t ∧ rfGet t (irqAddr i + 4) = v % 2 ^ 32 % 2 ^ irqWidth i ∧
          t = { s with rf := t.rf, pcie := t.pcie }) ∧
      (irqPlace h = some (i, false) → ∃ t, exec (.w1cWrite m a v) s = .next t ∧
        rfGet t (irqAddr i) = rfGet s (irqAddr i) &&& (0xFFFFFFFF - v % 2 ^ irqWidth i) ∧
        t = { s with rf := t.rf, pcie := t.pcie })) ∧
    (∀ h, writeHome s m a = some h → 0x200 ≤ h → h < 0x244 →
      ∃ t, exec (.registerWrite m a v) s = .next t ∧
        rfGet t h = (v % 2 ^ 32 &&& (regMask h).rw) ||| (rfGet s h &&& (all32 - (regMask h).rw)) ∧
        (∀ b, b ≠ h → rfGet t b = rfGet s b) ∧ t = { s with rf := t.rf }))

/-- FAULT_ACK with ARG1 = 0 sets ack of source ARG0 when that source is active, and does nothing otherwise; above 319 it ends with DENIED and has no effect. With ARG1 = 1 it sets ack of every active source. No level, window, held cause or count changes, and CANARY does not restart: of the fault collector only ack of those sources differs. While no active source of a class is unacknowledged, the next event of the class takes the level that its cause and its count give it; while one is, that level is raised by one, never above the ceiling. Completes, under conditions on state and operands alone: FAULT_ACK, FAULT_EVENT. -/
def Obligations.AcknowledgementOnlyAcknowledges : Prop :=
  (∀ (src : MbxSrc) (id : Nat) (s : State), Accepts src s → id ≤ 319 →
    ∃ t, exec (.faultAck src id 0) s = .next t ∧ mbxResult t = some 0 ∧
      srcSt t id = (if (srcSt s id).active = true then { srcSt s id with ack := true } else srcSt s id) ∧
      (∀ j, j ≠ id → srcSt t j = srcSt s j) ∧
      t.fault = { s.fault with srcs := t.fault.srcs } ∧ OnlyReports { s with mbx := t.mbx } t) ∧
  (∀ (src : MbxSrc) (id : Nat) (s : State), Accepts src s → id < 2 ^ 32 →
    ∃ t, exec (.faultAck src id 1) s = .next t ∧ mbxResult t = some 0 ∧
      (∀ j, srcSt t j = (if (srcSt s j).active = true then { srcSt s j with ack := true } else srcSt s j)) ∧
      t.fault = { s.fault with srcs := t.fault.srcs } ∧ OnlyReports { s with mbx := t.mbx } t) ∧
  (∀ (src : MbxSrc) (id : Nat) (s : State), Accepts src s → 319 < id → id < 2 ^ 32 →
    ∃ t, exec (.faultAck src id 0) s = .next t ∧ DeniedBy s t ∧ t.fault = s.fault) ∧
  (∀ (i : FaultSrc) (c d : Nat) (s : State), hasCause i c = true → ∃ t, exec (.faultEvent i c d) s = .next t ∧
    (let f := classCfg s (classOf i)
     let x := if f.n ≤ (srcSt t i).cnt then max (baseLevel s i c) 2 else baseLevel s i c
     (classUnack s (classOf i) = false → (srcSt t i).level = max (srcSt s i).level x) ∧
     (classUnack s (classOf i) = true → (srcSt t i).level = max (srcSt s i).level (max x (min (x + 1) f.ceiling)))))

/-- An event at a source, with a cause that the source has, makes it active and unacknowledged at no less than its base level, counts, keeps the other sources, and holds a held cause; a Critical one stops CANARY. A rail or a temperature outside its limits holds its cause until it returns. A reserved source or cause reports nothing. A held cause whose end comes from outside is no longer held after it, and no other changes anything. A window that closes clears its count. A class recovers when none of its held causes is asserted: every source of it is inactive after its quiet time. A forced event has cause 0xF and holds nothing; a mask of 0 does nothing. A heartbeat ends a stall; 4 ms without one, within 10 % while the LO is absent, is a stall that stops CANARY (how the on-die oscillator's error falls is the model's choice: log entry 57). CANARY toggles at the end of a half period while no stop condition holds, and not otherwise. Completes, under conditions on state and operands alone: FAULT_EVENT, RAIL_OUT_OF_LIMITS, THERMAL_THRESHOLD, HELD_CAUSE_END, FAULT_WINDOW_CLOSE, CLASS_RECOVERY, FAULT_FORCE, FOREMAN_HEARTBEAT, FOREMAN_STALL, CANARY_EDGE. -/
def Obligations.FaultEventsRecoveryAndCanary : Prop :=
  (∀ (i : FaultSrc) (c d : Nat) (s : State), hasCause i c = false → ∃ t, exec (.faultEvent i c d) s = .next t ∧
    t.fault = s.fault ∧ (i.val < 272 ∨ 280 ≤ i.val ∨ c ≠ 1 → t = s)) ∧
  (∀ (i : FaultSrc) (c d : Nat) (s : State), hasCause i c = true → ∃ t, exec (.faultEvent i c d) s = .next t ∧
    (srcSt t i).active = true ∧ (srcSt t i).ack = false ∧ max (srcSt s i).level (baseLevel s i c) ≤ (srcSt t i).level ∧
    (srcSt t i).lastCause = c ∧ (isHeld i c = true → (srcSt t i).held.contains c = true) ∧
    (∀ j, j ≠ i.val → srcSt t j = srcSt s j) ∧
    rfField t (0x00102000 + 4 * i.val) 31 0 = satAdd 32 (rfField s (0x00102000 + 4 * i.val) 31 0) 1 ∧
    (3 ≤ baseLevel s i c → t.fault.canaryRun = false) ∧
    ((srcSt s i).lastRec = none → t.fault.seq = (s.fault.seq + 1) % 2 ^ 32) ∧ OnlyReports { s with picks := t.picks } t) ∧
  (∀ (r : Nat) (s : State), r < 7 →
    (∃ t, exec (.railOutOfLimits r true) s = .next t ∧ (srcSt t (304 + r)).active = true ∧
      (srcSt t (304 + r)).held.contains 1 = true ∧ OnlyReports s t) ∧
    (∃ t, exec (.railOutOfLimits r false) s = .next t ∧ (srcSt t (304 + r)).held.contains 1 = false ∧
      (srcSt t (304 + r)).active = (srcSt s (304 + r)).active ∧ OnlyReports s t)) ∧
  (∀ (n : Nat) (low : Bool) (s : State), n < 16 →
    (∃ t, exec (.thermalThreshold n low true) s = .next t ∧ (srcSt t (288 + n)).active = true ∧
      (srcSt t (288 + n)).held.contains (if low then 2 else 1) = true ∧ OnlyReports s t) ∧
    (∃ t, exec (.thermalThreshold n low false) s = .next t ∧
      (srcSt t (288 + n)).held.contains (if low then 2 else 1) = false ∧ OnlyReports s t)) ∧
  (∀ (i : FaultSrc) (c : Nat) (s : State),
    (endsOutside i c = false ∨ (srcSt s i).held.contains c = false → exec (.heldCauseEnd i c) s = .next s) ∧
    (endsOutside i c = true → (srcSt s i).held.contains c = true → ∃ t, exec (.heldCauseEnd i c) s = .next t ∧
      srcSt t i = { srcSt s i with held := (srcSt s i).held.filter (· != c) } ∧ (∀ j, j ≠ i.val → srcSt t j = srcSt s j) ∧
      (sget {} t.fault.classes (classOf i)).last = nowUs s ∧ t = { s with fault := t.fault })) ∧
  (∀ (i : FaultSrc) (s : State), ((srcSt s i).winOpen = false → exec (.faultWindowClose i) s = .next s) ∧
    ((srcSt s i).winOpen = true → ∃ t, exec (.faultWindowClose i) s = .next t ∧
      srcSt t i = { srcSt s i with winOpen := false, cnt := 0 } ∧
      t.clk.ticks = max s.clk.ticks (tickOfUs (winEnd s i)) ∧ OnlyTime { s with fault := t.fault } t)) ∧
  (∀ (k : Fin 15) (s : State), let live := (classSrcs s k).any (fun e => e.2.active) && !classHeld s k
    (live = false → exec (.classRecovery k) s = .next s) ∧
    (live = true → ∃ t, exec (.classRecovery k) s = .next t ∧
      (∀ i, classOf i = k.val → (srcSt t i).active = false ∧ (srcSt t i).level = 0) ∧
      (∀ i, classOf i ≠ k.val → srcSt t i = srcSt s i) ∧
      (sget {} t.fault.classes k).recoveries = (sget {} s.fault.classes k).recoveries + 1 ∧
      (k.val ≠ 8 → t.gals = s.gals) ∧ t.picks = s.picks ∧ t.lode = s.lode)) ∧
  (∀ (j b : Nat) (s : State), exec (.faultForce j 0) s = .next s ∧
    (b < 32 → ∃ t, exec (.faultForce j (2 ^ b)) s = .next t ∧ (srcSt t (32 * j + b)).active = true ∧
      (srcSt t (32 * j + b)).lastCause = 0xF ∧ (srcSt t (32 * j + b)).held = (srcSt s (32 * j + b)).held ∧
      (∀ i, i ≠ 32 * j + b → srcSt t i = srcSt s i) ∧ OnlyReports s t)) ∧
  (∀ s : State, (∃ t, exec .foremanHeartbeat s = .next t ∧ t.fault.stall = false ∧ t.fault.heartbeatTick = s.clk.ticks ∧
      (srcSt t 0).held.contains 1 = false ∧ t = { s with fault := t.fault }) ∧
    (s.fault.stall = true → exec .foremanStall s = .next s) ∧
    (s.fault.stall = false → ∃ t, exec .foremanStall s = .next t ∧ t.fault.stall = true ∧ t.fault.canaryRun = false ∧
      (srcSt t 0).active = true ∧
      t.clk.ticks = max s.clk.ticks (stallTick s) ∧
      ((∀ e ∈ s.fault.oscRuns, e.2 ≤ s.fault.heartbeatTick) → s.lode.loOk = true →
        t.clk.ticks = max s.clk.ticks (s.fault.heartbeatTick + 4 * ticksPerMs)) ∧
      ((∀ e ∈ s.fault.oscRuns, e.2 ≤ s.fault.heartbeatTick) → s.lode.loOk = false → max s.clk.ticks (s.fault.heartbeatTick + 36 * ticksPerMs / 10) ≤ t.clk.ticks ∧
        t.clk.ticks ≤ max s.clk.ticks (s.fault.heartbeatTick + 44 * ticksPerMs / 10)))) ∧
  (∀ s : State, ∃ t, exec .canaryEdge s = .next t ∧
    t.fault.canaryLevel = (if canaryMayRun s then !s.fault.canaryLevel else s.fault.canaryLevel) ∧
    t.fault.canaryRun = canaryMayRun s ∧ OnlyTime { s with fault := t.fault } t)

/-- A sample comes at the next multiple of 16 ticks and counts one; a counter in a threshold mode adds one where the occupancy reaches its threshold, and a counter of another event keeps its count. At that boundary a commit that waits puts every selection in force, with a counter whose selection changes at 0. While COARSE is 1 no sample is taken. A write of COMMIT only schedules it. A snapshot instant is armed, or refused and counted where it is not 1 us ahead. At the instant the counters are captured as they stand, the sequence rises by one and the one-shot is spent; a period of 0 captures nothing. A read of a counter returns its low word and latches its high word; any other address changes nothing. Completes, under conditions on state and operands alone: OCCUPANCY_SAMPLE, WBR_COMMIT, WBR_SNAPSHOT_ARM, WBR_SNAPSHOT_CAPTURE, WBR_COUNTER_READ. -/
def Obligations.WeighbridgeSamplesCommitsAndSnapshots : Prop :=
  (∀ s : State, (s.lode.coarse = true → exec .occupancySample s = .next s) ∧
    (s.lode.coarse = false → ∃ t, exec .occupancySample s = .next t ∧
      t.clk.ticks = max s.clk.ticks (nextMultiple 16 s) ∧ t.wbr.samples = (s.wbr.samples + 1) % 2 ^ 64 ∧
      t.wbr.commit = false ∧ OnlyTime { s with wbr := t.wbr } t ∧
      (∀ n, n < 16 → let e := sget {} s.wbr.evts n
        let f := sget {} t.wbr.evts n
        (s.wbr.commit = false → f.sel = e.sel ∧ (isOccupancy (evtEvent e.sel) = false → f = e) ∧
          (isOccupancy (evtEvent e.sel) = true → evtMode e.sel = 2 →
            f.count = (e.count + (if evtT e.sel ≤ occupancySel s e.sel then 1 else 0)) % 2 ^ 64)) ∧
        (s.wbr.commit = true → f.sel = rfGet s (evtSelAddr n) ∧
          (e.sel ≠ rfGet s (evtSelAddr n) → f = { sel := rfGet s (evtSelAddr n) }))))) ∧
  (∀ (v : Nat) (s : State), exec (.wbrCommit v) s =
    .next (if bitAt v 0 then { s with wbr := { s.wbr with commit := true } } else s)) ∧
  (∀ (v : Nat) (s : State), let x := (s.wbr.asmSecLo + 2 ^ 32 * (v % 65536)) * oneSec + s.wbr.asmNs * 65536
    (bitAt v 31 = false → exec (.wbrSnapshotArm v) s = .next s) ∧
    (bitAt v 31 = true → x < nowFu s + fuOfNs 1000 → ∃ t, exec (.wbrSnapshotArm v) s = .next t ∧
      rfField t (wbrBase + 8) 31 24 = satAdd 8 (rfField s (wbrBase + 8) 31 24) 1 ∧ t = { s with rf := t.rf }) ∧
    (bitAt v 31 = true → nowFu s + fuOfNs 1000 ≤ x →
      exec (.wbrSnapshotArm v) s = .next { s with wbr := { s.wbr with oneShot := some x } })) ∧
  (∀ s : State, (s.wbr.oneShot = none → exec (.wbrSnapshotCapture false) s = .next s) ∧
    (wbrPeriod s = 0 → exec (.wbrSnapshotCapture true) s = .next s) ∧
    (∀ p x, (p = false ∧ s.wbr.oneShot = some x ∨ p = true ∧ wbrPeriod s ≠ 0 ∧ x = (nowFu s / wbrPeriod s + 1) * wbrPeriod s) →
      ∃ t, exec (.wbrSnapshotCapture p) s = .next t ∧ t.clk.ticks = max s.clk.ticks (tickOfLode x s) ∧
        t.wbr.snap.time = x ∧ t.wbr.snap.samples = s.wbr.samples ∧ t.wbr.snap.level = deviceLevel s ∧
        t.wbr.snap.gal = galWord s ∧ (∀ n, n < 16 → t.wbr.snap.evts[n]? = some (sget {} s.wbr.evts n).count) ∧
        t.wbr.seq = (s.wbr.seq + 1) % 2 ^ 32 ∧ (s.wbr.oneShot = some x → t.wbr.oneShot = none) ∧
        t.wbr.evts = s.wbr.evts ∧ OnlyTime { s with wbr := t.wbr } t)) ∧
  (∀ (a : Nat) (s : State), (a < wbrBase ∨ wbrCounter s (a - wbrBase) = none → exec (.wbrCounterRead a) s = .next s) ∧
    (∀ v, wbrBase ≤ a → wbrCounter s (a - wbrBase) = some v → ∃ t, exec (.wbrCounterRead a) s = .next t ∧
      t.pcie.readData = v % 2 ^ 32 ∧ sget 0 t.wbr.hiLatch (a + 4) = v / 2 ^ 32 % 2 ^ 32 ∧
      (∀ b, b ≠ a + 4 → sget 0 t.wbr.hiLatch b = sget 0 s.wbr.hiLatch b) ∧ t = { s with wbr := t.wbr, pcie := t.pcie }))

/-- In the reset state the Lode is in FREE with service off, the queue of commands is empty, no image is applied, every gallery is OFF and every pick has its default class 1 and every gallery 16 tokens in each group, no Magazine slot holds a key, no session record is valid, every MSI-X vector is masked (the model's choice, log entry 27), and every stored register holds 32 bits. -/
def Obligations.ResetLeavesTheDeviceWaiting : Prop :=
  let s := State.reset
  s.pending = [] ∧ s.lode.state = .free ∧ s.lode.svc = false ∧ s.surv.structureApplied = false ∧
  (∀ g, (galSt s g).phase = .off) ∧ (∀ p, p < 512 → pickClass s p = 1) ∧
  (∀ g k, k < 3 → tokenWord s g / 256 ^ k % 256 = 16) ∧ (∀ k, (magSlot s k).loaded = false) ∧
  (∀ r, recordOf s r = List.replicate 64 0) ∧ (∀ v, v < 128 → vectorMasked s v = true) ∧ Words32 s

/-- For every state a step answers a next state, never a fault or a refusal, and leaves the waiting commands but the first as they were: no command of the table, on any operands and in any state, stops the device, loses a waiting command or adds one. The queue is the model's own form (log entry 1). -/
def Obligations.EveryCommandIsTakenFromTheQueue : Prop :=
  ∀ s : State, ∃ t, step s = .next t ∧ t.pending = s.pending.tail

/-- If every stored register of a state reads a number below 2^32, then after a step every stored register reads one too: whatever a command counts, latches, writes or clears. -/
def Obligations.RegistersStayWithin32Bits : Prop :=
  ∀ s t : State, Words32 s → step s = .next t → Words32 t
end

