-- ==== Sys2Proof/Laws/State.lean ====
section
/-! SUPPORT. The fields of the state after each named update: one lemma per field that the update leaves as it was. -/

namespace Sys2Proof.Machine

/-! `rfSet` changes `rf` only. -/
@[simp] theorem rfSet_clk (a v : Nat) (s : State) : (rfSet a v s).clk = s.clk := rfl
@[simp] theorem rfSet_leap (a v : Nat) (s : State) : (rfSet a v s).leap = s.leap := rfl
@[simp] theorem rfSet_lode (a v : Nat) (s : State) : (rfSet a v s).lode = s.lode := rfl
@[simp] theorem rfSet_assay (a v : Nat) (s : State) : (rfSet a v s).assay = s.assay := rfl
@[simp] theorem rfSet_tally (a v : Nat) (s : State) : (rfSet a v s).tally = s.tally := rfl
@[simp] theorem rfSet_dial (a v : Nat) (s : State) : (rfSet a v s).dial = s.dial := rfl
@[simp] theorem rfSet_dayl (a v : Nat) (s : State) : (rfSet a v s).dayl = s.dayl := rfl
@[simp] theorem rfSet_outs (a v : Nat) (s : State) : (rfSet a v s).outs = s.outs := rfl
@[simp] theorem rfSet_prt (a v : Nat) (s : State) : (rfSet a v s).prt = s.prt := rfl
@[simp] theorem rfSet_gals (a v : Nat) (s : State) : (rfSet a v s).gals = s.gals := rfl
@[simp] theorem rfSet_picks (a v : Nat) (s : State) : (rfSet a v s).picks = s.picks := rfl
@[simp] theorem rfSet_shaft (a v : Nat) (s : State) : (rfSet a v s).shaft = s.shaft := rfl
@[simp] theorem rfSet_sess (a v : Nat) (s : State) : (rfSet a v s).sess = s.sess := rfl
@[simp] theorem rfSet_cry (a v : Nat) (s : State) : (rfSet a v s).cry = s.cry := rfl
@[simp] theorem rfSet_seam (a v : Nat) (s : State) : (rfSet a v s).seam = s.seam := rfl
@[simp] theorem rfSet_ptpRef (a v : Nat) (s : State) : (rfSet a v s).ptpRef = s.ptpRef := rfl
@[simp] theorem rfSet_haul (a v : Nat) (s : State) : (rfSet a v s).haul = s.haul := rfl
@[simp] theorem rfSet_wbr (a v : Nat) (s : State) : (rfSet a v s).wbr = s.wbr := rfl
@[simp] theorem rfSet_fault (a v : Nat) (s : State) : (rfSet a v s).fault = s.fault := rfl
@[simp] theorem rfSet_power (a v : Nat) (s : State) : (rfSet a v s).power = s.power := rfl
@[simp] theorem rfSet_otp (a v : Nat) (s : State) : (rfSet a v s).otp = s.otp := rfl
@[simp] theorem rfSet_surv (a v : Nat) (s : State) : (rfSet a v s).surv = s.surv := rfl
@[simp] theorem rfSet_cfg (a v : Nat) (s : State) : (rfSet a v s).cfg = s.cfg := rfl
@[simp] theorem rfSet_mbx (a v : Nat) (s : State) : (rfSet a v s).mbx = s.mbx := rfl
@[simp] theorem rfSet_pcie (a v : Nat) (s : State) : (rfSet a v s).pcie = s.pcie := rfl
@[simp] theorem rfSet_spi (a v : Nat) (s : State) : (rfSet a v s).spi = s.spi := rfl
@[simp] theorem rfSet_flash (a v : Nat) (s : State) : (rfSet a v s).flash = s.flash := rfl
@[simp] theorem rfSet_hostLoad (a v : Nat) (s : State) : (rfSet a v s).hostLoad = s.hostLoad := rfl
@[simp] theorem rfSet_pending (a v : Nat) (s : State) : (rfSet a v s).pending = s.pending := rfl

/-! `rfOr` changes `rf` only. -/
@[simp] theorem rfOr_clk (a m : Nat) (s : State) : (rfOr a m s).clk = s.clk := rfl
@[simp] theorem rfOr_leap (a m : Nat) (s : State) : (rfOr a m s).leap = s.leap := rfl
@[simp] theorem rfOr_lode (a m : Nat) (s : State) : (rfOr a m s).lode = s.lode := rfl
@[simp] theorem rfOr_assay (a m : Nat) (s : State) : (rfOr a m s).assay = s.assay := rfl
@[simp] theorem rfOr_tally (a m : Nat) (s : State) : (rfOr a m s).tally = s.tally := rfl
@[simp] theorem rfOr_dial (a m : Nat) (s : State) : (rfOr a m s).dial = s.dial := rfl
@[simp] theorem rfOr_dayl (a m : Nat) (s : State) : (rfOr a m s).dayl = s.dayl := rfl
@[simp] theorem rfOr_outs (a m : Nat) (s : State) : (rfOr a m s).outs = s.outs := rfl
@[simp] theorem rfOr_prt (a m : Nat) (s : State) : (rfOr a m s).prt = s.prt := rfl
@[simp] theorem rfOr_gals (a m : Nat) (s : State) : (rfOr a m s).gals = s.gals := rfl
@[simp] theorem rfOr_picks (a m : Nat) (s : State) : (rfOr a m s).picks = s.picks := rfl
@[simp] theorem rfOr_shaft (a m : Nat) (s : State) : (rfOr a m s).shaft = s.shaft := rfl
@[simp] theorem rfOr_sess (a m : Nat) (s : State) : (rfOr a m s).sess = s.sess := rfl
@[simp] theorem rfOr_cry (a m : Nat) (s : State) : (rfOr a m s).cry = s.cry := rfl
@[simp] theorem rfOr_seam (a m : Nat) (s : State) : (rfOr a m s).seam = s.seam := rfl
@[simp] theorem rfOr_ptpRef (a m : Nat) (s : State) : (rfOr a m s).ptpRef = s.ptpRef := rfl
@[simp] theorem rfOr_haul (a m : Nat) (s : State) : (rfOr a m s).haul = s.haul := rfl
@[simp] theorem rfOr_wbr (a m : Nat) (s : State) : (rfOr a m s).wbr = s.wbr := rfl
@[simp] theorem rfOr_fault (a m : Nat) (s : State) : (rfOr a m s).fault = s.fault := rfl
@[simp] theorem rfOr_power (a m : Nat) (s : State) : (rfOr a m s).power = s.power := rfl
@[simp] theorem rfOr_otp (a m : Nat) (s : State) : (rfOr a m s).otp = s.otp := rfl
@[simp] theorem rfOr_surv (a m : Nat) (s : State) : (rfOr a m s).surv = s.surv := rfl
@[simp] theorem rfOr_cfg (a m : Nat) (s : State) : (rfOr a m s).cfg = s.cfg := rfl
@[simp] theorem rfOr_mbx (a m : Nat) (s : State) : (rfOr a m s).mbx = s.mbx := rfl
@[simp] theorem rfOr_pcie (a m : Nat) (s : State) : (rfOr a m s).pcie = s.pcie := rfl
@[simp] theorem rfOr_spi (a m : Nat) (s : State) : (rfOr a m s).spi = s.spi := rfl
@[simp] theorem rfOr_flash (a m : Nat) (s : State) : (rfOr a m s).flash = s.flash := rfl
@[simp] theorem rfOr_hostLoad (a m : Nat) (s : State) : (rfOr a m s).hostLoad = s.hostLoad := rfl
@[simp] theorem rfOr_pending (a m : Nat) (s : State) : (rfOr a m s).pending = s.pending := rfl

/-! `rfClear` changes `rf` only. -/
@[simp] theorem rfClear_clk (a m : Nat) (s : State) : (rfClear a m s).clk = s.clk := rfl
@[simp] theorem rfClear_leap (a m : Nat) (s : State) : (rfClear a m s).leap = s.leap := rfl
@[simp] theorem rfClear_lode (a m : Nat) (s : State) : (rfClear a m s).lode = s.lode := rfl
@[simp] theorem rfClear_assay (a m : Nat) (s : State) : (rfClear a m s).assay = s.assay := rfl
@[simp] theorem rfClear_tally (a m : Nat) (s : State) : (rfClear a m s).tally = s.tally := rfl
@[simp] theorem rfClear_dial (a m : Nat) (s : State) : (rfClear a m s).dial = s.dial := rfl
@[simp] theorem rfClear_dayl (a m : Nat) (s : State) : (rfClear a m s).dayl = s.dayl := rfl
@[simp] theorem rfClear_outs (a m : Nat) (s : State) : (rfClear a m s).outs = s.outs := rfl
@[simp] theorem rfClear_prt (a m : Nat) (s : State) : (rfClear a m s).prt = s.prt := rfl
@[simp] theorem rfClear_gals (a m : Nat) (s : State) : (rfClear a m s).gals = s.gals := rfl
@[simp] theorem rfClear_picks (a m : Nat) (s : State) : (rfClear a m s).picks = s.picks := rfl
@[simp] theorem rfClear_shaft (a m : Nat) (s : State) : (rfClear a m s).shaft = s.shaft := rfl
@[simp] theorem rfClear_sess (a m : Nat) (s : State) : (rfClear a m s).sess = s.sess := rfl
@[simp] theorem rfClear_cry (a m : Nat) (s : State) : (rfClear a m s).cry = s.cry := rfl
@[simp] theorem rfClear_seam (a m : Nat) (s : State) : (rfClear a m s).seam = s.seam := rfl
@[simp] theorem rfClear_ptpRef (a m : Nat) (s : State) : (rfClear a m s).ptpRef = s.ptpRef := rfl
@[simp] theorem rfClear_haul (a m : Nat) (s : State) : (rfClear a m s).haul = s.haul := rfl
@[simp] theorem rfClear_wbr (a m : Nat) (s : State) : (rfClear a m s).wbr = s.wbr := rfl
@[simp] theorem rfClear_fault (a m : Nat) (s : State) : (rfClear a m s).fault = s.fault := rfl
@[simp] theorem rfClear_power (a m : Nat) (s : State) : (rfClear a m s).power = s.power := rfl
@[simp] theorem rfClear_otp (a m : Nat) (s : State) : (rfClear a m s).otp = s.otp := rfl
@[simp] theorem rfClear_surv (a m : Nat) (s : State) : (rfClear a m s).surv = s.surv := rfl
@[simp] theorem rfClear_cfg (a m : Nat) (s : State) : (rfClear a m s).cfg = s.cfg := rfl
@[simp] theorem rfClear_mbx (a m : Nat) (s : State) : (rfClear a m s).mbx = s.mbx := rfl
@[simp] theorem rfClear_pcie (a m : Nat) (s : State) : (rfClear a m s).pcie = s.pcie := rfl
@[simp] theorem rfClear_spi (a m : Nat) (s : State) : (rfClear a m s).spi = s.spi := rfl
@[simp] theorem rfClear_flash (a m : Nat) (s : State) : (rfClear a m s).flash = s.flash := rfl
@[simp] theorem rfClear_hostLoad (a m : Nat) (s : State) : (rfClear a m s).hostLoad = s.hostLoad := rfl
@[simp] theorem rfClear_pending (a m : Nat) (s : State) : (rfClear a m s).pending = s.pending := rfl

/-! `rfBump` changes `rf` only. -/
@[simp] theorem rfBump_clk (a hi lo n : Nat) (s : State) : (rfBump a hi lo n s).clk = s.clk := rfl
@[simp] theorem rfBump_leap (a hi lo n : Nat) (s : State) : (rfBump a hi lo n s).leap = s.leap := rfl
@[simp] theorem rfBump_lode (a hi lo n : Nat) (s : State) : (rfBump a hi lo n s).lode = s.lode := rfl
@[simp] theorem rfBump_assay (a hi lo n : Nat) (s : State) : (rfBump a hi lo n s).assay = s.assay := rfl
@[simp] theorem rfBump_tally (a hi lo n : Nat) (s : State) : (rfBump a hi lo n s).tally = s.tally := rfl
@[simp] theorem rfBump_dial (a hi lo n : Nat) (s : State) : (rfBump a hi lo n s).dial = s.dial := rfl
@[simp] theorem rfBump_dayl (a hi lo n : Nat) (s : State) : (rfBump a hi lo n s).dayl = s.dayl := rfl
@[simp] theorem rfBump_outs (a hi lo n : Nat) (s : State) : (rfBump a hi lo n s).outs = s.outs := rfl
@[simp] theorem rfBump_prt (a hi lo n : Nat) (s : State) : (rfBump a hi lo n s).prt = s.prt := rfl
@[simp] theorem rfBump_gals (a hi lo n : Nat) (s : State) : (rfBump a hi lo n s).gals = s.gals := rfl
@[simp] theorem rfBump_picks (a hi lo n : Nat) (s : State) : (rfBump a hi lo n s).picks = s.picks := rfl
@[simp] theorem rfBump_shaft (a hi lo n : Nat) (s : State) : (rfBump a hi lo n s).shaft = s.shaft := rfl
@[simp] theorem rfBump_sess (a hi lo n : Nat) (s : State) : (rfBump a hi lo n s).sess = s.sess := rfl
@[simp] theorem rfBump_cry (a hi lo n : Nat) (s : State) : (rfBump a hi lo n s).cry = s.cry := rfl
@[simp] theorem rfBump_seam (a hi lo n : Nat) (s : State) : (rfBump a hi lo n s).seam = s.seam := rfl
@[simp] theorem rfBump_ptpRef (a hi lo n : Nat) (s : State) : (rfBump a hi lo n s).ptpRef = s.ptpRef := rfl
@[simp] theorem rfBump_haul (a hi lo n : Nat) (s : State) : (rfBump a hi lo n s).haul = s.haul := rfl
@[simp] theorem rfBump_wbr (a hi lo n : Nat) (s : State) : (rfBump a hi lo n s).wbr = s.wbr := rfl
@[simp] theorem rfBump_fault (a hi lo n : Nat) (s : State) : (rfBump a hi lo n s).fault = s.fault := rfl
@[simp] theorem rfBump_power (a hi lo n : Nat) (s : State) : (rfBump a hi lo n s).power = s.power := rfl
@[simp] theorem rfBump_otp (a hi lo n : Nat) (s : State) : (rfBump a hi lo n s).otp = s.otp := rfl
@[simp] theorem rfBump_surv (a hi lo n : Nat) (s : State) : (rfBump a hi lo n s).surv = s.surv := rfl
@[simp] theorem rfBump_cfg (a hi lo n : Nat) (s : State) : (rfBump a hi lo n s).cfg = s.cfg := rfl
@[simp] theorem rfBump_mbx (a hi lo n : Nat) (s : State) : (rfBump a hi lo n s).mbx = s.mbx := rfl
@[simp] theorem rfBump_pcie (a hi lo n : Nat) (s : State) : (rfBump a hi lo n s).pcie = s.pcie := rfl
@[simp] theorem rfBump_spi (a hi lo n : Nat) (s : State) : (rfBump a hi lo n s).spi = s.spi := rfl
@[simp] theorem rfBump_flash (a hi lo n : Nat) (s : State) : (rfBump a hi lo n s).flash = s.flash := rfl
@[simp] theorem rfBump_hostLoad (a hi lo n : Nat) (s : State) : (rfBump a hi lo n s).hostLoad = s.hostLoad := rfl
@[simp] theorem rfBump_pending (a hi lo n : Nat) (s : State) : (rfBump a hi lo n s).pending = s.pending := rfl

/-! `rfBumpWrap` changes `rf` only. -/
@[simp] theorem rfBumpWrap_clk (a hi lo n : Nat) (s : State) : (rfBumpWrap a hi lo n s).clk = s.clk := rfl
@[simp] theorem rfBumpWrap_leap (a hi lo n : Nat) (s : State) : (rfBumpWrap a hi lo n s).leap = s.leap := rfl
@[simp] theorem rfBumpWrap_lode (a hi lo n : Nat) (s : State) : (rfBumpWrap a hi lo n s).lode = s.lode := rfl
@[simp] theorem rfBumpWrap_assay (a hi lo n : Nat) (s : State) : (rfBumpWrap a hi lo n s).assay = s.assay := rfl
@[simp] theorem rfBumpWrap_tally (a hi lo n : Nat) (s : State) : (rfBumpWrap a hi lo n s).tally = s.tally := rfl
@[simp] theorem rfBumpWrap_dial (a hi lo n : Nat) (s : State) : (rfBumpWrap a hi lo n s).dial = s.dial := rfl
@[simp] theorem rfBumpWrap_dayl (a hi lo n : Nat) (s : State) : (rfBumpWrap a hi lo n s).dayl = s.dayl := rfl
@[simp] theorem rfBumpWrap_outs (a hi lo n : Nat) (s : State) : (rfBumpWrap a hi lo n s).outs = s.outs := rfl
@[simp] theorem rfBumpWrap_prt (a hi lo n : Nat) (s : State) : (rfBumpWrap a hi lo n s).prt = s.prt := rfl
@[simp] theorem rfBumpWrap_gals (a hi lo n : Nat) (s : State) : (rfBumpWrap a hi lo n s).gals = s.gals := rfl
@[simp] theorem rfBumpWrap_picks (a hi lo n : Nat) (s : State) : (rfBumpWrap a hi lo n s).picks = s.picks := rfl
@[simp] theorem rfBumpWrap_shaft (a hi lo n : Nat) (s : State) : (rfBumpWrap a hi lo n s).shaft = s.shaft := rfl
@[simp] theorem rfBumpWrap_sess (a hi lo n : Nat) (s : State) : (rfBumpWrap a hi lo n s).sess = s.sess := rfl
@[simp] theorem rfBumpWrap_cry (a hi lo n : Nat) (s : State) : (rfBumpWrap a hi lo n s).cry = s.cry := rfl
@[simp] theorem rfBumpWrap_seam (a hi lo n : Nat) (s : State) : (rfBumpWrap a hi lo n s).seam = s.seam := rfl
@[simp] theorem rfBumpWrap_ptpRef (a hi lo n : Nat) (s : State) : (rfBumpWrap a hi lo n s).ptpRef = s.ptpRef := rfl
@[simp] theorem rfBumpWrap_haul (a hi lo n : Nat) (s : State) : (rfBumpWrap a hi lo n s).haul = s.haul := rfl
@[simp] theorem rfBumpWrap_wbr (a hi lo n : Nat) (s : State) : (rfBumpWrap a hi lo n s).wbr = s.wbr := rfl
@[simp] theorem rfBumpWrap_fault (a hi lo n : Nat) (s : State) : (rfBumpWrap a hi lo n s).fault = s.fault := rfl
@[simp] theorem rfBumpWrap_power (a hi lo n : Nat) (s : State) : (rfBumpWrap a hi lo n s).power = s.power := rfl
@[simp] theorem rfBumpWrap_otp (a hi lo n : Nat) (s : State) : (rfBumpWrap a hi lo n s).otp = s.otp := rfl
@[simp] theorem rfBumpWrap_surv (a hi lo n : Nat) (s : State) : (rfBumpWrap a hi lo n s).surv = s.surv := rfl
@[simp] theorem rfBumpWrap_cfg (a hi lo n : Nat) (s : State) : (rfBumpWrap a hi lo n s).cfg = s.cfg := rfl
@[simp] theorem rfBumpWrap_mbx (a hi lo n : Nat) (s : State) : (rfBumpWrap a hi lo n s).mbx = s.mbx := rfl
@[simp] theorem rfBumpWrap_pcie (a hi lo n : Nat) (s : State) : (rfBumpWrap a hi lo n s).pcie = s.pcie := rfl
@[simp] theorem rfBumpWrap_spi (a hi lo n : Nat) (s : State) : (rfBumpWrap a hi lo n s).spi = s.spi := rfl
@[simp] theorem rfBumpWrap_flash (a hi lo n : Nat) (s : State) : (rfBumpWrap a hi lo n s).flash = s.flash := rfl
@[simp] theorem rfBumpWrap_hostLoad (a hi lo n : Nat) (s : State) : (rfBumpWrap a hi lo n s).hostLoad = s.hostLoad := rfl
@[simp] theorem rfBumpWrap_pending (a hi lo n : Nat) (s : State) : (rfBumpWrap a hi lo n s).pending = s.pending := rfl

/-! `alertSet` changes `rf` only. -/
@[simp] theorem alertSet_clk (b : Nat) (s : State) : (alertSet b s).clk = s.clk := rfl
@[simp] theorem alertSet_leap (b : Nat) (s : State) : (alertSet b s).leap = s.leap := rfl
@[simp] theorem alertSet_lode (b : Nat) (s : State) : (alertSet b s).lode = s.lode := rfl
@[simp] theorem alertSet_assay (b : Nat) (s : State) : (alertSet b s).assay = s.assay := rfl
@[simp] theorem alertSet_tally (b : Nat) (s : State) : (alertSet b s).tally = s.tally := rfl
@[simp] theorem alertSet_dial (b : Nat) (s : State) : (alertSet b s).dial = s.dial := rfl
@[simp] theorem alertSet_dayl (b : Nat) (s : State) : (alertSet b s).dayl = s.dayl := rfl
@[simp] theorem alertSet_outs (b : Nat) (s : State) : (alertSet b s).outs = s.outs := rfl
@[simp] theorem alertSet_prt (b : Nat) (s : State) : (alertSet b s).prt = s.prt := rfl
@[simp] theorem alertSet_gals (b : Nat) (s : State) : (alertSet b s).gals = s.gals := rfl
@[simp] theorem alertSet_picks (b : Nat) (s : State) : (alertSet b s).picks = s.picks := rfl
@[simp] theorem alertSet_shaft (b : Nat) (s : State) : (alertSet b s).shaft = s.shaft := rfl
@[simp] theorem alertSet_sess (b : Nat) (s : State) : (alertSet b s).sess = s.sess := rfl
@[simp] theorem alertSet_cry (b : Nat) (s : State) : (alertSet b s).cry = s.cry := rfl
@[simp] theorem alertSet_seam (b : Nat) (s : State) : (alertSet b s).seam = s.seam := rfl
@[simp] theorem alertSet_ptpRef (b : Nat) (s : State) : (alertSet b s).ptpRef = s.ptpRef := rfl
@[simp] theorem alertSet_haul (b : Nat) (s : State) : (alertSet b s).haul = s.haul := rfl
@[simp] theorem alertSet_wbr (b : Nat) (s : State) : (alertSet b s).wbr = s.wbr := rfl
@[simp] theorem alertSet_fault (b : Nat) (s : State) : (alertSet b s).fault = s.fault := rfl
@[simp] theorem alertSet_power (b : Nat) (s : State) : (alertSet b s).power = s.power := rfl
@[simp] theorem alertSet_otp (b : Nat) (s : State) : (alertSet b s).otp = s.otp := rfl
@[simp] theorem alertSet_surv (b : Nat) (s : State) : (alertSet b s).surv = s.surv := rfl
@[simp] theorem alertSet_cfg (b : Nat) (s : State) : (alertSet b s).cfg = s.cfg := rfl
@[simp] theorem alertSet_mbx (b : Nat) (s : State) : (alertSet b s).mbx = s.mbx := rfl
@[simp] theorem alertSet_pcie (b : Nat) (s : State) : (alertSet b s).pcie = s.pcie := rfl
@[simp] theorem alertSet_spi (b : Nat) (s : State) : (alertSet b s).spi = s.spi := rfl
@[simp] theorem alertSet_flash (b : Nat) (s : State) : (alertSet b s).flash = s.flash := rfl
@[simp] theorem alertSet_hostLoad (b : Nat) (s : State) : (alertSet b s).hostLoad = s.hostLoad := rfl
@[simp] theorem alertSet_pending (b : Nat) (s : State) : (alertSet b s).pending = s.pending := rfl

/-! `srcMod` changes `fault` only. -/
@[simp] theorem srcMod_clk (i : Nat) (f : FaultSrcSt → FaultSrcSt) (s : State) : (srcMod i f s).clk = s.clk := rfl
@[simp] theorem srcMod_leap (i : Nat) (f : FaultSrcSt → FaultSrcSt) (s : State) : (srcMod i f s).leap = s.leap := rfl
@[simp] theorem srcMod_lode (i : Nat) (f : FaultSrcSt → FaultSrcSt) (s : State) : (srcMod i f s).lode = s.lode := rfl
@[simp] theorem srcMod_assay (i : Nat) (f : FaultSrcSt → FaultSrcSt) (s : State) : (srcMod i f s).assay = s.assay := rfl
@[simp] theorem srcMod_tally (i : Nat) (f : FaultSrcSt → FaultSrcSt) (s : State) : (srcMod i f s).tally = s.tally := rfl
@[simp] theorem srcMod_dial (i : Nat) (f : FaultSrcSt → FaultSrcSt) (s : State) : (srcMod i f s).dial = s.dial := rfl
@[simp] theorem srcMod_dayl (i : Nat) (f : FaultSrcSt → FaultSrcSt) (s : State) : (srcMod i f s).dayl = s.dayl := rfl
@[simp] theorem srcMod_outs (i : Nat) (f : FaultSrcSt → FaultSrcSt) (s : State) : (srcMod i f s).outs = s.outs := rfl
@[simp] theorem srcMod_prt (i : Nat) (f : FaultSrcSt → FaultSrcSt) (s : State) : (srcMod i f s).prt = s.prt := rfl
@[simp] theorem srcMod_gals (i : Nat) (f : FaultSrcSt → FaultSrcSt) (s : State) : (srcMod i f s).gals = s.gals := rfl
@[simp] theorem srcMod_picks (i : Nat) (f : FaultSrcSt → FaultSrcSt) (s : State) : (srcMod i f s).picks = s.picks := rfl
@[simp] theorem srcMod_shaft (i : Nat) (f : FaultSrcSt → FaultSrcSt) (s : State) : (srcMod i f s).shaft = s.shaft := rfl
@[simp] theorem srcMod_sess (i : Nat) (f : FaultSrcSt → FaultSrcSt) (s : State) : (srcMod i f s).sess = s.sess := rfl
@[simp] theorem srcMod_cry (i : Nat) (f : FaultSrcSt → FaultSrcSt) (s : State) : (srcMod i f s).cry = s.cry := rfl
@[simp] theorem srcMod_seam (i : Nat) (f : FaultSrcSt → FaultSrcSt) (s : State) : (srcMod i f s).seam = s.seam := rfl
@[simp] theorem srcMod_ptpRef (i : Nat) (f : FaultSrcSt → FaultSrcSt) (s : State) : (srcMod i f s).ptpRef = s.ptpRef := rfl
@[simp] theorem srcMod_haul (i : Nat) (f : FaultSrcSt → FaultSrcSt) (s : State) : (srcMod i f s).haul = s.haul := rfl
@[simp] theorem srcMod_wbr (i : Nat) (f : FaultSrcSt → FaultSrcSt) (s : State) : (srcMod i f s).wbr = s.wbr := rfl
@[simp] theorem srcMod_power (i : Nat) (f : FaultSrcSt → FaultSrcSt) (s : State) : (srcMod i f s).power = s.power := rfl
@[simp] theorem srcMod_otp (i : Nat) (f : FaultSrcSt → FaultSrcSt) (s : State) : (srcMod i f s).otp = s.otp := rfl
@[simp] theorem srcMod_surv (i : Nat) (f : FaultSrcSt → FaultSrcSt) (s : State) : (srcMod i f s).surv = s.surv := rfl
@[simp] theorem srcMod_cfg (i : Nat) (f : FaultSrcSt → FaultSrcSt) (s : State) : (srcMod i f s).cfg = s.cfg := rfl
@[simp] theorem srcMod_mbx (i : Nat) (f : FaultSrcSt → FaultSrcSt) (s : State) : (srcMod i f s).mbx = s.mbx := rfl
@[simp] theorem srcMod_pcie (i : Nat) (f : FaultSrcSt → FaultSrcSt) (s : State) : (srcMod i f s).pcie = s.pcie := rfl
@[simp] theorem srcMod_spi (i : Nat) (f : FaultSrcSt → FaultSrcSt) (s : State) : (srcMod i f s).spi = s.spi := rfl
@[simp] theorem srcMod_flash (i : Nat) (f : FaultSrcSt → FaultSrcSt) (s : State) : (srcMod i f s).flash = s.flash := rfl
@[simp] theorem srcMod_hostLoad (i : Nat) (f : FaultSrcSt → FaultSrcSt) (s : State) : (srcMod i f s).hostLoad = s.hostLoad := rfl
@[simp] theorem srcMod_rf (i : Nat) (f : FaultSrcSt → FaultSrcSt) (s : State) : (srcMod i f s).rf = s.rf := rfl
@[simp] theorem srcMod_pending (i : Nat) (f : FaultSrcSt → FaultSrcSt) (s : State) : (srcMod i f s).pending = s.pending := rfl

/-! `refMod` changes `assay` only. -/
@[simp] theorem refMod_clk (n : Nat) (f : RefSt → RefSt) (s : State) : (refMod n f s).clk = s.clk := rfl
@[simp] theorem refMod_leap (n : Nat) (f : RefSt → RefSt) (s : State) : (refMod n f s).leap = s.leap := rfl
@[simp] theorem refMod_lode (n : Nat) (f : RefSt → RefSt) (s : State) : (refMod n f s).lode = s.lode := rfl
@[simp] theorem refMod_tally (n : Nat) (f : RefSt → RefSt) (s : State) : (refMod n f s).tally = s.tally := rfl
@[simp] theorem refMod_dial (n : Nat) (f : RefSt → RefSt) (s : State) : (refMod n f s).dial = s.dial := rfl
@[simp] theorem refMod_dayl (n : Nat) (f : RefSt → RefSt) (s : State) : (refMod n f s).dayl = s.dayl := rfl
@[simp] theorem refMod_outs (n : Nat) (f : RefSt → RefSt) (s : State) : (refMod n f s).outs = s.outs := rfl
@[simp] theorem refMod_prt (n : Nat) (f : RefSt → RefSt) (s : State) : (refMod n f s).prt = s.prt := rfl
@[simp] theorem refMod_gals (n : Nat) (f : RefSt → RefSt) (s : State) : (refMod n f s).gals = s.gals := rfl
@[simp] theorem refMod_picks (n : Nat) (f : RefSt → RefSt) (s : State) : (refMod n f s).picks = s.picks := rfl
@[simp] theorem refMod_shaft (n : Nat) (f : RefSt → RefSt) (s : State) : (refMod n f s).shaft = s.shaft := rfl
@[simp] theorem refMod_sess (n : Nat) (f : RefSt → RefSt) (s : State) : (refMod n f s).sess = s.sess := rfl
@[simp] theorem refMod_cry (n : Nat) (f : RefSt → RefSt) (s : State) : (refMod n f s).cry = s.cry := rfl
@[simp] theorem refMod_seam (n : Nat) (f : RefSt → RefSt) (s : State) : (refMod n f s).seam = s.seam := rfl
@[simp] theorem refMod_ptpRef (n : Nat) (f : RefSt → RefSt) (s : State) : (refMod n f s).ptpRef = s.ptpRef := rfl
@[simp] theorem refMod_haul (n : Nat) (f : RefSt → RefSt) (s : State) : (refMod n f s).haul = s.haul := rfl
@[simp] theorem refMod_wbr (n : Nat) (f : RefSt → RefSt) (s : State) : (refMod n f s).wbr = s.wbr := rfl
@[simp] theorem refMod_fault (n : Nat) (f : RefSt → RefSt) (s : State) : (refMod n f s).fault = s.fault := rfl
@[simp] theorem refMod_power (n : Nat) (f : RefSt → RefSt) (s : State) : (refMod n f s).power = s.power := rfl
@[simp] theorem refMod_otp (n : Nat) (f : RefSt → RefSt) (s : State) : (refMod n f s).otp = s.otp := rfl
@[simp] theorem refMod_surv (n : Nat) (f : RefSt → RefSt) (s : State) : (refMod n f s).surv = s.surv := rfl
@[simp] theorem refMod_cfg (n : Nat) (f : RefSt → RefSt) (s : State) : (refMod n f s).cfg = s.cfg := rfl
@[simp] theorem refMod_mbx (n : Nat) (f : RefSt → RefSt) (s : State) : (refMod n f s).mbx = s.mbx := rfl
@[simp] theorem refMod_pcie (n : Nat) (f : RefSt → RefSt) (s : State) : (refMod n f s).pcie = s.pcie := rfl
@[simp] theorem refMod_spi (n : Nat) (f : RefSt → RefSt) (s : State) : (refMod n f s).spi = s.spi := rfl
@[simp] theorem refMod_flash (n : Nat) (f : RefSt → RefSt) (s : State) : (refMod n f s).flash = s.flash := rfl
@[simp] theorem refMod_hostLoad (n : Nat) (f : RefSt → RefSt) (s : State) : (refMod n f s).hostLoad = s.hostLoad := rfl
@[simp] theorem refMod_rf (n : Nat) (f : RefSt → RefSt) (s : State) : (refMod n f s).rf = s.rf := rfl
@[simp] theorem refMod_pending (n : Nat) (f : RefSt → RefSt) (s : State) : (refMod n f s).pending = s.pending := rfl

/-! `gateMod` changes `tally` only. -/
@[simp] theorem gateMod_clk (n : Nat) (f : SeamGate → SeamGate) (s : State) : (gateMod n f s).clk = s.clk := rfl
@[simp] theorem gateMod_leap (n : Nat) (f : SeamGate → SeamGate) (s : State) : (gateMod n f s).leap = s.leap := rfl
@[simp] theorem gateMod_lode (n : Nat) (f : SeamGate → SeamGate) (s : State) : (gateMod n f s).lode = s.lode := rfl
@[simp] theorem gateMod_assay (n : Nat) (f : SeamGate → SeamGate) (s : State) : (gateMod n f s).assay = s.assay := rfl
@[simp] theorem gateMod_dial (n : Nat) (f : SeamGate → SeamGate) (s : State) : (gateMod n f s).dial = s.dial := rfl
@[simp] theorem gateMod_dayl (n : Nat) (f : SeamGate → SeamGate) (s : State) : (gateMod n f s).dayl = s.dayl := rfl
@[simp] theorem gateMod_outs (n : Nat) (f : SeamGate → SeamGate) (s : State) : (gateMod n f s).outs = s.outs := rfl
@[simp] theorem gateMod_prt (n : Nat) (f : SeamGate → SeamGate) (s : State) : (gateMod n f s).prt = s.prt := rfl
@[simp] theorem gateMod_gals (n : Nat) (f : SeamGate → SeamGate) (s : State) : (gateMod n f s).gals = s.gals := rfl
@[simp] theorem gateMod_picks (n : Nat) (f : SeamGate → SeamGate) (s : State) : (gateMod n f s).picks = s.picks := rfl
@[simp] theorem gateMod_shaft (n : Nat) (f : SeamGate → SeamGate) (s : State) : (gateMod n f s).shaft = s.shaft := rfl
@[simp] theorem gateMod_sess (n : Nat) (f : SeamGate → SeamGate) (s : State) : (gateMod n f s).sess = s.sess := rfl
@[simp] theorem gateMod_cry (n : Nat) (f : SeamGate → SeamGate) (s : State) : (gateMod n f s).cry = s.cry := rfl
@[simp] theorem gateMod_seam (n : Nat) (f : SeamGate → SeamGate) (s : State) : (gateMod n f s).seam = s.seam := rfl
@[simp] theorem gateMod_ptpRef (n : Nat) (f : SeamGate → SeamGate) (s : State) : (gateMod n f s).ptpRef = s.ptpRef := rfl
@[simp] theorem gateMod_haul (n : Nat) (f : SeamGate → SeamGate) (s : State) : (gateMod n f s).haul = s.haul := rfl
@[simp] theorem gateMod_wbr (n : Nat) (f : SeamGate → SeamGate) (s : State) : (gateMod n f s).wbr = s.wbr := rfl
@[simp] theorem gateMod_fault (n : Nat) (f : SeamGate → SeamGate) (s : State) : (gateMod n f s).fault = s.fault := rfl
@[simp] theorem gateMod_power (n : Nat) (f : SeamGate → SeamGate) (s : State) : (gateMod n f s).power = s.power := rfl
@[simp] theorem gateMod_otp (n : Nat) (f : SeamGate → SeamGate) (s : State) : (gateMod n f s).otp = s.otp := rfl
@[simp] theorem gateMod_surv (n : Nat) (f : SeamGate → SeamGate) (s : State) : (gateMod n f s).surv = s.surv := rfl
@[simp] theorem gateMod_cfg (n : Nat) (f : SeamGate → SeamGate) (s : State) : (gateMod n f s).cfg = s.cfg := rfl
@[simp] theorem gateMod_mbx (n : Nat) (f : SeamGate → SeamGate) (s : State) : (gateMod n f s).mbx = s.mbx := rfl
@[simp] theorem gateMod_pcie (n : Nat) (f : SeamGate → SeamGate) (s : State) : (gateMod n f s).pcie = s.pcie := rfl
@[simp] theorem gateMod_spi (n : Nat) (f : SeamGate → SeamGate) (s : State) : (gateMod n f s).spi = s.spi := rfl
@[simp] theorem gateMod_flash (n : Nat) (f : SeamGate → SeamGate) (s : State) : (gateMod n f s).flash = s.flash := rfl
@[simp] theorem gateMod_hostLoad (n : Nat) (f : SeamGate → SeamGate) (s : State) : (gateMod n f s).hostLoad = s.hostLoad := rfl
@[simp] theorem gateMod_rf (n : Nat) (f : SeamGate → SeamGate) (s : State) : (gateMod n f s).rf = s.rf := rfl
@[simp] theorem gateMod_pending (n : Nat) (f : SeamGate → SeamGate) (s : State) : (gateMod n f s).pending = s.pending := rfl

/-! `markTime` changes `assay` only. -/
@[simp] theorem markTime_clk (s : State) : (markTime s).clk = s.clk := rfl
@[simp] theorem markTime_leap (s : State) : (markTime s).leap = s.leap := rfl
@[simp] theorem markTime_lode (s : State) : (markTime s).lode = s.lode := rfl
@[simp] theorem markTime_tally (s : State) : (markTime s).tally = s.tally := rfl
@[simp] theorem markTime_dial (s : State) : (markTime s).dial = s.dial := rfl
@[simp] theorem markTime_dayl (s : State) : (markTime s).dayl = s.dayl := rfl
@[simp] theorem markTime_outs (s : State) : (markTime s).outs = s.outs := rfl
@[simp] theorem markTime_prt (s : State) : (markTime s).prt = s.prt := rfl
@[simp] theorem markTime_gals (s : State) : (markTime s).gals = s.gals := rfl
@[simp] theorem markTime_picks (s : State) : (markTime s).picks = s.picks := rfl
@[simp] theorem markTime_shaft (s : State) : (markTime s).shaft = s.shaft := rfl
@[simp] theorem markTime_sess (s : State) : (markTime s).sess = s.sess := rfl
@[simp] theorem markTime_cry (s : State) : (markTime s).cry = s.cry := rfl
@[simp] theorem markTime_seam (s : State) : (markTime s).seam = s.seam := rfl
@[simp] theorem markTime_ptpRef (s : State) : (markTime s).ptpRef = s.ptpRef := rfl
@[simp] theorem markTime_haul (s : State) : (markTime s).haul = s.haul := rfl
@[simp] theorem markTime_wbr (s : State) : (markTime s).wbr = s.wbr := rfl
@[simp] theorem markTime_fault (s : State) : (markTime s).fault = s.fault := rfl
@[simp] theorem markTime_power (s : State) : (markTime s).power = s.power := rfl
@[simp] theorem markTime_otp (s : State) : (markTime s).otp = s.otp := rfl
@[simp] theorem markTime_surv (s : State) : (markTime s).surv = s.surv := rfl
@[simp] theorem markTime_cfg (s : State) : (markTime s).cfg = s.cfg := rfl
@[simp] theorem markTime_mbx (s : State) : (markTime s).mbx = s.mbx := rfl
@[simp] theorem markTime_pcie (s : State) : (markTime s).pcie = s.pcie := rfl
@[simp] theorem markTime_spi (s : State) : (markTime s).spi = s.spi := rfl
@[simp] theorem markTime_flash (s : State) : (markTime s).flash = s.flash := rfl
@[simp] theorem markTime_hostLoad (s : State) : (markTime s).hostLoad = s.hostLoad := rfl
@[simp] theorem markTime_rf (s : State) : (markTime s).rf = s.rf := rfl
@[simp] theorem markTime_pending (s : State) : (markTime s).pending = s.pending := rfl

/-! `setInc` changes `clk` and `assay` only. -/
@[simp] theorem setInc_leap (v : Int) (s : State) : (setInc v s).leap = s.leap := rfl
@[simp] theorem setInc_lode (v : Int) (s : State) : (setInc v s).lode = s.lode := rfl
@[simp] theorem setInc_tally (v : Int) (s : State) : (setInc v s).tally = s.tally := rfl
@[simp] theorem setInc_dial (v : Int) (s : State) : (setInc v s).dial = s.dial := rfl
@[simp] theorem setInc_dayl (v : Int) (s : State) : (setInc v s).dayl = s.dayl := rfl
@[simp] theorem setInc_outs (v : Int) (s : State) : (setInc v s).outs = s.outs := rfl
@[simp] theorem setInc_prt (v : Int) (s : State) : (setInc v s).prt = s.prt := rfl
@[simp] theorem setInc_gals (v : Int) (s : State) : (setInc v s).gals = s.gals := rfl
@[simp] theorem setInc_picks (v : Int) (s : State) : (setInc v s).picks = s.picks := rfl
@[simp] theorem setInc_shaft (v : Int) (s : State) : (setInc v s).shaft = s.shaft := rfl
@[simp] theorem setInc_sess (v : Int) (s : State) : (setInc v s).sess = s.sess := rfl
@[simp] theorem setInc_cry (v : Int) (s : State) : (setInc v s).cry = s.cry := rfl
@[simp] theorem setInc_seam (v : Int) (s : State) : (setInc v s).seam = s.seam := rfl
@[simp] theorem setInc_ptpRef (v : Int) (s : State) : (setInc v s).ptpRef = s.ptpRef := rfl
@[simp] theorem setInc_haul (v : Int) (s : State) : (setInc v s).haul = s.haul := rfl
@[simp] theorem setInc_wbr (v : Int) (s : State) : (setInc v s).wbr = s.wbr := rfl
@[simp] theorem setInc_fault (v : Int) (s : State) : (setInc v s).fault = s.fault := rfl
@[simp] theorem setInc_power (v : Int) (s : State) : (setInc v s).power = s.power := rfl
@[simp] theorem setInc_otp (v : Int) (s : State) : (setInc v s).otp = s.otp := rfl
@[simp] theorem setInc_surv (v : Int) (s : State) : (setInc v s).surv = s.surv := rfl
@[simp] theorem setInc_cfg (v : Int) (s : State) : (setInc v s).cfg = s.cfg := rfl
@[simp] theorem setInc_mbx (v : Int) (s : State) : (setInc v s).mbx = s.mbx := rfl
@[simp] theorem setInc_pcie (v : Int) (s : State) : (setInc v s).pcie = s.pcie := rfl
@[simp] theorem setInc_spi (v : Int) (s : State) : (setInc v s).spi = s.spi := rfl
@[simp] theorem setInc_flash (v : Int) (s : State) : (setInc v s).flash = s.flash := rfl
@[simp] theorem setInc_hostLoad (v : Int) (s : State) : (setInc v s).hostLoad = s.hostLoad := rfl
@[simp] theorem setInc_rf (v : Int) (s : State) : (setInc v s).rf = s.rf := rfl
@[simp] theorem setInc_pending (v : Int) (s : State) : (setInc v s).pending = s.pending := rfl

/-! `antMod` changes `dayl` only. -/
@[simp] theorem antMod_clk (a : Nat) (f : AntSt → AntSt) (s : State) : (antMod a f s).clk = s.clk := rfl
@[simp] theorem antMod_leap (a : Nat) (f : AntSt → AntSt) (s : State) : (antMod a f s).leap = s.leap := rfl
@[simp] theorem antMod_lode (a : Nat) (f : AntSt → AntSt) (s : State) : (antMod a f s).lode = s.lode := rfl
@[simp] theorem antMod_assay (a : Nat) (f : AntSt → AntSt) (s : State) : (antMod a f s).assay = s.assay := rfl
@[simp] theorem antMod_tally (a : Nat) (f : AntSt → AntSt) (s : State) : (antMod a f s).tally = s.tally := rfl
@[simp] theorem antMod_dial (a : Nat) (f : AntSt → AntSt) (s : State) : (antMod a f s).dial = s.dial := rfl
@[simp] theorem antMod_outs (a : Nat) (f : AntSt → AntSt) (s : State) : (antMod a f s).outs = s.outs := rfl
@[simp] theorem antMod_prt (a : Nat) (f : AntSt → AntSt) (s : State) : (antMod a f s).prt = s.prt := rfl
@[simp] theorem antMod_gals (a : Nat) (f : AntSt → AntSt) (s : State) : (antMod a f s).gals = s.gals := rfl
@[simp] theorem antMod_picks (a : Nat) (f : AntSt → AntSt) (s : State) : (antMod a f s).picks = s.picks := rfl
@[simp] theorem antMod_shaft (a : Nat) (f : AntSt → AntSt) (s : State) : (antMod a f s).shaft = s.shaft := rfl
@[simp] theorem antMod_sess (a : Nat) (f : AntSt → AntSt) (s : State) : (antMod a f s).sess = s.sess := rfl
@[simp] theorem antMod_cry (a : Nat) (f : AntSt → AntSt) (s : State) : (antMod a f s).cry = s.cry := rfl
@[simp] theorem antMod_seam (a : Nat) (f : AntSt → AntSt) (s : State) : (antMod a f s).seam = s.seam := rfl
@[simp] theorem antMod_ptpRef (a : Nat) (f : AntSt → AntSt) (s : State) : (antMod a f s).ptpRef = s.ptpRef := rfl
@[simp] theorem antMod_haul (a : Nat) (f : AntSt → AntSt) (s : State) : (antMod a f s).haul = s.haul := rfl
@[simp] theorem antMod_wbr (a : Nat) (f : AntSt → AntSt) (s : State) : (antMod a f s).wbr = s.wbr := rfl
@[simp] theorem antMod_fault (a : Nat) (f : AntSt → AntSt) (s : State) : (antMod a f s).fault = s.fault := rfl
@[simp] theorem antMod_power (a : Nat) (f : AntSt → AntSt) (s : State) : (antMod a f s).power = s.power := rfl
@[simp] theorem antMod_otp (a : Nat) (f : AntSt → AntSt) (s : State) : (antMod a f s).otp = s.otp := rfl
@[simp] theorem antMod_surv (a : Nat) (f : AntSt → AntSt) (s : State) : (antMod a f s).surv = s.surv := rfl
@[simp] theorem antMod_cfg (a : Nat) (f : AntSt → AntSt) (s : State) : (antMod a f s).cfg = s.cfg := rfl
@[simp] theorem antMod_mbx (a : Nat) (f : AntSt → AntSt) (s : State) : (antMod a f s).mbx = s.mbx := rfl
@[simp] theorem antMod_pcie (a : Nat) (f : AntSt → AntSt) (s : State) : (antMod a f s).pcie = s.pcie := rfl
@[simp] theorem antMod_spi (a : Nat) (f : AntSt → AntSt) (s : State) : (antMod a f s).spi = s.spi := rfl
@[simp] theorem antMod_flash (a : Nat) (f : AntSt → AntSt) (s : State) : (antMod a f s).flash = s.flash := rfl
@[simp] theorem antMod_hostLoad (a : Nat) (f : AntSt → AntSt) (s : State) : (antMod a f s).hostLoad = s.hostLoad := rfl
@[simp] theorem antMod_rf (a : Nat) (f : AntSt → AntSt) (s : State) : (antMod a f s).rf = s.rf := rfl
@[simp] theorem antMod_pending (a : Nat) (f : AntSt → AntSt) (s : State) : (antMod a f s).pending = s.pending := rfl

/-! `dialMod` changes `dial` only. -/
@[simp] theorem dialMod_clk (n : Nat) (f : DialChSt → DialChSt) (s : State) : (dialMod n f s).clk = s.clk := rfl
@[simp] theorem dialMod_leap (n : Nat) (f : DialChSt → DialChSt) (s : State) : (dialMod n f s).leap = s.leap := rfl
@[simp] theorem dialMod_lode (n : Nat) (f : DialChSt → DialChSt) (s : State) : (dialMod n f s).lode = s.lode := rfl
@[simp] theorem dialMod_assay (n : Nat) (f : DialChSt → DialChSt) (s : State) : (dialMod n f s).assay = s.assay := rfl
@[simp] theorem dialMod_tally (n : Nat) (f : DialChSt → DialChSt) (s : State) : (dialMod n f s).tally = s.tally := rfl
@[simp] theorem dialMod_dayl (n : Nat) (f : DialChSt → DialChSt) (s : State) : (dialMod n f s).dayl = s.dayl := rfl
@[simp] theorem dialMod_outs (n : Nat) (f : DialChSt → DialChSt) (s : State) : (dialMod n f s).outs = s.outs := rfl
@[simp] theorem dialMod_prt (n : Nat) (f : DialChSt → DialChSt) (s : State) : (dialMod n f s).prt = s.prt := rfl
@[simp] theorem dialMod_gals (n : Nat) (f : DialChSt → DialChSt) (s : State) : (dialMod n f s).gals = s.gals := rfl
@[simp] theorem dialMod_picks (n : Nat) (f : DialChSt → DialChSt) (s : State) : (dialMod n f s).picks = s.picks := rfl
@[simp] theorem dialMod_shaft (n : Nat) (f : DialChSt → DialChSt) (s : State) : (dialMod n f s).shaft = s.shaft := rfl
@[simp] theorem dialMod_sess (n : Nat) (f : DialChSt → DialChSt) (s : State) : (dialMod n f s).sess = s.sess := rfl
@[simp] theorem dialMod_cry (n : Nat) (f : DialChSt → DialChSt) (s : State) : (dialMod n f s).cry = s.cry := rfl
@[simp] theorem dialMod_seam (n : Nat) (f : DialChSt → DialChSt) (s : State) : (dialMod n f s).seam = s.seam := rfl
@[simp] theorem dialMod_ptpRef (n : Nat) (f : DialChSt → DialChSt) (s : State) : (dialMod n f s).ptpRef = s.ptpRef := rfl
@[simp] theorem dialMod_haul (n : Nat) (f : DialChSt → DialChSt) (s : State) : (dialMod n f s).haul = s.haul := rfl
@[simp] theorem dialMod_wbr (n : Nat) (f : DialChSt → DialChSt) (s : State) : (dialMod n f s).wbr = s.wbr := rfl
@[simp] theorem dialMod_fault (n : Nat) (f : DialChSt → DialChSt) (s : State) : (dialMod n f s).fault = s.fault := rfl
@[simp] theorem dialMod_power (n : Nat) (f : DialChSt → DialChSt) (s : State) : (dialMod n f s).power = s.power := rfl
@[simp] theorem dialMod_otp (n : Nat) (f : DialChSt → DialChSt) (s : State) : (dialMod n f s).otp = s.otp := rfl
@[simp] theorem dialMod_surv (n : Nat) (f : DialChSt → DialChSt) (s : State) : (dialMod n f s).surv = s.surv := rfl
@[simp] theorem dialMod_cfg (n : Nat) (f : DialChSt → DialChSt) (s : State) : (dialMod n f s).cfg = s.cfg := rfl
@[simp] theorem dialMod_mbx (n : Nat) (f : DialChSt → DialChSt) (s : State) : (dialMod n f s).mbx = s.mbx := rfl
@[simp] theorem dialMod_pcie (n : Nat) (f : DialChSt → DialChSt) (s : State) : (dialMod n f s).pcie = s.pcie := rfl
@[simp] theorem dialMod_spi (n : Nat) (f : DialChSt → DialChSt) (s : State) : (dialMod n f s).spi = s.spi := rfl
@[simp] theorem dialMod_flash (n : Nat) (f : DialChSt → DialChSt) (s : State) : (dialMod n f s).flash = s.flash := rfl
@[simp] theorem dialMod_hostLoad (n : Nat) (f : DialChSt → DialChSt) (s : State) : (dialMod n f s).hostLoad = s.hostLoad := rfl
@[simp] theorem dialMod_rf (n : Nat) (f : DialChSt → DialChSt) (s : State) : (dialMod n f s).rf = s.rf := rfl
@[simp] theorem dialMod_pending (n : Nat) (f : DialChSt → DialChSt) (s : State) : (dialMod n f s).pending = s.pending := rfl

/-! `pickMod` changes `picks` only. -/
@[simp] theorem pickMod_clk (p : Nat) (f : PickSt → PickSt) (s : State) : (pickMod p f s).clk = s.clk := rfl
@[simp] theorem pickMod_leap (p : Nat) (f : PickSt → PickSt) (s : State) : (pickMod p f s).leap = s.leap := rfl
@[simp] theorem pickMod_lode (p : Nat) (f : PickSt → PickSt) (s : State) : (pickMod p f s).lode = s.lode := rfl
@[simp] theorem pickMod_assay (p : Nat) (f : PickSt → PickSt) (s : State) : (pickMod p f s).assay = s.assay := rfl
@[simp] theorem pickMod_tally (p : Nat) (f : PickSt → PickSt) (s : State) : (pickMod p f s).tally = s.tally := rfl
@[simp] theorem pickMod_dial (p : Nat) (f : PickSt → PickSt) (s : State) : (pickMod p f s).dial = s.dial := rfl
@[simp] theorem pickMod_dayl (p : Nat) (f : PickSt → PickSt) (s : State) : (pickMod p f s).dayl = s.dayl := rfl
@[simp] theorem pickMod_outs (p : Nat) (f : PickSt → PickSt) (s : State) : (pickMod p f s).outs = s.outs := rfl
@[simp] theorem pickMod_prt (p : Nat) (f : PickSt → PickSt) (s : State) : (pickMod p f s).prt = s.prt := rfl
@[simp] theorem pickMod_gals (p : Nat) (f : PickSt → PickSt) (s : State) : (pickMod p f s).gals = s.gals := rfl
@[simp] theorem pickMod_shaft (p : Nat) (f : PickSt → PickSt) (s : State) : (pickMod p f s).shaft = s.shaft := rfl
@[simp] theorem pickMod_sess (p : Nat) (f : PickSt → PickSt) (s : State) : (pickMod p f s).sess = s.sess := rfl
@[simp] theorem pickMod_cry (p : Nat) (f : PickSt → PickSt) (s : State) : (pickMod p f s).cry = s.cry := rfl
@[simp] theorem pickMod_seam (p : Nat) (f : PickSt → PickSt) (s : State) : (pickMod p f s).seam = s.seam := rfl
@[simp] theorem pickMod_ptpRef (p : Nat) (f : PickSt → PickSt) (s : State) : (pickMod p f s).ptpRef = s.ptpRef := rfl
@[simp] theorem pickMod_haul (p : Nat) (f : PickSt → PickSt) (s : State) : (pickMod p f s).haul = s.haul := rfl
@[simp] theorem pickMod_wbr (p : Nat) (f : PickSt → PickSt) (s : State) : (pickMod p f s).wbr = s.wbr := rfl
@[simp] theorem pickMod_fault (p : Nat) (f : PickSt → PickSt) (s : State) : (pickMod p f s).fault = s.fault := rfl
@[simp] theorem pickMod_power (p : Nat) (f : PickSt → PickSt) (s : State) : (pickMod p f s).power = s.power := rfl
@[simp] theorem pickMod_otp (p : Nat) (f : PickSt → PickSt) (s : State) : (pickMod p f s).otp = s.otp := rfl
@[simp] theorem pickMod_surv (p : Nat) (f : PickSt → PickSt) (s : State) : (pickMod p f s).surv = s.surv := rfl
@[simp] theorem pickMod_cfg (p : Nat) (f : PickSt → PickSt) (s : State) : (pickMod p f s).cfg = s.cfg := rfl
@[simp] theorem pickMod_mbx (p : Nat) (f : PickSt → PickSt) (s : State) : (pickMod p f s).mbx = s.mbx := rfl
@[simp] theorem pickMod_pcie (p : Nat) (f : PickSt → PickSt) (s : State) : (pickMod p f s).pcie = s.pcie := rfl
@[simp] theorem pickMod_spi (p : Nat) (f : PickSt → PickSt) (s : State) : (pickMod p f s).spi = s.spi := rfl
@[simp] theorem pickMod_flash (p : Nat) (f : PickSt → PickSt) (s : State) : (pickMod p f s).flash = s.flash := rfl
@[simp] theorem pickMod_hostLoad (p : Nat) (f : PickSt → PickSt) (s : State) : (pickMod p f s).hostLoad = s.hostLoad := rfl
@[simp] theorem pickMod_rf (p : Nat) (f : PickSt → PickSt) (s : State) : (pickMod p f s).rf = s.rf := rfl
@[simp] theorem pickMod_pending (p : Nat) (f : PickSt → PickSt) (s : State) : (pickMod p f s).pending = s.pending := rfl

/-! `galMod` changes `gals` only. -/
@[simp] theorem galMod_clk (g : Nat) (f : GalSt → GalSt) (s : State) : (galMod g f s).clk = s.clk := rfl
@[simp] theorem galMod_leap (g : Nat) (f : GalSt → GalSt) (s : State) : (galMod g f s).leap = s.leap := rfl
@[simp] theorem galMod_lode (g : Nat) (f : GalSt → GalSt) (s : State) : (galMod g f s).lode = s.lode := rfl
@[simp] theorem galMod_assay (g : Nat) (f : GalSt → GalSt) (s : State) : (galMod g f s).assay = s.assay := rfl
@[simp] theorem galMod_tally (g : Nat) (f : GalSt → GalSt) (s : State) : (galMod g f s).tally = s.tally := rfl
@[simp] theorem galMod_dial (g : Nat) (f : GalSt → GalSt) (s : State) : (galMod g f s).dial = s.dial := rfl
@[simp] theorem galMod_dayl (g : Nat) (f : GalSt → GalSt) (s : State) : (galMod g f s).dayl = s.dayl := rfl
@[simp] theorem galMod_outs (g : Nat) (f : GalSt → GalSt) (s : State) : (galMod g f s).outs = s.outs := rfl
@[simp] theorem galMod_prt (g : Nat) (f : GalSt → GalSt) (s : State) : (galMod g f s).prt = s.prt := rfl
@[simp] theorem galMod_picks (g : Nat) (f : GalSt → GalSt) (s : State) : (galMod g f s).picks = s.picks := rfl
@[simp] theorem galMod_shaft (g : Nat) (f : GalSt → GalSt) (s : State) : (galMod g f s).shaft = s.shaft := rfl
@[simp] theorem galMod_sess (g : Nat) (f : GalSt → GalSt) (s : State) : (galMod g f s).sess = s.sess := rfl
@[simp] theorem galMod_cry (g : Nat) (f : GalSt → GalSt) (s : State) : (galMod g f s).cry = s.cry := rfl
@[simp] theorem galMod_seam (g : Nat) (f : GalSt → GalSt) (s : State) : (galMod g f s).seam = s.seam := rfl
@[simp] theorem galMod_ptpRef (g : Nat) (f : GalSt → GalSt) (s : State) : (galMod g f s).ptpRef = s.ptpRef := rfl
@[simp] theorem galMod_haul (g : Nat) (f : GalSt → GalSt) (s : State) : (galMod g f s).haul = s.haul := rfl
@[simp] theorem galMod_wbr (g : Nat) (f : GalSt → GalSt) (s : State) : (galMod g f s).wbr = s.wbr := rfl
@[simp] theorem galMod_fault (g : Nat) (f : GalSt → GalSt) (s : State) : (galMod g f s).fault = s.fault := rfl
@[simp] theorem galMod_power (g : Nat) (f : GalSt → GalSt) (s : State) : (galMod g f s).power = s.power := rfl
@[simp] theorem galMod_otp (g : Nat) (f : GalSt → GalSt) (s : State) : (galMod g f s).otp = s.otp := rfl
@[simp] theorem galMod_surv (g : Nat) (f : GalSt → GalSt) (s : State) : (galMod g f s).surv = s.surv := rfl
@[simp] theorem galMod_cfg (g : Nat) (f : GalSt → GalSt) (s : State) : (galMod g f s).cfg = s.cfg := rfl
@[simp] theorem galMod_mbx (g : Nat) (f : GalSt → GalSt) (s : State) : (galMod g f s).mbx = s.mbx := rfl
@[simp] theorem galMod_pcie (g : Nat) (f : GalSt → GalSt) (s : State) : (galMod g f s).pcie = s.pcie := rfl
@[simp] theorem galMod_spi (g : Nat) (f : GalSt → GalSt) (s : State) : (galMod g f s).spi = s.spi := rfl
@[simp] theorem galMod_flash (g : Nat) (f : GalSt → GalSt) (s : State) : (galMod g f s).flash = s.flash := rfl
@[simp] theorem galMod_hostLoad (g : Nat) (f : GalSt → GalSt) (s : State) : (galMod g f s).hostLoad = s.hostLoad := rfl
@[simp] theorem galMod_rf (g : Nat) (f : GalSt → GalSt) (s : State) : (galMod g f s).rf = s.rf := rfl
@[simp] theorem galMod_pending (g : Nat) (f : GalSt → GalSt) (s : State) : (galMod g f s).pending = s.pending := rfl

/-! `hlinkMod` changes `haul` only. -/
@[simp] theorem hlinkMod_clk (k : Nat) (f : HLinkSt → HLinkSt) (s : State) : (hlinkMod k f s).clk = s.clk := rfl
@[simp] theorem hlinkMod_leap (k : Nat) (f : HLinkSt → HLinkSt) (s : State) : (hlinkMod k f s).leap = s.leap := rfl
@[simp] theorem hlinkMod_lode (k : Nat) (f : HLinkSt → HLinkSt) (s : State) : (hlinkMod k f s).lode = s.lode := rfl
@[simp] theorem hlinkMod_assay (k : Nat) (f : HLinkSt → HLinkSt) (s : State) : (hlinkMod k f s).assay = s.assay := rfl
@[simp] theorem hlinkMod_tally (k : Nat) (f : HLinkSt → HLinkSt) (s : State) : (hlinkMod k f s).tally = s.tally := rfl
@[simp] theorem hlinkMod_dial (k : Nat) (f : HLinkSt → HLinkSt) (s : State) : (hlinkMod k f s).dial = s.dial := rfl
@[simp] theorem hlinkMod_dayl (k : Nat) (f : HLinkSt → HLinkSt) (s : State) : (hlinkMod k f s).dayl = s.dayl := rfl
@[simp] theorem hlinkMod_outs (k : Nat) (f : HLinkSt → HLinkSt) (s : State) : (hlinkMod k f s).outs = s.outs := rfl
@[simp] theorem hlinkMod_prt (k : Nat) (f : HLinkSt → HLinkSt) (s : State) : (hlinkMod k f s).prt = s.prt := rfl
@[simp] theorem hlinkMod_gals (k : Nat) (f : HLinkSt → HLinkSt) (s : State) : (hlinkMod k f s).gals = s.gals := rfl
@[simp] theorem hlinkMod_picks (k : Nat) (f : HLinkSt → HLinkSt) (s : State) : (hlinkMod k f s).picks = s.picks := rfl
@[simp] theorem hlinkMod_shaft (k : Nat) (f : HLinkSt → HLinkSt) (s : State) : (hlinkMod k f s).shaft = s.shaft := rfl
@[simp] theorem hlinkMod_sess (k : Nat) (f : HLinkSt → HLinkSt) (s : State) : (hlinkMod k f s).sess = s.sess := rfl
@[simp] theorem hlinkMod_cry (k : Nat) (f : HLinkSt → HLinkSt) (s : State) : (hlinkMod k f s).cry = s.cry := rfl
@[simp] theorem hlinkMod_seam (k : Nat) (f : HLinkSt → HLinkSt) (s : State) : (hlinkMod k f s).seam = s.seam := rfl
@[simp] theorem hlinkMod_ptpRef (k : Nat) (f : HLinkSt → HLinkSt) (s : State) : (hlinkMod k f s).ptpRef = s.ptpRef := rfl
@[simp] theorem hlinkMod_wbr (k : Nat) (f : HLinkSt → HLinkSt) (s : State) : (hlinkMod k f s).wbr = s.wbr := rfl
@[simp] theorem hlinkMod_fault (k : Nat) (f : HLinkSt → HLinkSt) (s : State) : (hlinkMod k f s).fault = s.fault := rfl
@[simp] theorem hlinkMod_power (k : Nat) (f : HLinkSt → HLinkSt) (s : State) : (hlinkMod k f s).power = s.power := rfl
@[simp] theorem hlinkMod_otp (k : Nat) (f : HLinkSt → HLinkSt) (s : State) : (hlinkMod k f s).otp = s.otp := rfl
@[simp] theorem hlinkMod_surv (k : Nat) (f : HLinkSt → HLinkSt) (s : State) : (hlinkMod k f s).surv = s.surv := rfl
@[simp] theorem hlinkMod_cfg (k : Nat) (f : HLinkSt → HLinkSt) (s : State) : (hlinkMod k f s).cfg = s.cfg := rfl
@[simp] theorem hlinkMod_mbx (k : Nat) (f : HLinkSt → HLinkSt) (s : State) : (hlinkMod k f s).mbx = s.mbx := rfl
@[simp] theorem hlinkMod_pcie (k : Nat) (f : HLinkSt → HLinkSt) (s : State) : (hlinkMod k f s).pcie = s.pcie := rfl
@[simp] theorem hlinkMod_spi (k : Nat) (f : HLinkSt → HLinkSt) (s : State) : (hlinkMod k f s).spi = s.spi := rfl
@[simp] theorem hlinkMod_flash (k : Nat) (f : HLinkSt → HLinkSt) (s : State) : (hlinkMod k f s).flash = s.flash := rfl
@[simp] theorem hlinkMod_hostLoad (k : Nat) (f : HLinkSt → HLinkSt) (s : State) : (hlinkMod k f s).hostLoad = s.hostLoad := rfl
@[simp] theorem hlinkMod_rf (k : Nat) (f : HLinkSt → HLinkSt) (s : State) : (hlinkMod k f s).rf = s.rf := rfl
@[simp] theorem hlinkMod_pending (k : Nat) (f : HLinkSt → HLinkSt) (s : State) : (hlinkMod k f s).pending = s.pending := rfl

/-! `feedMod` changes `haul` only. -/
@[simp] theorem feedMod_clk (n : Nat) (f : FeedSt → FeedSt) (s : State) : (feedMod n f s).clk = s.clk := rfl
@[simp] theorem feedMod_leap (n : Nat) (f : FeedSt → FeedSt) (s : State) : (feedMod n f s).leap = s.leap := rfl
@[simp] theorem feedMod_lode (n : Nat) (f : FeedSt → FeedSt) (s : State) : (feedMod n f s).lode = s.lode := rfl
@[simp] theorem feedMod_assay (n : Nat) (f : FeedSt → FeedSt) (s : State) : (feedMod n f s).assay = s.assay := rfl
@[simp] theorem feedMod_tally (n : Nat) (f : FeedSt → FeedSt) (s : State) : (feedMod n f s).tally = s.tally := rfl
@[simp] theorem feedMod_dial (n : Nat) (f : FeedSt → FeedSt) (s : State) : (feedMod n f s).dial = s.dial := rfl
@[simp] theorem feedMod_dayl (n : Nat) (f : FeedSt → FeedSt) (s : State) : (feedMod n f s).dayl = s.dayl := rfl
@[simp] theorem feedMod_outs (n : Nat) (f : FeedSt → FeedSt) (s : State) : (feedMod n f s).outs = s.outs := rfl
@[simp] theorem feedMod_prt (n : Nat) (f : FeedSt → FeedSt) (s : State) : (feedMod n f s).prt = s.prt := rfl
@[simp] theorem feedMod_gals (n : Nat) (f : FeedSt → FeedSt) (s : State) : (feedMod n f s).gals = s.gals := rfl
@[simp] theorem feedMod_picks (n : Nat) (f : FeedSt → FeedSt) (s : State) : (feedMod n f s).picks = s.picks := rfl
@[simp] theorem feedMod_shaft (n : Nat) (f : FeedSt → FeedSt) (s : State) : (feedMod n f s).shaft = s.shaft := rfl
@[simp] theorem feedMod_sess (n : Nat) (f : FeedSt → FeedSt) (s : State) : (feedMod n f s).sess = s.sess := rfl
@[simp] theorem feedMod_cry (n : Nat) (f : FeedSt → FeedSt) (s : State) : (feedMod n f s).cry = s.cry := rfl
@[simp] theorem feedMod_seam (n : Nat) (f : FeedSt → FeedSt) (s : State) : (feedMod n f s).seam = s.seam := rfl
@[simp] theorem feedMod_ptpRef (n : Nat) (f : FeedSt → FeedSt) (s : State) : (feedMod n f s).ptpRef = s.ptpRef := rfl
@[simp] theorem feedMod_wbr (n : Nat) (f : FeedSt → FeedSt) (s : State) : (feedMod n f s).wbr = s.wbr := rfl
@[simp] theorem feedMod_fault (n : Nat) (f : FeedSt → FeedSt) (s : State) : (feedMod n f s).fault = s.fault := rfl
@[simp] theorem feedMod_power (n : Nat) (f : FeedSt → FeedSt) (s : State) : (feedMod n f s).power = s.power := rfl
@[simp] theorem feedMod_otp (n : Nat) (f : FeedSt → FeedSt) (s : State) : (feedMod n f s).otp = s.otp := rfl
@[simp] theorem feedMod_surv (n : Nat) (f : FeedSt → FeedSt) (s : State) : (feedMod n f s).surv = s.surv := rfl
@[simp] theorem feedMod_cfg (n : Nat) (f : FeedSt → FeedSt) (s : State) : (feedMod n f s).cfg = s.cfg := rfl
@[simp] theorem feedMod_mbx (n : Nat) (f : FeedSt → FeedSt) (s : State) : (feedMod n f s).mbx = s.mbx := rfl
@[simp] theorem feedMod_pcie (n : Nat) (f : FeedSt → FeedSt) (s : State) : (feedMod n f s).pcie = s.pcie := rfl
@[simp] theorem feedMod_spi (n : Nat) (f : FeedSt → FeedSt) (s : State) : (feedMod n f s).spi = s.spi := rfl
@[simp] theorem feedMod_flash (n : Nat) (f : FeedSt → FeedSt) (s : State) : (feedMod n f s).flash = s.flash := rfl
@[simp] theorem feedMod_hostLoad (n : Nat) (f : FeedSt → FeedSt) (s : State) : (feedMod n f s).hostLoad = s.hostLoad := rfl
@[simp] theorem feedMod_rf (n : Nat) (f : FeedSt → FeedSt) (s : State) : (feedMod n f s).rf = s.rf := rfl
@[simp] theorem feedMod_pending (n : Nat) (f : FeedSt → FeedSt) (s : State) : (feedMod n f s).pending = s.pending := rfl

/-! `snapMod` changes `haul` only. -/
@[simp] theorem snapMod_clk (f : SnapSt → SnapSt) (s : State) : (snapMod f s).clk = s.clk := rfl
@[simp] theorem snapMod_leap (f : SnapSt → SnapSt) (s : State) : (snapMod f s).leap = s.leap := rfl
@[simp] theorem snapMod_lode (f : SnapSt → SnapSt) (s : State) : (snapMod f s).lode = s.lode := rfl
@[simp] theorem snapMod_assay (f : SnapSt → SnapSt) (s : State) : (snapMod f s).assay = s.assay := rfl
@[simp] theorem snapMod_tally (f : SnapSt → SnapSt) (s : State) : (snapMod f s).tally = s.tally := rfl
@[simp] theorem snapMod_dial (f : SnapSt → SnapSt) (s : State) : (snapMod f s).dial = s.dial := rfl
@[simp] theorem snapMod_dayl (f : SnapSt → SnapSt) (s : State) : (snapMod f s).dayl = s.dayl := rfl
@[simp] theorem snapMod_outs (f : SnapSt → SnapSt) (s : State) : (snapMod f s).outs = s.outs := rfl
@[simp] theorem snapMod_prt (f : SnapSt → SnapSt) (s : State) : (snapMod f s).prt = s.prt := rfl
@[simp] theorem snapMod_gals (f : SnapSt → SnapSt) (s : State) : (snapMod f s).gals = s.gals := rfl
@[simp] theorem snapMod_picks (f : SnapSt → SnapSt) (s : State) : (snapMod f s).picks = s.picks := rfl
@[simp] theorem snapMod_shaft (f : SnapSt → SnapSt) (s : State) : (snapMod f s).shaft = s.shaft := rfl
@[simp] theorem snapMod_sess (f : SnapSt → SnapSt) (s : State) : (snapMod f s).sess = s.sess := rfl
@[simp] theorem snapMod_cry (f : SnapSt → SnapSt) (s : State) : (snapMod f s).cry = s.cry := rfl
@[simp] theorem snapMod_seam (f : SnapSt → SnapSt) (s : State) : (snapMod f s).seam = s.seam := rfl
@[simp] theorem snapMod_ptpRef (f : SnapSt → SnapSt) (s : State) : (snapMod f s).ptpRef = s.ptpRef := rfl
@[simp] theorem snapMod_wbr (f : SnapSt → SnapSt) (s : State) : (snapMod f s).wbr = s.wbr := rfl
@[simp] theorem snapMod_fault (f : SnapSt → SnapSt) (s : State) : (snapMod f s).fault = s.fault := rfl
@[simp] theorem snapMod_power (f : SnapSt → SnapSt) (s : State) : (snapMod f s).power = s.power := rfl
@[simp] theorem snapMod_otp (f : SnapSt → SnapSt) (s : State) : (snapMod f s).otp = s.otp := rfl
@[simp] theorem snapMod_surv (f : SnapSt → SnapSt) (s : State) : (snapMod f s).surv = s.surv := rfl
@[simp] theorem snapMod_cfg (f : SnapSt → SnapSt) (s : State) : (snapMod f s).cfg = s.cfg := rfl
@[simp] theorem snapMod_mbx (f : SnapSt → SnapSt) (s : State) : (snapMod f s).mbx = s.mbx := rfl
@[simp] theorem snapMod_pcie (f : SnapSt → SnapSt) (s : State) : (snapMod f s).pcie = s.pcie := rfl
@[simp] theorem snapMod_spi (f : SnapSt → SnapSt) (s : State) : (snapMod f s).spi = s.spi := rfl
@[simp] theorem snapMod_flash (f : SnapSt → SnapSt) (s : State) : (snapMod f s).flash = s.flash := rfl
@[simp] theorem snapMod_hostLoad (f : SnapSt → SnapSt) (s : State) : (snapMod f s).hostLoad = s.hostLoad := rfl
@[simp] theorem snapMod_rf (f : SnapSt → SnapSt) (s : State) : (snapMod f s).rf = s.rf := rfl
@[simp] theorem snapMod_pending (f : SnapSt → SnapSt) (s : State) : (snapMod f s).pending = s.pending := rfl

/-! `twinMod` changes `haul` only. -/
@[simp] theorem twinMod_clk (f : TwinSt → TwinSt) (s : State) : (twinMod f s).clk = s.clk := rfl
@[simp] theorem twinMod_leap (f : TwinSt → TwinSt) (s : State) : (twinMod f s).leap = s.leap := rfl
@[simp] theorem twinMod_lode (f : TwinSt → TwinSt) (s : State) : (twinMod f s).lode = s.lode := rfl
@[simp] theorem twinMod_assay (f : TwinSt → TwinSt) (s : State) : (twinMod f s).assay = s.assay := rfl
@[simp] theorem twinMod_tally (f : TwinSt → TwinSt) (s : State) : (twinMod f s).tally = s.tally := rfl
@[simp] theorem twinMod_dial (f : TwinSt → TwinSt) (s : State) : (twinMod f s).dial = s.dial := rfl
@[simp] theorem twinMod_dayl (f : TwinSt → TwinSt) (s : State) : (twinMod f s).dayl = s.dayl := rfl
@[simp] theorem twinMod_outs (f : TwinSt → TwinSt) (s : State) : (twinMod f s).outs = s.outs := rfl
@[simp] theorem twinMod_prt (f : TwinSt → TwinSt) (s : State) : (twinMod f s).prt = s.prt := rfl
@[simp] theorem twinMod_gals (f : TwinSt → TwinSt) (s : State) : (twinMod f s).gals = s.gals := rfl
@[simp] theorem twinMod_picks (f : TwinSt → TwinSt) (s : State) : (twinMod f s).picks = s.picks := rfl
@[simp] theorem twinMod_shaft (f : TwinSt → TwinSt) (s : State) : (twinMod f s).shaft = s.shaft := rfl
@[simp] theorem twinMod_sess (f : TwinSt → TwinSt) (s : State) : (twinMod f s).sess = s.sess := rfl
@[simp] theorem twinMod_cry (f : TwinSt → TwinSt) (s : State) : (twinMod f s).cry = s.cry := rfl
@[simp] theorem twinMod_seam (f : TwinSt → TwinSt) (s : State) : (twinMod f s).seam = s.seam := rfl
@[simp] theorem twinMod_ptpRef (f : TwinSt → TwinSt) (s : State) : (twinMod f s).ptpRef = s.ptpRef := rfl
@[simp] theorem twinMod_wbr (f : TwinSt → TwinSt) (s : State) : (twinMod f s).wbr = s.wbr := rfl
@[simp] theorem twinMod_fault (f : TwinSt → TwinSt) (s : State) : (twinMod f s).fault = s.fault := rfl
@[simp] theorem twinMod_power (f : TwinSt → TwinSt) (s : State) : (twinMod f s).power = s.power := rfl
@[simp] theorem twinMod_otp (f : TwinSt → TwinSt) (s : State) : (twinMod f s).otp = s.otp := rfl
@[simp] theorem twinMod_surv (f : TwinSt → TwinSt) (s : State) : (twinMod f s).surv = s.surv := rfl
@[simp] theorem twinMod_cfg (f : TwinSt → TwinSt) (s : State) : (twinMod f s).cfg = s.cfg := rfl
@[simp] theorem twinMod_mbx (f : TwinSt → TwinSt) (s : State) : (twinMod f s).mbx = s.mbx := rfl
@[simp] theorem twinMod_pcie (f : TwinSt → TwinSt) (s : State) : (twinMod f s).pcie = s.pcie := rfl
@[simp] theorem twinMod_spi (f : TwinSt → TwinSt) (s : State) : (twinMod f s).spi = s.spi := rfl
@[simp] theorem twinMod_flash (f : TwinSt → TwinSt) (s : State) : (twinMod f s).flash = s.flash := rfl
@[simp] theorem twinMod_hostLoad (f : TwinSt → TwinSt) (s : State) : (twinMod f s).hostLoad = s.hostLoad := rfl
@[simp] theorem twinMod_rf (f : TwinSt → TwinSt) (s : State) : (twinMod f s).rf = s.rf := rfl
@[simp] theorem twinMod_pending (f : TwinSt → TwinSt) (s : State) : (twinMod f s).pending = s.pending := rfl

/-! `synMod` changes `outs` only. -/
@[simp] theorem synMod_clk (n : Nat) (f : SynSt → SynSt) (s : State) : (synMod n f s).clk = s.clk := rfl
@[simp] theorem synMod_leap (n : Nat) (f : SynSt → SynSt) (s : State) : (synMod n f s).leap = s.leap := rfl
@[simp] theorem synMod_lode (n : Nat) (f : SynSt → SynSt) (s : State) : (synMod n f s).lode = s.lode := rfl
@[simp] theorem synMod_assay (n : Nat) (f : SynSt → SynSt) (s : State) : (synMod n f s).assay = s.assay := rfl
@[simp] theorem synMod_tally (n : Nat) (f : SynSt → SynSt) (s : State) : (synMod n f s).tally = s.tally := rfl
@[simp] theorem synMod_dial (n : Nat) (f : SynSt → SynSt) (s : State) : (synMod n f s).dial = s.dial := rfl
@[simp] theorem synMod_dayl (n : Nat) (f : SynSt → SynSt) (s : State) : (synMod n f s).dayl = s.dayl := rfl
@[simp] theorem synMod_prt (n : Nat) (f : SynSt → SynSt) (s : State) : (synMod n f s).prt = s.prt := rfl
@[simp] theorem synMod_gals (n : Nat) (f : SynSt → SynSt) (s : State) : (synMod n f s).gals = s.gals := rfl
@[simp] theorem synMod_picks (n : Nat) (f : SynSt → SynSt) (s : State) : (synMod n f s).picks = s.picks := rfl
@[simp] theorem synMod_shaft (n : Nat) (f : SynSt → SynSt) (s : State) : (synMod n f s).shaft = s.shaft := rfl
@[simp] theorem synMod_sess (n : Nat) (f : SynSt → SynSt) (s : State) : (synMod n f s).sess = s.sess := rfl
@[simp] theorem synMod_cry (n : Nat) (f : SynSt → SynSt) (s : State) : (synMod n f s).cry = s.cry := rfl
@[simp] theorem synMod_seam (n : Nat) (f : SynSt → SynSt) (s : State) : (synMod n f s).seam = s.seam := rfl
@[simp] theorem synMod_ptpRef (n : Nat) (f : SynSt → SynSt) (s : State) : (synMod n f s).ptpRef = s.ptpRef := rfl
@[simp] theorem synMod_haul (n : Nat) (f : SynSt → SynSt) (s : State) : (synMod n f s).haul = s.haul := rfl
@[simp] theorem synMod_wbr (n : Nat) (f : SynSt → SynSt) (s : State) : (synMod n f s).wbr = s.wbr := rfl
@[simp] theorem synMod_fault (n : Nat) (f : SynSt → SynSt) (s : State) : (synMod n f s).fault = s.fault := rfl
@[simp] theorem synMod_power (n : Nat) (f : SynSt → SynSt) (s : State) : (synMod n f s).power = s.power := rfl
@[simp] theorem synMod_otp (n : Nat) (f : SynSt → SynSt) (s : State) : (synMod n f s).otp = s.otp := rfl
@[simp] theorem synMod_surv (n : Nat) (f : SynSt → SynSt) (s : State) : (synMod n f s).surv = s.surv := rfl
@[simp] theorem synMod_cfg (n : Nat) (f : SynSt → SynSt) (s : State) : (synMod n f s).cfg = s.cfg := rfl
@[simp] theorem synMod_mbx (n : Nat) (f : SynSt → SynSt) (s : State) : (synMod n f s).mbx = s.mbx := rfl
@[simp] theorem synMod_pcie (n : Nat) (f : SynSt → SynSt) (s : State) : (synMod n f s).pcie = s.pcie := rfl
@[simp] theorem synMod_spi (n : Nat) (f : SynSt → SynSt) (s : State) : (synMod n f s).spi = s.spi := rfl
@[simp] theorem synMod_flash (n : Nat) (f : SynSt → SynSt) (s : State) : (synMod n f s).flash = s.flash := rfl
@[simp] theorem synMod_hostLoad (n : Nat) (f : SynSt → SynSt) (s : State) : (synMod n f s).hostLoad = s.hostLoad := rfl
@[simp] theorem synMod_rf (n : Nat) (f : SynSt → SynSt) (s : State) : (synMod n f s).rf = s.rf := rfl
@[simp] theorem synMod_pending (n : Nat) (f : SynSt → SynSt) (s : State) : (synMod n f s).pending = s.pending := rfl

/-! `outMod` changes `outs` only. -/
@[simp] theorem outMod_clk (m : Nat) (f : OutSt → OutSt) (s : State) : (outMod m f s).clk = s.clk := rfl
@[simp] theorem outMod_leap (m : Nat) (f : OutSt → OutSt) (s : State) : (outMod m f s).leap = s.leap := rfl
@[simp] theorem outMod_lode (m : Nat) (f : OutSt → OutSt) (s : State) : (outMod m f s).lode = s.lode := rfl
@[simp] theorem outMod_assay (m : Nat) (f : OutSt → OutSt) (s : State) : (outMod m f s).assay = s.assay := rfl
@[simp] theorem outMod_tally (m : Nat) (f : OutSt → OutSt) (s : State) : (outMod m f s).tally = s.tally := rfl
@[simp] theorem outMod_dial (m : Nat) (f : OutSt → OutSt) (s : State) : (outMod m f s).dial = s.dial := rfl
@[simp] theorem outMod_dayl (m : Nat) (f : OutSt → OutSt) (s : State) : (outMod m f s).dayl = s.dayl := rfl
@[simp] theorem outMod_prt (m : Nat) (f : OutSt → OutSt) (s : State) : (outMod m f s).prt = s.prt := rfl
@[simp] theorem outMod_gals (m : Nat) (f : OutSt → OutSt) (s : State) : (outMod m f s).gals = s.gals := rfl
@[simp] theorem outMod_picks (m : Nat) (f : OutSt → OutSt) (s : State) : (outMod m f s).picks = s.picks := rfl
@[simp] theorem outMod_shaft (m : Nat) (f : OutSt → OutSt) (s : State) : (outMod m f s).shaft = s.shaft := rfl
@[simp] theorem outMod_sess (m : Nat) (f : OutSt → OutSt) (s : State) : (outMod m f s).sess = s.sess := rfl
@[simp] theorem outMod_cry (m : Nat) (f : OutSt → OutSt) (s : State) : (outMod m f s).cry = s.cry := rfl
@[simp] theorem outMod_seam (m : Nat) (f : OutSt → OutSt) (s : State) : (outMod m f s).seam = s.seam := rfl
@[simp] theorem outMod_ptpRef (m : Nat) (f : OutSt → OutSt) (s : State) : (outMod m f s).ptpRef = s.ptpRef := rfl
@[simp] theorem outMod_haul (m : Nat) (f : OutSt → OutSt) (s : State) : (outMod m f s).haul = s.haul := rfl
@[simp] theorem outMod_wbr (m : Nat) (f : OutSt → OutSt) (s : State) : (outMod m f s).wbr = s.wbr := rfl
@[simp] theorem outMod_fault (m : Nat) (f : OutSt → OutSt) (s : State) : (outMod m f s).fault = s.fault := rfl
@[simp] theorem outMod_power (m : Nat) (f : OutSt → OutSt) (s : State) : (outMod m f s).power = s.power := rfl
@[simp] theorem outMod_otp (m : Nat) (f : OutSt → OutSt) (s : State) : (outMod m f s).otp = s.otp := rfl
@[simp] theorem outMod_surv (m : Nat) (f : OutSt → OutSt) (s : State) : (outMod m f s).surv = s.surv := rfl
@[simp] theorem outMod_cfg (m : Nat) (f : OutSt → OutSt) (s : State) : (outMod m f s).cfg = s.cfg := rfl
@[simp] theorem outMod_mbx (m : Nat) (f : OutSt → OutSt) (s : State) : (outMod m f s).mbx = s.mbx := rfl
@[simp] theorem outMod_pcie (m : Nat) (f : OutSt → OutSt) (s : State) : (outMod m f s).pcie = s.pcie := rfl
@[simp] theorem outMod_spi (m : Nat) (f : OutSt → OutSt) (s : State) : (outMod m f s).spi = s.spi := rfl
@[simp] theorem outMod_flash (m : Nat) (f : OutSt → OutSt) (s : State) : (outMod m f s).flash = s.flash := rfl
@[simp] theorem outMod_hostLoad (m : Nat) (f : OutSt → OutSt) (s : State) : (outMod m f s).hostLoad = s.hostLoad := rfl
@[simp] theorem outMod_rf (m : Nat) (f : OutSt → OutSt) (s : State) : (outMod m f s).rf = s.rf := rfl
@[simp] theorem outMod_pending (m : Nat) (f : OutSt → OutSt) (s : State) : (outMod m f s).pending = s.pending := rfl

/-! `evMod` changes `outs` only. -/
@[simp] theorem evMod_clk (p : Nat) (f : EvSt → EvSt) (s : State) : (evMod p f s).clk = s.clk := rfl
@[simp] theorem evMod_leap (p : Nat) (f : EvSt → EvSt) (s : State) : (evMod p f s).leap = s.leap := rfl
@[simp] theorem evMod_lode (p : Nat) (f : EvSt → EvSt) (s : State) : (evMod p f s).lode = s.lode := rfl
@[simp] theorem evMod_assay (p : Nat) (f : EvSt → EvSt) (s : State) : (evMod p f s).assay = s.assay := rfl
@[simp] theorem evMod_tally (p : Nat) (f : EvSt → EvSt) (s : State) : (evMod p f s).tally = s.tally := rfl
@[simp] theorem evMod_dial (p : Nat) (f : EvSt → EvSt) (s : State) : (evMod p f s).dial = s.dial := rfl
@[simp] theorem evMod_dayl (p : Nat) (f : EvSt → EvSt) (s : State) : (evMod p f s).dayl = s.dayl := rfl
@[simp] theorem evMod_prt (p : Nat) (f : EvSt → EvSt) (s : State) : (evMod p f s).prt = s.prt := rfl
@[simp] theorem evMod_gals (p : Nat) (f : EvSt → EvSt) (s : State) : (evMod p f s).gals = s.gals := rfl
@[simp] theorem evMod_picks (p : Nat) (f : EvSt → EvSt) (s : State) : (evMod p f s).picks = s.picks := rfl
@[simp] theorem evMod_shaft (p : Nat) (f : EvSt → EvSt) (s : State) : (evMod p f s).shaft = s.shaft := rfl
@[simp] theorem evMod_sess (p : Nat) (f : EvSt → EvSt) (s : State) : (evMod p f s).sess = s.sess := rfl
@[simp] theorem evMod_cry (p : Nat) (f : EvSt → EvSt) (s : State) : (evMod p f s).cry = s.cry := rfl
@[simp] theorem evMod_seam (p : Nat) (f : EvSt → EvSt) (s : State) : (evMod p f s).seam = s.seam := rfl
@[simp] theorem evMod_ptpRef (p : Nat) (f : EvSt → EvSt) (s : State) : (evMod p f s).ptpRef = s.ptpRef := rfl
@[simp] theorem evMod_haul (p : Nat) (f : EvSt → EvSt) (s : State) : (evMod p f s).haul = s.haul := rfl
@[simp] theorem evMod_wbr (p : Nat) (f : EvSt → EvSt) (s : State) : (evMod p f s).wbr = s.wbr := rfl
@[simp] theorem evMod_fault (p : Nat) (f : EvSt → EvSt) (s : State) : (evMod p f s).fault = s.fault := rfl
@[simp] theorem evMod_power (p : Nat) (f : EvSt → EvSt) (s : State) : (evMod p f s).power = s.power := rfl
@[simp] theorem evMod_otp (p : Nat) (f : EvSt → EvSt) (s : State) : (evMod p f s).otp = s.otp := rfl
@[simp] theorem evMod_surv (p : Nat) (f : EvSt → EvSt) (s : State) : (evMod p f s).surv = s.surv := rfl
@[simp] theorem evMod_cfg (p : Nat) (f : EvSt → EvSt) (s : State) : (evMod p f s).cfg = s.cfg := rfl
@[simp] theorem evMod_mbx (p : Nat) (f : EvSt → EvSt) (s : State) : (evMod p f s).mbx = s.mbx := rfl
@[simp] theorem evMod_pcie (p : Nat) (f : EvSt → EvSt) (s : State) : (evMod p f s).pcie = s.pcie := rfl
@[simp] theorem evMod_spi (p : Nat) (f : EvSt → EvSt) (s : State) : (evMod p f s).spi = s.spi := rfl
@[simp] theorem evMod_flash (p : Nat) (f : EvSt → EvSt) (s : State) : (evMod p f s).flash = s.flash := rfl
@[simp] theorem evMod_hostLoad (p : Nat) (f : EvSt → EvSt) (s : State) : (evMod p f s).hostLoad = s.hostLoad := rfl
@[simp] theorem evMod_rf (p : Nat) (f : EvSt → EvSt) (s : State) : (evMod p f s).rf = s.rf := rfl
@[simp] theorem evMod_pending (p : Nat) (f : EvSt → EvSt) (s : State) : (evMod p f s).pending = s.pending := rfl

/-! `portMod` changes `prt` only. -/
@[simp] theorem portMod_clk (p : Nat) (f : PortSt → PortSt) (s : State) : (portMod p f s).clk = s.clk := rfl
@[simp] theorem portMod_leap (p : Nat) (f : PortSt → PortSt) (s : State) : (portMod p f s).leap = s.leap := rfl
@[simp] theorem portMod_lode (p : Nat) (f : PortSt → PortSt) (s : State) : (portMod p f s).lode = s.lode := rfl
@[simp] theorem portMod_assay (p : Nat) (f : PortSt → PortSt) (s : State) : (portMod p f s).assay = s.assay := rfl
@[simp] theorem portMod_tally (p : Nat) (f : PortSt → PortSt) (s : State) : (portMod p f s).tally = s.tally := rfl
@[simp] theorem portMod_dial (p : Nat) (f : PortSt → PortSt) (s : State) : (portMod p f s).dial = s.dial := rfl
@[simp] theorem portMod_dayl (p : Nat) (f : PortSt → PortSt) (s : State) : (portMod p f s).dayl = s.dayl := rfl
@[simp] theorem portMod_outs (p : Nat) (f : PortSt → PortSt) (s : State) : (portMod p f s).outs = s.outs := rfl
@[simp] theorem portMod_gals (p : Nat) (f : PortSt → PortSt) (s : State) : (portMod p f s).gals = s.gals := rfl
@[simp] theorem portMod_picks (p : Nat) (f : PortSt → PortSt) (s : State) : (portMod p f s).picks = s.picks := rfl
@[simp] theorem portMod_shaft (p : Nat) (f : PortSt → PortSt) (s : State) : (portMod p f s).shaft = s.shaft := rfl
@[simp] theorem portMod_sess (p : Nat) (f : PortSt → PortSt) (s : State) : (portMod p f s).sess = s.sess := rfl
@[simp] theorem portMod_cry (p : Nat) (f : PortSt → PortSt) (s : State) : (portMod p f s).cry = s.cry := rfl
@[simp] theorem portMod_seam (p : Nat) (f : PortSt → PortSt) (s : State) : (portMod p f s).seam = s.seam := rfl
@[simp] theorem portMod_ptpRef (p : Nat) (f : PortSt → PortSt) (s : State) : (portMod p f s).ptpRef = s.ptpRef := rfl
@[simp] theorem portMod_haul (p : Nat) (f : PortSt → PortSt) (s : State) : (portMod p f s).haul = s.haul := rfl
@[simp] theorem portMod_wbr (p : Nat) (f : PortSt → PortSt) (s : State) : (portMod p f s).wbr = s.wbr := rfl
@[simp] theorem portMod_fault (p : Nat) (f : PortSt → PortSt) (s : State) : (portMod p f s).fault = s.fault := rfl
@[simp] theorem portMod_power (p : Nat) (f : PortSt → PortSt) (s : State) : (portMod p f s).power = s.power := rfl
@[simp] theorem portMod_otp (p : Nat) (f : PortSt → PortSt) (s : State) : (portMod p f s).otp = s.otp := rfl
@[simp] theorem portMod_surv (p : Nat) (f : PortSt → PortSt) (s : State) : (portMod p f s).surv = s.surv := rfl
@[simp] theorem portMod_cfg (p : Nat) (f : PortSt → PortSt) (s : State) : (portMod p f s).cfg = s.cfg := rfl
@[simp] theorem portMod_mbx (p : Nat) (f : PortSt → PortSt) (s : State) : (portMod p f s).mbx = s.mbx := rfl
@[simp] theorem portMod_pcie (p : Nat) (f : PortSt → PortSt) (s : State) : (portMod p f s).pcie = s.pcie := rfl
@[simp] theorem portMod_spi (p : Nat) (f : PortSt → PortSt) (s : State) : (portMod p f s).spi = s.spi := rfl
@[simp] theorem portMod_flash (p : Nat) (f : PortSt → PortSt) (s : State) : (portMod p f s).flash = s.flash := rfl
@[simp] theorem portMod_hostLoad (p : Nat) (f : PortSt → PortSt) (s : State) : (portMod p f s).hostLoad = s.hostLoad := rfl
@[simp] theorem portMod_rf (p : Nat) (f : PortSt → PortSt) (s : State) : (portMod p f s).rf = s.rf := rfl
@[simp] theorem portMod_pending (p : Nat) (f : PortSt → PortSt) (s : State) : (portMod p f s).pending = s.pending := rfl

/-! `txMod` changes `prt` only. -/
@[simp] theorem txMod_clk (p seq : Nat) (f : TxFrame → TxFrame) (s : State) : (txMod p seq f s).clk = s.clk := rfl
@[simp] theorem txMod_leap (p seq : Nat) (f : TxFrame → TxFrame) (s : State) : (txMod p seq f s).leap = s.leap := rfl
@[simp] theorem txMod_lode (p seq : Nat) (f : TxFrame → TxFrame) (s : State) : (txMod p seq f s).lode = s.lode := rfl
@[simp] theorem txMod_assay (p seq : Nat) (f : TxFrame → TxFrame) (s : State) : (txMod p seq f s).assay = s.assay := rfl
@[simp] theorem txMod_tally (p seq : Nat) (f : TxFrame → TxFrame) (s : State) : (txMod p seq f s).tally = s.tally := rfl
@[simp] theorem txMod_dial (p seq : Nat) (f : TxFrame → TxFrame) (s : State) : (txMod p seq f s).dial = s.dial := rfl
@[simp] theorem txMod_dayl (p seq : Nat) (f : TxFrame → TxFrame) (s : State) : (txMod p seq f s).dayl = s.dayl := rfl
@[simp] theorem txMod_outs (p seq : Nat) (f : TxFrame → TxFrame) (s : State) : (txMod p seq f s).outs = s.outs := rfl
@[simp] theorem txMod_gals (p seq : Nat) (f : TxFrame → TxFrame) (s : State) : (txMod p seq f s).gals = s.gals := rfl
@[simp] theorem txMod_picks (p seq : Nat) (f : TxFrame → TxFrame) (s : State) : (txMod p seq f s).picks = s.picks := rfl
@[simp] theorem txMod_shaft (p seq : Nat) (f : TxFrame → TxFrame) (s : State) : (txMod p seq f s).shaft = s.shaft := rfl
@[simp] theorem txMod_sess (p seq : Nat) (f : TxFrame → TxFrame) (s : State) : (txMod p seq f s).sess = s.sess := rfl
@[simp] theorem txMod_cry (p seq : Nat) (f : TxFrame → TxFrame) (s : State) : (txMod p seq f s).cry = s.cry := rfl
@[simp] theorem txMod_seam (p seq : Nat) (f : TxFrame → TxFrame) (s : State) : (txMod p seq f s).seam = s.seam := rfl
@[simp] theorem txMod_ptpRef (p seq : Nat) (f : TxFrame → TxFrame) (s : State) : (txMod p seq f s).ptpRef = s.ptpRef := rfl
@[simp] theorem txMod_haul (p seq : Nat) (f : TxFrame → TxFrame) (s : State) : (txMod p seq f s).haul = s.haul := rfl
@[simp] theorem txMod_wbr (p seq : Nat) (f : TxFrame → TxFrame) (s : State) : (txMod p seq f s).wbr = s.wbr := rfl
@[simp] theorem txMod_fault (p seq : Nat) (f : TxFrame → TxFrame) (s : State) : (txMod p seq f s).fault = s.fault := rfl
@[simp] theorem txMod_power (p seq : Nat) (f : TxFrame → TxFrame) (s : State) : (txMod p seq f s).power = s.power := rfl
@[simp] theorem txMod_otp (p seq : Nat) (f : TxFrame → TxFrame) (s : State) : (txMod p seq f s).otp = s.otp := rfl
@[simp] theorem txMod_surv (p seq : Nat) (f : TxFrame → TxFrame) (s : State) : (txMod p seq f s).surv = s.surv := rfl
@[simp] theorem txMod_cfg (p seq : Nat) (f : TxFrame → TxFrame) (s : State) : (txMod p seq f s).cfg = s.cfg := rfl
@[simp] theorem txMod_mbx (p seq : Nat) (f : TxFrame → TxFrame) (s : State) : (txMod p seq f s).mbx = s.mbx := rfl
@[simp] theorem txMod_pcie (p seq : Nat) (f : TxFrame → TxFrame) (s : State) : (txMod p seq f s).pcie = s.pcie := rfl
@[simp] theorem txMod_spi (p seq : Nat) (f : TxFrame → TxFrame) (s : State) : (txMod p seq f s).spi = s.spi := rfl
@[simp] theorem txMod_flash (p seq : Nat) (f : TxFrame → TxFrame) (s : State) : (txMod p seq f s).flash = s.flash := rfl
@[simp] theorem txMod_hostLoad (p seq : Nat) (f : TxFrame → TxFrame) (s : State) : (txMod p seq f s).hostLoad = s.hostLoad := rfl
@[simp] theorem txMod_rf (p seq : Nat) (f : TxFrame → TxFrame) (s : State) : (txMod p seq f s).rf = s.rf := rfl
@[simp] theorem txMod_pending (p seq : Nat) (f : TxFrame → TxFrame) (s : State) : (txMod p seq f s).pending = s.pending := rfl

/-! `resvMod` changes `prt` only. -/
@[simp] theorem resvMod_clk (p id : Nat) (f : Resv → Resv) (s : State) : (resvMod p id f s).clk = s.clk := rfl
@[simp] theorem resvMod_leap (p id : Nat) (f : Resv → Resv) (s : State) : (resvMod p id f s).leap = s.leap := rfl
@[simp] theorem resvMod_lode (p id : Nat) (f : Resv → Resv) (s : State) : (resvMod p id f s).lode = s.lode := rfl
@[simp] theorem resvMod_assay (p id : Nat) (f : Resv → Resv) (s : State) : (resvMod p id f s).assay = s.assay := rfl
@[simp] theorem resvMod_tally (p id : Nat) (f : Resv → Resv) (s : State) : (resvMod p id f s).tally = s.tally := rfl
@[simp] theorem resvMod_dial (p id : Nat) (f : Resv → Resv) (s : State) : (resvMod p id f s).dial = s.dial := rfl
@[simp] theorem resvMod_dayl (p id : Nat) (f : Resv → Resv) (s : State) : (resvMod p id f s).dayl = s.dayl := rfl
@[simp] theorem resvMod_outs (p id : Nat) (f : Resv → Resv) (s : State) : (resvMod p id f s).outs = s.outs := rfl
@[simp] theorem resvMod_gals (p id : Nat) (f : Resv → Resv) (s : State) : (resvMod p id f s).gals = s.gals := rfl
@[simp] theorem resvMod_picks (p id : Nat) (f : Resv → Resv) (s : State) : (resvMod p id f s).picks = s.picks := rfl
@[simp] theorem resvMod_shaft (p id : Nat) (f : Resv → Resv) (s : State) : (resvMod p id f s).shaft = s.shaft := rfl
@[simp] theorem resvMod_sess (p id : Nat) (f : Resv → Resv) (s : State) : (resvMod p id f s).sess = s.sess := rfl
@[simp] theorem resvMod_cry (p id : Nat) (f : Resv → Resv) (s : State) : (resvMod p id f s).cry = s.cry := rfl
@[simp] theorem resvMod_seam (p id : Nat) (f : Resv → Resv) (s : State) : (resvMod p id f s).seam = s.seam := rfl
@[simp] theorem resvMod_ptpRef (p id : Nat) (f : Resv → Resv) (s : State) : (resvMod p id f s).ptpRef = s.ptpRef := rfl
@[simp] theorem resvMod_haul (p id : Nat) (f : Resv → Resv) (s : State) : (resvMod p id f s).haul = s.haul := rfl
@[simp] theorem resvMod_wbr (p id : Nat) (f : Resv → Resv) (s : State) : (resvMod p id f s).wbr = s.wbr := rfl
@[simp] theorem resvMod_fault (p id : Nat) (f : Resv → Resv) (s : State) : (resvMod p id f s).fault = s.fault := rfl
@[simp] theorem resvMod_power (p id : Nat) (f : Resv → Resv) (s : State) : (resvMod p id f s).power = s.power := rfl
@[simp] theorem resvMod_otp (p id : Nat) (f : Resv → Resv) (s : State) : (resvMod p id f s).otp = s.otp := rfl
@[simp] theorem resvMod_surv (p id : Nat) (f : Resv → Resv) (s : State) : (resvMod p id f s).surv = s.surv := rfl
@[simp] theorem resvMod_cfg (p id : Nat) (f : Resv → Resv) (s : State) : (resvMod p id f s).cfg = s.cfg := rfl
@[simp] theorem resvMod_mbx (p id : Nat) (f : Resv → Resv) (s : State) : (resvMod p id f s).mbx = s.mbx := rfl
@[simp] theorem resvMod_pcie (p id : Nat) (f : Resv → Resv) (s : State) : (resvMod p id f s).pcie = s.pcie := rfl
@[simp] theorem resvMod_spi (p id : Nat) (f : Resv → Resv) (s : State) : (resvMod p id f s).spi = s.spi := rfl
@[simp] theorem resvMod_flash (p id : Nat) (f : Resv → Resv) (s : State) : (resvMod p id f s).flash = s.flash := rfl
@[simp] theorem resvMod_hostLoad (p id : Nat) (f : Resv → Resv) (s : State) : (resvMod p id f s).hostLoad = s.hostLoad := rfl
@[simp] theorem resvMod_rf (p id : Nat) (f : Resv → Resv) (s : State) : (resvMod p id f s).rf = s.rf := rfl
@[simp] theorem resvMod_pending (p id : Nat) (f : Resv → Resv) (s : State) : (resvMod p id f s).pending = s.pending := rfl

/-! `seamMod` changes `seam` only. -/
@[simp] theorem seamMod_clk (n : Nat) (f : SeamSt → SeamSt) (s : State) : (seamMod n f s).clk = s.clk := rfl
@[simp] theorem seamMod_leap (n : Nat) (f : SeamSt → SeamSt) (s : State) : (seamMod n f s).leap = s.leap := rfl
@[simp] theorem seamMod_lode (n : Nat) (f : SeamSt → SeamSt) (s : State) : (seamMod n f s).lode = s.lode := rfl
@[simp] theorem seamMod_assay (n : Nat) (f : SeamSt → SeamSt) (s : State) : (seamMod n f s).assay = s.assay := rfl
@[simp] theorem seamMod_tally (n : Nat) (f : SeamSt → SeamSt) (s : State) : (seamMod n f s).tally = s.tally := rfl
@[simp] theorem seamMod_dial (n : Nat) (f : SeamSt → SeamSt) (s : State) : (seamMod n f s).dial = s.dial := rfl
@[simp] theorem seamMod_dayl (n : Nat) (f : SeamSt → SeamSt) (s : State) : (seamMod n f s).dayl = s.dayl := rfl
@[simp] theorem seamMod_outs (n : Nat) (f : SeamSt → SeamSt) (s : State) : (seamMod n f s).outs = s.outs := rfl
@[simp] theorem seamMod_prt (n : Nat) (f : SeamSt → SeamSt) (s : State) : (seamMod n f s).prt = s.prt := rfl
@[simp] theorem seamMod_gals (n : Nat) (f : SeamSt → SeamSt) (s : State) : (seamMod n f s).gals = s.gals := rfl
@[simp] theorem seamMod_picks (n : Nat) (f : SeamSt → SeamSt) (s : State) : (seamMod n f s).picks = s.picks := rfl
@[simp] theorem seamMod_shaft (n : Nat) (f : SeamSt → SeamSt) (s : State) : (seamMod n f s).shaft = s.shaft := rfl
@[simp] theorem seamMod_sess (n : Nat) (f : SeamSt → SeamSt) (s : State) : (seamMod n f s).sess = s.sess := rfl
@[simp] theorem seamMod_cry (n : Nat) (f : SeamSt → SeamSt) (s : State) : (seamMod n f s).cry = s.cry := rfl
@[simp] theorem seamMod_ptpRef (n : Nat) (f : SeamSt → SeamSt) (s : State) : (seamMod n f s).ptpRef = s.ptpRef := rfl
@[simp] theorem seamMod_haul (n : Nat) (f : SeamSt → SeamSt) (s : State) : (seamMod n f s).haul = s.haul := rfl
@[simp] theorem seamMod_wbr (n : Nat) (f : SeamSt → SeamSt) (s : State) : (seamMod n f s).wbr = s.wbr := rfl
@[simp] theorem seamMod_fault (n : Nat) (f : SeamSt → SeamSt) (s : State) : (seamMod n f s).fault = s.fault := rfl
@[simp] theorem seamMod_power (n : Nat) (f : SeamSt → SeamSt) (s : State) : (seamMod n f s).power = s.power := rfl
@[simp] theorem seamMod_otp (n : Nat) (f : SeamSt → SeamSt) (s : State) : (seamMod n f s).otp = s.otp := rfl
@[simp] theorem seamMod_surv (n : Nat) (f : SeamSt → SeamSt) (s : State) : (seamMod n f s).surv = s.surv := rfl
@[simp] theorem seamMod_cfg (n : Nat) (f : SeamSt → SeamSt) (s : State) : (seamMod n f s).cfg = s.cfg := rfl
@[simp] theorem seamMod_mbx (n : Nat) (f : SeamSt → SeamSt) (s : State) : (seamMod n f s).mbx = s.mbx := rfl
@[simp] theorem seamMod_pcie (n : Nat) (f : SeamSt → SeamSt) (s : State) : (seamMod n f s).pcie = s.pcie := rfl
@[simp] theorem seamMod_spi (n : Nat) (f : SeamSt → SeamSt) (s : State) : (seamMod n f s).spi = s.spi := rfl
@[simp] theorem seamMod_flash (n : Nat) (f : SeamSt → SeamSt) (s : State) : (seamMod n f s).flash = s.flash := rfl
@[simp] theorem seamMod_hostLoad (n : Nat) (f : SeamSt → SeamSt) (s : State) : (seamMod n f s).hostLoad = s.hostLoad := rfl
@[simp] theorem seamMod_rf (n : Nat) (f : SeamSt → SeamSt) (s : State) : (seamMod n f s).rf = s.rf := rfl
@[simp] theorem seamMod_pending (n : Nat) (f : SeamSt → SeamSt) (s : State) : (seamMod n f s).pending = s.pending := rfl

/-! `refPtpMod` changes `ptpRef` only. -/
@[simp] theorem refPtpMod_clk (n : Nat) (f : PtpRefSt → PtpRefSt) (s : State) : (refPtpMod n f s).clk = s.clk := rfl
@[simp] theorem refPtpMod_leap (n : Nat) (f : PtpRefSt → PtpRefSt) (s : State) : (refPtpMod n f s).leap = s.leap := rfl
@[simp] theorem refPtpMod_lode (n : Nat) (f : PtpRefSt → PtpRefSt) (s : State) : (refPtpMod n f s).lode = s.lode := rfl
@[simp] theorem refPtpMod_assay (n : Nat) (f : PtpRefSt → PtpRefSt) (s : State) : (refPtpMod n f s).assay = s.assay := rfl
@[simp] theorem refPtpMod_tally (n : Nat) (f : PtpRefSt → PtpRefSt) (s : State) : (refPtpMod n f s).tally = s.tally := rfl
@[simp] theorem refPtpMod_dial (n : Nat) (f : PtpRefSt → PtpRefSt) (s : State) : (refPtpMod n f s).dial = s.dial := rfl
@[simp] theorem refPtpMod_dayl (n : Nat) (f : PtpRefSt → PtpRefSt) (s : State) : (refPtpMod n f s).dayl = s.dayl := rfl
@[simp] theorem refPtpMod_outs (n : Nat) (f : PtpRefSt → PtpRefSt) (s : State) : (refPtpMod n f s).outs = s.outs := rfl
@[simp] theorem refPtpMod_prt (n : Nat) (f : PtpRefSt → PtpRefSt) (s : State) : (refPtpMod n f s).prt = s.prt := rfl
@[simp] theorem refPtpMod_gals (n : Nat) (f : PtpRefSt → PtpRefSt) (s : State) : (refPtpMod n f s).gals = s.gals := rfl
@[simp] theorem refPtpMod_picks (n : Nat) (f : PtpRefSt → PtpRefSt) (s : State) : (refPtpMod n f s).picks = s.picks := rfl
@[simp] theorem refPtpMod_shaft (n : Nat) (f : PtpRefSt → PtpRefSt) (s : State) : (refPtpMod n f s).shaft = s.shaft := rfl
@[simp] theorem refPtpMod_sess (n : Nat) (f : PtpRefSt → PtpRefSt) (s : State) : (refPtpMod n f s).sess = s.sess := rfl
@[simp] theorem refPtpMod_cry (n : Nat) (f : PtpRefSt → PtpRefSt) (s : State) : (refPtpMod n f s).cry = s.cry := rfl
@[simp] theorem refPtpMod_seam (n : Nat) (f : PtpRefSt → PtpRefSt) (s : State) : (refPtpMod n f s).seam = s.seam := rfl
@[simp] theorem refPtpMod_haul (n : Nat) (f : PtpRefSt → PtpRefSt) (s : State) : (refPtpMod n f s).haul = s.haul := rfl
@[simp] theorem refPtpMod_wbr (n : Nat) (f : PtpRefSt → PtpRefSt) (s : State) : (refPtpMod n f s).wbr = s.wbr := rfl
@[simp] theorem refPtpMod_fault (n : Nat) (f : PtpRefSt → PtpRefSt) (s : State) : (refPtpMod n f s).fault = s.fault := rfl
@[simp] theorem refPtpMod_power (n : Nat) (f : PtpRefSt → PtpRefSt) (s : State) : (refPtpMod n f s).power = s.power := rfl
@[simp] theorem refPtpMod_otp (n : Nat) (f : PtpRefSt → PtpRefSt) (s : State) : (refPtpMod n f s).otp = s.otp := rfl
@[simp] theorem refPtpMod_surv (n : Nat) (f : PtpRefSt → PtpRefSt) (s : State) : (refPtpMod n f s).surv = s.surv := rfl
@[simp] theorem refPtpMod_cfg (n : Nat) (f : PtpRefSt → PtpRefSt) (s : State) : (refPtpMod n f s).cfg = s.cfg := rfl
@[simp] theorem refPtpMod_mbx (n : Nat) (f : PtpRefSt → PtpRefSt) (s : State) : (refPtpMod n f s).mbx = s.mbx := rfl
@[simp] theorem refPtpMod_pcie (n : Nat) (f : PtpRefSt → PtpRefSt) (s : State) : (refPtpMod n f s).pcie = s.pcie := rfl
@[simp] theorem refPtpMod_spi (n : Nat) (f : PtpRefSt → PtpRefSt) (s : State) : (refPtpMod n f s).spi = s.spi := rfl
@[simp] theorem refPtpMod_flash (n : Nat) (f : PtpRefSt → PtpRefSt) (s : State) : (refPtpMod n f s).flash = s.flash := rfl
@[simp] theorem refPtpMod_hostLoad (n : Nat) (f : PtpRefSt → PtpRefSt) (s : State) : (refPtpMod n f s).hostLoad = s.hostLoad := rfl
@[simp] theorem refPtpMod_rf (n : Nat) (f : PtpRefSt → PtpRefSt) (s : State) : (refPtpMod n f s).rf = s.rf := rfl
@[simp] theorem refPtpMod_pending (n : Nat) (f : PtpRefSt → PtpRefSt) (s : State) : (refPtpMod n f s).pending = s.pending := rfl

/-! `dirMod` changes `sess` only. -/
@[simp] theorem dirMod_clk (g : Nat) (f : DirEntry → DirEntry) (s : State) : (dirMod g f s).clk = s.clk := rfl
@[simp] theorem dirMod_leap (g : Nat) (f : DirEntry → DirEntry) (s : State) : (dirMod g f s).leap = s.leap := rfl
@[simp] theorem dirMod_lode (g : Nat) (f : DirEntry → DirEntry) (s : State) : (dirMod g f s).lode = s.lode := rfl
@[simp] theorem dirMod_assay (g : Nat) (f : DirEntry → DirEntry) (s : State) : (dirMod g f s).assay = s.assay := rfl
@[simp] theorem dirMod_tally (g : Nat) (f : DirEntry → DirEntry) (s : State) : (dirMod g f s).tally = s.tally := rfl
@[simp] theorem dirMod_dial (g : Nat) (f : DirEntry → DirEntry) (s : State) : (dirMod g f s).dial = s.dial := rfl
@[simp] theorem dirMod_dayl (g : Nat) (f : DirEntry → DirEntry) (s : State) : (dirMod g f s).dayl = s.dayl := rfl
@[simp] theorem dirMod_outs (g : Nat) (f : DirEntry → DirEntry) (s : State) : (dirMod g f s).outs = s.outs := rfl
@[simp] theorem dirMod_prt (g : Nat) (f : DirEntry → DirEntry) (s : State) : (dirMod g f s).prt = s.prt := rfl
@[simp] theorem dirMod_gals (g : Nat) (f : DirEntry → DirEntry) (s : State) : (dirMod g f s).gals = s.gals := rfl
@[simp] theorem dirMod_picks (g : Nat) (f : DirEntry → DirEntry) (s : State) : (dirMod g f s).picks = s.picks := rfl
@[simp] theorem dirMod_shaft (g : Nat) (f : DirEntry → DirEntry) (s : State) : (dirMod g f s).shaft = s.shaft := rfl
@[simp] theorem dirMod_cry (g : Nat) (f : DirEntry → DirEntry) (s : State) : (dirMod g f s).cry = s.cry := rfl
@[simp] theorem dirMod_seam (g : Nat) (f : DirEntry → DirEntry) (s : State) : (dirMod g f s).seam = s.seam := rfl
@[simp] theorem dirMod_ptpRef (g : Nat) (f : DirEntry → DirEntry) (s : State) : (dirMod g f s).ptpRef = s.ptpRef := rfl
@[simp] theorem dirMod_haul (g : Nat) (f : DirEntry → DirEntry) (s : State) : (dirMod g f s).haul = s.haul := rfl
@[simp] theorem dirMod_wbr (g : Nat) (f : DirEntry → DirEntry) (s : State) : (dirMod g f s).wbr = s.wbr := rfl
@[simp] theorem dirMod_fault (g : Nat) (f : DirEntry → DirEntry) (s : State) : (dirMod g f s).fault = s.fault := rfl
@[simp] theorem dirMod_power (g : Nat) (f : DirEntry → DirEntry) (s : State) : (dirMod g f s).power = s.power := rfl
@[simp] theorem dirMod_otp (g : Nat) (f : DirEntry → DirEntry) (s : State) : (dirMod g f s).otp = s.otp := rfl
@[simp] theorem dirMod_surv (g : Nat) (f : DirEntry → DirEntry) (s : State) : (dirMod g f s).surv = s.surv := rfl
@[simp] theorem dirMod_cfg (g : Nat) (f : DirEntry → DirEntry) (s : State) : (dirMod g f s).cfg = s.cfg := rfl
@[simp] theorem dirMod_mbx (g : Nat) (f : DirEntry → DirEntry) (s : State) : (dirMod g f s).mbx = s.mbx := rfl
@[simp] theorem dirMod_pcie (g : Nat) (f : DirEntry → DirEntry) (s : State) : (dirMod g f s).pcie = s.pcie := rfl
@[simp] theorem dirMod_spi (g : Nat) (f : DirEntry → DirEntry) (s : State) : (dirMod g f s).spi = s.spi := rfl
@[simp] theorem dirMod_flash (g : Nat) (f : DirEntry → DirEntry) (s : State) : (dirMod g f s).flash = s.flash := rfl
@[simp] theorem dirMod_hostLoad (g : Nat) (f : DirEntry → DirEntry) (s : State) : (dirMod g f s).hostLoad = s.hostLoad := rfl
@[simp] theorem dirMod_rf (g : Nat) (f : DirEntry → DirEntry) (s : State) : (dirMod g f s).rf = s.rf := rfl
@[simp] theorem dirMod_pending (g : Nat) (f : DirEntry → DirEntry) (s : State) : (dirMod g f s).pending = s.pending := rfl

/-! `lineMod` changes `sess` only. -/
@[simp] theorem lineMod_clk (ix : Nat) (f : CacheLine → CacheLine) (s : State) : (lineMod ix f s).clk = s.clk := rfl
@[simp] theorem lineMod_leap (ix : Nat) (f : CacheLine → CacheLine) (s : State) : (lineMod ix f s).leap = s.leap := rfl
@[simp] theorem lineMod_lode (ix : Nat) (f : CacheLine → CacheLine) (s : State) : (lineMod ix f s).lode = s.lode := rfl
@[simp] theorem lineMod_assay (ix : Nat) (f : CacheLine → CacheLine) (s : State) : (lineMod ix f s).assay = s.assay := rfl
@[simp] theorem lineMod_tally (ix : Nat) (f : CacheLine → CacheLine) (s : State) : (lineMod ix f s).tally = s.tally := rfl
@[simp] theorem lineMod_dial (ix : Nat) (f : CacheLine → CacheLine) (s : State) : (lineMod ix f s).dial = s.dial := rfl
@[simp] theorem lineMod_dayl (ix : Nat) (f : CacheLine → CacheLine) (s : State) : (lineMod ix f s).dayl = s.dayl := rfl
@[simp] theorem lineMod_outs (ix : Nat) (f : CacheLine → CacheLine) (s : State) : (lineMod ix f s).outs = s.outs := rfl
@[simp] theorem lineMod_prt (ix : Nat) (f : CacheLine → CacheLine) (s : State) : (lineMod ix f s).prt = s.prt := rfl
@[simp] theorem lineMod_gals (ix : Nat) (f : CacheLine → CacheLine) (s : State) : (lineMod ix f s).gals = s.gals := rfl
@[simp] theorem lineMod_picks (ix : Nat) (f : CacheLine → CacheLine) (s : State) : (lineMod ix f s).picks = s.picks := rfl
@[simp] theorem lineMod_shaft (ix : Nat) (f : CacheLine → CacheLine) (s : State) : (lineMod ix f s).shaft = s.shaft := rfl
@[simp] theorem lineMod_cry (ix : Nat) (f : CacheLine → CacheLine) (s : State) : (lineMod ix f s).cry = s.cry := rfl
@[simp] theorem lineMod_seam (ix : Nat) (f : CacheLine → CacheLine) (s : State) : (lineMod ix f s).seam = s.seam := rfl
@[simp] theorem lineMod_ptpRef (ix : Nat) (f : CacheLine → CacheLine) (s : State) : (lineMod ix f s).ptpRef = s.ptpRef := rfl
@[simp] theorem lineMod_haul (ix : Nat) (f : CacheLine → CacheLine) (s : State) : (lineMod ix f s).haul = s.haul := rfl
@[simp] theorem lineMod_wbr (ix : Nat) (f : CacheLine → CacheLine) (s : State) : (lineMod ix f s).wbr = s.wbr := rfl
@[simp] theorem lineMod_fault (ix : Nat) (f : CacheLine → CacheLine) (s : State) : (lineMod ix f s).fault = s.fault := rfl
@[simp] theorem lineMod_power (ix : Nat) (f : CacheLine → CacheLine) (s : State) : (lineMod ix f s).power = s.power := rfl
@[simp] theorem lineMod_otp (ix : Nat) (f : CacheLine → CacheLine) (s : State) : (lineMod ix f s).otp = s.otp := rfl
@[simp] theorem lineMod_surv (ix : Nat) (f : CacheLine → CacheLine) (s : State) : (lineMod ix f s).surv = s.surv := rfl
@[simp] theorem lineMod_cfg (ix : Nat) (f : CacheLine → CacheLine) (s : State) : (lineMod ix f s).cfg = s.cfg := rfl
@[simp] theorem lineMod_mbx (ix : Nat) (f : CacheLine → CacheLine) (s : State) : (lineMod ix f s).mbx = s.mbx := rfl
@[simp] theorem lineMod_pcie (ix : Nat) (f : CacheLine → CacheLine) (s : State) : (lineMod ix f s).pcie = s.pcie := rfl
@[simp] theorem lineMod_spi (ix : Nat) (f : CacheLine → CacheLine) (s : State) : (lineMod ix f s).spi = s.spi := rfl
@[simp] theorem lineMod_flash (ix : Nat) (f : CacheLine → CacheLine) (s : State) : (lineMod ix f s).flash = s.flash := rfl
@[simp] theorem lineMod_hostLoad (ix : Nat) (f : CacheLine → CacheLine) (s : State) : (lineMod ix f s).hostLoad = s.hostLoad := rfl
@[simp] theorem lineMod_rf (ix : Nat) (f : CacheLine → CacheLine) (s : State) : (lineMod ix f s).rf = s.rf := rfl
@[simp] theorem lineMod_pending (ix : Nat) (f : CacheLine → CacheLine) (s : State) : (lineMod ix f s).pending = s.pending := rfl

/-! `reqMod` changes `shaft` only. -/
@[simp] theorem reqMod_clk (id : Nat) (f : ShReq → ShReq) (s : State) : (reqMod id f s).clk = s.clk := rfl
@[simp] theorem reqMod_leap (id : Nat) (f : ShReq → ShReq) (s : State) : (reqMod id f s).leap = s.leap := rfl
@[simp] theorem reqMod_lode (id : Nat) (f : ShReq → ShReq) (s : State) : (reqMod id f s).lode = s.lode := rfl
@[simp] theorem reqMod_assay (id : Nat) (f : ShReq → ShReq) (s : State) : (reqMod id f s).assay = s.assay := rfl
@[simp] theorem reqMod_tally (id : Nat) (f : ShReq → ShReq) (s : State) : (reqMod id f s).tally = s.tally := rfl
@[simp] theorem reqMod_dial (id : Nat) (f : ShReq → ShReq) (s : State) : (reqMod id f s).dial = s.dial := rfl
@[simp] theorem reqMod_dayl (id : Nat) (f : ShReq → ShReq) (s : State) : (reqMod id f s).dayl = s.dayl := rfl
@[simp] theorem reqMod_outs (id : Nat) (f : ShReq → ShReq) (s : State) : (reqMod id f s).outs = s.outs := rfl
@[simp] theorem reqMod_prt (id : Nat) (f : ShReq → ShReq) (s : State) : (reqMod id f s).prt = s.prt := rfl
@[simp] theorem reqMod_gals (id : Nat) (f : ShReq → ShReq) (s : State) : (reqMod id f s).gals = s.gals := rfl
@[simp] theorem reqMod_picks (id : Nat) (f : ShReq → ShReq) (s : State) : (reqMod id f s).picks = s.picks := rfl
@[simp] theorem reqMod_sess (id : Nat) (f : ShReq → ShReq) (s : State) : (reqMod id f s).sess = s.sess := rfl
@[simp] theorem reqMod_cry (id : Nat) (f : ShReq → ShReq) (s : State) : (reqMod id f s).cry = s.cry := rfl
@[simp] theorem reqMod_seam (id : Nat) (f : ShReq → ShReq) (s : State) : (reqMod id f s).seam = s.seam := rfl
@[simp] theorem reqMod_ptpRef (id : Nat) (f : ShReq → ShReq) (s : State) : (reqMod id f s).ptpRef = s.ptpRef := rfl
@[simp] theorem reqMod_haul (id : Nat) (f : ShReq → ShReq) (s : State) : (reqMod id f s).haul = s.haul := rfl
@[simp] theorem reqMod_wbr (id : Nat) (f : ShReq → ShReq) (s : State) : (reqMod id f s).wbr = s.wbr := rfl
@[simp] theorem reqMod_fault (id : Nat) (f : ShReq → ShReq) (s : State) : (reqMod id f s).fault = s.fault := rfl
@[simp] theorem reqMod_power (id : Nat) (f : ShReq → ShReq) (s : State) : (reqMod id f s).power = s.power := rfl
@[simp] theorem reqMod_otp (id : Nat) (f : ShReq → ShReq) (s : State) : (reqMod id f s).otp = s.otp := rfl
@[simp] theorem reqMod_surv (id : Nat) (f : ShReq → ShReq) (s : State) : (reqMod id f s).surv = s.surv := rfl
@[simp] theorem reqMod_cfg (id : Nat) (f : ShReq → ShReq) (s : State) : (reqMod id f s).cfg = s.cfg := rfl
@[simp] theorem reqMod_mbx (id : Nat) (f : ShReq → ShReq) (s : State) : (reqMod id f s).mbx = s.mbx := rfl
@[simp] theorem reqMod_pcie (id : Nat) (f : ShReq → ShReq) (s : State) : (reqMod id f s).pcie = s.pcie := rfl
@[simp] theorem reqMod_spi (id : Nat) (f : ShReq → ShReq) (s : State) : (reqMod id f s).spi = s.spi := rfl
@[simp] theorem reqMod_flash (id : Nat) (f : ShReq → ShReq) (s : State) : (reqMod id f s).flash = s.flash := rfl
@[simp] theorem reqMod_hostLoad (id : Nat) (f : ShReq → ShReq) (s : State) : (reqMod id f s).hostLoad = s.hostLoad := rfl
@[simp] theorem reqMod_rf (id : Nat) (f : ShReq → ShReq) (s : State) : (reqMod id f s).rf = s.rf := rfl
@[simp] theorem reqMod_pending (id : Nat) (f : ShReq → ShReq) (s : State) : (reqMod id f s).pending = s.pending := rfl

/-! `groupMod` changes `shaft` only. -/
@[simp] theorem groupMod_clk (k : Nat) (f : GroupSt → GroupSt) (s : State) : (groupMod k f s).clk = s.clk := rfl
@[simp] theorem groupMod_leap (k : Nat) (f : GroupSt → GroupSt) (s : State) : (groupMod k f s).leap = s.leap := rfl
@[simp] theorem groupMod_lode (k : Nat) (f : GroupSt → GroupSt) (s : State) : (groupMod k f s).lode = s.lode := rfl
@[simp] theorem groupMod_assay (k : Nat) (f : GroupSt → GroupSt) (s : State) : (groupMod k f s).assay = s.assay := rfl
@[simp] theorem groupMod_tally (k : Nat) (f : GroupSt → GroupSt) (s : State) : (groupMod k f s).tally = s.tally := rfl
@[simp] theorem groupMod_dial (k : Nat) (f : GroupSt → GroupSt) (s : State) : (groupMod k f s).dial = s.dial := rfl
@[simp] theorem groupMod_dayl (k : Nat) (f : GroupSt → GroupSt) (s : State) : (groupMod k f s).dayl = s.dayl := rfl
@[simp] theorem groupMod_outs (k : Nat) (f : GroupSt → GroupSt) (s : State) : (groupMod k f s).outs = s.outs := rfl
@[simp] theorem groupMod_prt (k : Nat) (f : GroupSt → GroupSt) (s : State) : (groupMod k f s).prt = s.prt := rfl
@[simp] theorem groupMod_gals (k : Nat) (f : GroupSt → GroupSt) (s : State) : (groupMod k f s).gals = s.gals := rfl
@[simp] theorem groupMod_picks (k : Nat) (f : GroupSt → GroupSt) (s : State) : (groupMod k f s).picks = s.picks := rfl
@[simp] theorem groupMod_sess (k : Nat) (f : GroupSt → GroupSt) (s : State) : (groupMod k f s).sess = s.sess := rfl
@[simp] theorem groupMod_cry (k : Nat) (f : GroupSt → GroupSt) (s : State) : (groupMod k f s).cry = s.cry := rfl
@[simp] theorem groupMod_seam (k : Nat) (f : GroupSt → GroupSt) (s : State) : (groupMod k f s).seam = s.seam := rfl
@[simp] theorem groupMod_ptpRef (k : Nat) (f : GroupSt → GroupSt) (s : State) : (groupMod k f s).ptpRef = s.ptpRef := rfl
@[simp] theorem groupMod_haul (k : Nat) (f : GroupSt → GroupSt) (s : State) : (groupMod k f s).haul = s.haul := rfl
@[simp] theorem groupMod_wbr (k : Nat) (f : GroupSt → GroupSt) (s : State) : (groupMod k f s).wbr = s.wbr := rfl
@[simp] theorem groupMod_fault (k : Nat) (f : GroupSt → GroupSt) (s : State) : (groupMod k f s).fault = s.fault := rfl
@[simp] theorem groupMod_power (k : Nat) (f : GroupSt → GroupSt) (s : State) : (groupMod k f s).power = s.power := rfl
@[simp] theorem groupMod_otp (k : Nat) (f : GroupSt → GroupSt) (s : State) : (groupMod k f s).otp = s.otp := rfl
@[simp] theorem groupMod_surv (k : Nat) (f : GroupSt → GroupSt) (s : State) : (groupMod k f s).surv = s.surv := rfl
@[simp] theorem groupMod_cfg (k : Nat) (f : GroupSt → GroupSt) (s : State) : (groupMod k f s).cfg = s.cfg := rfl
@[simp] theorem groupMod_mbx (k : Nat) (f : GroupSt → GroupSt) (s : State) : (groupMod k f s).mbx = s.mbx := rfl
@[simp] theorem groupMod_pcie (k : Nat) (f : GroupSt → GroupSt) (s : State) : (groupMod k f s).pcie = s.pcie := rfl
@[simp] theorem groupMod_spi (k : Nat) (f : GroupSt → GroupSt) (s : State) : (groupMod k f s).spi = s.spi := rfl
@[simp] theorem groupMod_flash (k : Nat) (f : GroupSt → GroupSt) (s : State) : (groupMod k f s).flash = s.flash := rfl
@[simp] theorem groupMod_hostLoad (k : Nat) (f : GroupSt → GroupSt) (s : State) : (groupMod k f s).hostLoad = s.hostLoad := rfl
@[simp] theorem groupMod_rf (k : Nat) (f : GroupSt → GroupSt) (s : State) : (groupMod k f s).rf = s.rf := rfl
@[simp] theorem groupMod_pending (k : Nat) (f : GroupSt → GroupSt) (s : State) : (groupMod k f s).pending = s.pending := rfl

/-! `laneMod` changes `cry` only. -/
@[simp] theorem laneMod_clk (c : Nat) (f : LaneSt → LaneSt) (s : State) : (laneMod c f s).clk = s.clk := rfl
@[simp] theorem laneMod_leap (c : Nat) (f : LaneSt → LaneSt) (s : State) : (laneMod c f s).leap = s.leap := rfl
@[simp] theorem laneMod_lode (c : Nat) (f : LaneSt → LaneSt) (s : State) : (laneMod c f s).lode = s.lode := rfl
@[simp] theorem laneMod_assay (c : Nat) (f : LaneSt → LaneSt) (s : State) : (laneMod c f s).assay = s.assay := rfl
@[simp] theorem laneMod_tally (c : Nat) (f : LaneSt → LaneSt) (s : State) : (laneMod c f s).tally = s.tally := rfl
@[simp] theorem laneMod_dial (c : Nat) (f : LaneSt → LaneSt) (s : State) : (laneMod c f s).dial = s.dial := rfl
@[simp] theorem laneMod_dayl (c : Nat) (f : LaneSt → LaneSt) (s : State) : (laneMod c f s).dayl = s.dayl := rfl
@[simp] theorem laneMod_outs (c : Nat) (f : LaneSt → LaneSt) (s : State) : (laneMod c f s).outs = s.outs := rfl
@[simp] theorem laneMod_prt (c : Nat) (f : LaneSt → LaneSt) (s : State) : (laneMod c f s).prt = s.prt := rfl
@[simp] theorem laneMod_gals (c : Nat) (f : LaneSt → LaneSt) (s : State) : (laneMod c f s).gals = s.gals := rfl
@[simp] theorem laneMod_picks (c : Nat) (f : LaneSt → LaneSt) (s : State) : (laneMod c f s).picks = s.picks := rfl
@[simp] theorem laneMod_shaft (c : Nat) (f : LaneSt → LaneSt) (s : State) : (laneMod c f s).shaft = s.shaft := rfl
@[simp] theorem laneMod_sess (c : Nat) (f : LaneSt → LaneSt) (s : State) : (laneMod c f s).sess = s.sess := rfl
@[simp] theorem laneMod_seam (c : Nat) (f : LaneSt → LaneSt) (s : State) : (laneMod c f s).seam = s.seam := rfl
@[simp] theorem laneMod_ptpRef (c : Nat) (f : LaneSt → LaneSt) (s : State) : (laneMod c f s).ptpRef = s.ptpRef := rfl
@[simp] theorem laneMod_haul (c : Nat) (f : LaneSt → LaneSt) (s : State) : (laneMod c f s).haul = s.haul := rfl
@[simp] theorem laneMod_wbr (c : Nat) (f : LaneSt → LaneSt) (s : State) : (laneMod c f s).wbr = s.wbr := rfl
@[simp] theorem laneMod_fault (c : Nat) (f : LaneSt → LaneSt) (s : State) : (laneMod c f s).fault = s.fault := rfl
@[simp] theorem laneMod_power (c : Nat) (f : LaneSt → LaneSt) (s : State) : (laneMod c f s).power = s.power := rfl
@[simp] theorem laneMod_otp (c : Nat) (f : LaneSt → LaneSt) (s : State) : (laneMod c f s).otp = s.otp := rfl
@[simp] theorem laneMod_surv (c : Nat) (f : LaneSt → LaneSt) (s : State) : (laneMod c f s).surv = s.surv := rfl
@[simp] theorem laneMod_cfg (c : Nat) (f : LaneSt → LaneSt) (s : State) : (laneMod c f s).cfg = s.cfg := rfl
@[simp] theorem laneMod_mbx (c : Nat) (f : LaneSt → LaneSt) (s : State) : (laneMod c f s).mbx = s.mbx := rfl
@[simp] theorem laneMod_pcie (c : Nat) (f : LaneSt → LaneSt) (s : State) : (laneMod c f s).pcie = s.pcie := rfl
@[simp] theorem laneMod_spi (c : Nat) (f : LaneSt → LaneSt) (s : State) : (laneMod c f s).spi = s.spi := rfl
@[simp] theorem laneMod_flash (c : Nat) (f : LaneSt → LaneSt) (s : State) : (laneMod c f s).flash = s.flash := rfl
@[simp] theorem laneMod_hostLoad (c : Nat) (f : LaneSt → LaneSt) (s : State) : (laneMod c f s).hostLoad = s.hostLoad := rfl
@[simp] theorem laneMod_rf (c : Nat) (f : LaneSt → LaneSt) (s : State) : (laneMod c f s).rf = s.rf := rfl
@[simp] theorem laneMod_pending (c : Nat) (f : LaneSt → LaneSt) (s : State) : (laneMod c f s).pending = s.pending := rfl

/-! `survMod` changes `surv` only. -/
@[simp] theorem survMod_clk (f : SurvSt → SurvSt) (s : State) : (survMod f s).clk = s.clk := rfl
@[simp] theorem survMod_leap (f : SurvSt → SurvSt) (s : State) : (survMod f s).leap = s.leap := rfl
@[simp] theorem survMod_lode (f : SurvSt → SurvSt) (s : State) : (survMod f s).lode = s.lode := rfl
@[simp] theorem survMod_assay (f : SurvSt → SurvSt) (s : State) : (survMod f s).assay = s.assay := rfl
@[simp] theorem survMod_tally (f : SurvSt → SurvSt) (s : State) : (survMod f s).tally = s.tally := rfl
@[simp] theorem survMod_dial (f : SurvSt → SurvSt) (s : State) : (survMod f s).dial = s.dial := rfl
@[simp] theorem survMod_dayl (f : SurvSt → SurvSt) (s : State) : (survMod f s).dayl = s.dayl := rfl
@[simp] theorem survMod_outs (f : SurvSt → SurvSt) (s : State) : (survMod f s).outs = s.outs := rfl
@[simp] theorem survMod_prt (f : SurvSt → SurvSt) (s : State) : (survMod f s).prt = s.prt := rfl
@[simp] theorem survMod_gals (f : SurvSt → SurvSt) (s : State) : (survMod f s).gals = s.gals := rfl
@[simp] theorem survMod_picks (f : SurvSt → SurvSt) (s : State) : (survMod f s).picks = s.picks := rfl
@[simp] theorem survMod_shaft (f : SurvSt → SurvSt) (s : State) : (survMod f s).shaft = s.shaft := rfl
@[simp] theorem survMod_sess (f : SurvSt → SurvSt) (s : State) : (survMod f s).sess = s.sess := rfl
@[simp] theorem survMod_cry (f : SurvSt → SurvSt) (s : State) : (survMod f s).cry = s.cry := rfl
@[simp] theorem survMod_seam (f : SurvSt → SurvSt) (s : State) : (survMod f s).seam = s.seam := rfl
@[simp] theorem survMod_ptpRef (f : SurvSt → SurvSt) (s : State) : (survMod f s).ptpRef = s.ptpRef := rfl
@[simp] theorem survMod_haul (f : SurvSt → SurvSt) (s : State) : (survMod f s).haul = s.haul := rfl
@[simp] theorem survMod_wbr (f : SurvSt → SurvSt) (s : State) : (survMod f s).wbr = s.wbr := rfl
@[simp] theorem survMod_fault (f : SurvSt → SurvSt) (s : State) : (survMod f s).fault = s.fault := rfl
@[simp] theorem survMod_power (f : SurvSt → SurvSt) (s : State) : (survMod f s).power = s.power := rfl
@[simp] theorem survMod_otp (f : SurvSt → SurvSt) (s : State) : (survMod f s).otp = s.otp := rfl
@[simp] theorem survMod_cfg (f : SurvSt → SurvSt) (s : State) : (survMod f s).cfg = s.cfg := rfl
@[simp] theorem survMod_mbx (f : SurvSt → SurvSt) (s : State) : (survMod f s).mbx = s.mbx := rfl
@[simp] theorem survMod_pcie (f : SurvSt → SurvSt) (s : State) : (survMod f s).pcie = s.pcie := rfl
@[simp] theorem survMod_spi (f : SurvSt → SurvSt) (s : State) : (survMod f s).spi = s.spi := rfl
@[simp] theorem survMod_flash (f : SurvSt → SurvSt) (s : State) : (survMod f s).flash = s.flash := rfl
@[simp] theorem survMod_hostLoad (f : SurvSt → SurvSt) (s : State) : (survMod f s).hostLoad = s.hostLoad := rfl
@[simp] theorem survMod_rf (f : SurvSt → SurvSt) (s : State) : (survMod f s).rf = s.rf := rfl
@[simp] theorem survMod_pending (f : SurvSt → SurvSt) (s : State) : (survMod f s).pending = s.pending := rfl

/-! `wbrMod` changes `wbr` only. -/
@[simp] theorem wbrMod_clk (f : WbrSt → WbrSt) (s : State) : (wbrMod f s).clk = s.clk := rfl
@[simp] theorem wbrMod_leap (f : WbrSt → WbrSt) (s : State) : (wbrMod f s).leap = s.leap := rfl
@[simp] theorem wbrMod_lode (f : WbrSt → WbrSt) (s : State) : (wbrMod f s).lode = s.lode := rfl
@[simp] theorem wbrMod_assay (f : WbrSt → WbrSt) (s : State) : (wbrMod f s).assay = s.assay := rfl
@[simp] theorem wbrMod_tally (f : WbrSt → WbrSt) (s : State) : (wbrMod f s).tally = s.tally := rfl
@[simp] theorem wbrMod_dial (f : WbrSt → WbrSt) (s : State) : (wbrMod f s).dial = s.dial := rfl
@[simp] theorem wbrMod_dayl (f : WbrSt → WbrSt) (s : State) : (wbrMod f s).dayl = s.dayl := rfl
@[simp] theorem wbrMod_outs (f : WbrSt → WbrSt) (s : State) : (wbrMod f s).outs = s.outs := rfl
@[simp] theorem wbrMod_prt (f : WbrSt → WbrSt) (s : State) : (wbrMod f s).prt = s.prt := rfl
@[simp] theorem wbrMod_gals (f : WbrSt → WbrSt) (s : State) : (wbrMod f s).gals = s.gals := rfl
@[simp] theorem wbrMod_picks (f : WbrSt → WbrSt) (s : State) : (wbrMod f s).picks = s.picks := rfl
@[simp] theorem wbrMod_shaft (f : WbrSt → WbrSt) (s : State) : (wbrMod f s).shaft = s.shaft := rfl
@[simp] theorem wbrMod_sess (f : WbrSt → WbrSt) (s : State) : (wbrMod f s).sess = s.sess := rfl
@[simp] theorem wbrMod_cry (f : WbrSt → WbrSt) (s : State) : (wbrMod f s).cry = s.cry := rfl
@[simp] theorem wbrMod_seam (f : WbrSt → WbrSt) (s : State) : (wbrMod f s).seam = s.seam := rfl
@[simp] theorem wbrMod_ptpRef (f : WbrSt → WbrSt) (s : State) : (wbrMod f s).ptpRef = s.ptpRef := rfl
@[simp] theorem wbrMod_haul (f : WbrSt → WbrSt) (s : State) : (wbrMod f s).haul = s.haul := rfl
@[simp] theorem wbrMod_fault (f : WbrSt → WbrSt) (s : State) : (wbrMod f s).fault = s.fault := rfl
@[simp] theorem wbrMod_power (f : WbrSt → WbrSt) (s : State) : (wbrMod f s).power = s.power := rfl
@[simp] theorem wbrMod_otp (f : WbrSt → WbrSt) (s : State) : (wbrMod f s).otp = s.otp := rfl
@[simp] theorem wbrMod_surv (f : WbrSt → WbrSt) (s : State) : (wbrMod f s).surv = s.surv := rfl
@[simp] theorem wbrMod_cfg (f : WbrSt → WbrSt) (s : State) : (wbrMod f s).cfg = s.cfg := rfl
@[simp] theorem wbrMod_mbx (f : WbrSt → WbrSt) (s : State) : (wbrMod f s).mbx = s.mbx := rfl
@[simp] theorem wbrMod_pcie (f : WbrSt → WbrSt) (s : State) : (wbrMod f s).pcie = s.pcie := rfl
@[simp] theorem wbrMod_spi (f : WbrSt → WbrSt) (s : State) : (wbrMod f s).spi = s.spi := rfl
@[simp] theorem wbrMod_flash (f : WbrSt → WbrSt) (s : State) : (wbrMod f s).flash = s.flash := rfl
@[simp] theorem wbrMod_hostLoad (f : WbrSt → WbrSt) (s : State) : (wbrMod f s).hostLoad = s.hostLoad := rfl
@[simp] theorem wbrMod_rf (f : WbrSt → WbrSt) (s : State) : (wbrMod f s).rf = s.rf := rfl
@[simp] theorem wbrMod_pending (f : WbrSt → WbrSt) (s : State) : (wbrMod f s).pending = s.pending := rfl

end Sys2Proof.Machine
end

