-- ==== Sys2Proof/Laws/Frames.lean ====
section
/-! SUPPORT. Frames of the shared operations: what each may change, said once. -/

namespace Sys2Proof.Safety

open Machine

theorem OnlyReports.refl (s : State) : OnlyReports s s := rfl
theorem OnlyTally.refl (s : State) : OnlyTally s s := rfl
theorem OnlyTime.refl (s : State) : OnlyTime s s := rfl

theorem OnlyReports.trans {s t u : State} (a : OnlyReports s t) (b : OnlyReports t u) : OnlyReports s u := by
  unfold OnlyReports at *
  rw [b, a]

theorem OnlyTally.trans {s t u : State} (a : OnlyTally s t) (b : OnlyTally t u) : OnlyTally s u := by
  unfold OnlyTally at *
  rw [b, a]

theorem OnlyTime.trans {s t u : State} (a : OnlyTime s t) (b : OnlyTime t u) : OnlyTime s u := by
  unfold OnlyTime at *
  rw [b, a]

theorem OnlyLode.refl (s : State) : OnlyLode s s := rfl

theorem OnlyLode.trans {s t u : State} (a : OnlyLode s t) (b : OnlyLode t u) : OnlyLode s u := by
  unfold OnlyLode at *
  rw [b, a]

theorem OnlyLode.upd (s : State) (x : LodeSt) : OnlyLode s { s with lode := x } := rfl

theorem OnlyTally.lode' {s t : State} (a : OnlyTally s t) : OnlyLode s t := by
  unfold OnlyTally OnlyLode at *
  rw [a]

theorem OnlyReports.tally' {s t : State} (a : OnlyReports s t) : OnlyTally s t := by
  unfold OnlyTally OnlyReports at *
  rw [a]

theorem OnlyReports.clk {s t : State} (a : OnlyReports s t) : t.clk = s.clk := by rw [a]
theorem OnlyReports.leap {s t : State} (a : OnlyReports s t) : t.leap = s.leap := by rw [a]
theorem OnlyReports.lode {s t : State} (a : OnlyReports s t) : t.lode = s.lode := by rw [a]
theorem OnlyReports.assay {s t : State} (a : OnlyReports s t) : t.assay = s.assay := by rw [a]
theorem OnlyReports.tally {s t : State} (a : OnlyReports s t) : t.tally = s.tally := by rw [a]
theorem OnlyReports.dial {s t : State} (a : OnlyReports s t) : t.dial = s.dial := by rw [a]
theorem OnlyReports.dayl {s t : State} (a : OnlyReports s t) : t.dayl = s.dayl := by rw [a]
theorem OnlyReports.outs {s t : State} (a : OnlyReports s t) : t.outs = s.outs := by rw [a]
theorem OnlyReports.prt {s t : State} (a : OnlyReports s t) : t.prt = s.prt := by rw [a]
theorem OnlyReports.gals {s t : State} (a : OnlyReports s t) : t.gals = s.gals := by rw [a]
theorem OnlyReports.picks {s t : State} (a : OnlyReports s t) : t.picks = s.picks := by rw [a]
theorem OnlyReports.shaft {s t : State} (a : OnlyReports s t) : t.shaft = s.shaft := by rw [a]
theorem OnlyReports.sess {s t : State} (a : OnlyReports s t) : t.sess = s.sess := by rw [a]
theorem OnlyReports.cry {s t : State} (a : OnlyReports s t) : t.cry = s.cry := by rw [a]
theorem OnlyReports.seam {s t : State} (a : OnlyReports s t) : t.seam = s.seam := by rw [a]
theorem OnlyReports.ptpRef {s t : State} (a : OnlyReports s t) : t.ptpRef = s.ptpRef := by rw [a]
theorem OnlyReports.haul {s t : State} (a : OnlyReports s t) : t.haul = s.haul := by rw [a]
theorem OnlyReports.wbr {s t : State} (a : OnlyReports s t) : t.wbr = s.wbr := by rw [a]
theorem OnlyReports.power {s t : State} (a : OnlyReports s t) : t.power = s.power := by rw [a]
theorem OnlyReports.otp {s t : State} (a : OnlyReports s t) : t.otp = s.otp := by rw [a]
theorem OnlyReports.surv {s t : State} (a : OnlyReports s t) : t.surv = s.surv := by rw [a]
theorem OnlyReports.cfg {s t : State} (a : OnlyReports s t) : t.cfg = s.cfg := by rw [a]
theorem OnlyReports.mbx {s t : State} (a : OnlyReports s t) : t.mbx = s.mbx := by rw [a]
theorem OnlyReports.spi {s t : State} (a : OnlyReports s t) : t.spi = s.spi := by rw [a]
theorem OnlyReports.flash {s t : State} (a : OnlyReports s t) : t.flash = s.flash := by rw [a]
theorem OnlyReports.hostLoad {s t : State} (a : OnlyReports s t) : t.hostLoad = s.hostLoad := by rw [a]
theorem OnlyReports.pending {s t : State} (a : OnlyReports s t) : t.pending = s.pending := by rw [a]

theorem OnlyTally.clk {s t : State} (a : OnlyTally s t) : t.clk = s.clk := by rw [a]
theorem OnlyTally.leap {s t : State} (a : OnlyTally s t) : t.leap = s.leap := by rw [a]
theorem OnlyTally.lode {s t : State} (a : OnlyTally s t) : t.lode = s.lode := by rw [a]
theorem OnlyTally.assay {s t : State} (a : OnlyTally s t) : t.assay = s.assay := by rw [a]
theorem OnlyTally.dial {s t : State} (a : OnlyTally s t) : t.dial = s.dial := by rw [a]
theorem OnlyTally.dayl {s t : State} (a : OnlyTally s t) : t.dayl = s.dayl := by rw [a]
theorem OnlyTally.outs {s t : State} (a : OnlyTally s t) : t.outs = s.outs := by rw [a]
theorem OnlyTally.prt {s t : State} (a : OnlyTally s t) : t.prt = s.prt := by rw [a]
theorem OnlyTally.gals {s t : State} (a : OnlyTally s t) : t.gals = s.gals := by rw [a]
theorem OnlyTally.picks {s t : State} (a : OnlyTally s t) : t.picks = s.picks := by rw [a]
theorem OnlyTally.shaft {s t : State} (a : OnlyTally s t) : t.shaft = s.shaft := by rw [a]
theorem OnlyTally.sess {s t : State} (a : OnlyTally s t) : t.sess = s.sess := by rw [a]
theorem OnlyTally.cry {s t : State} (a : OnlyTally s t) : t.cry = s.cry := by rw [a]
theorem OnlyTally.seam {s t : State} (a : OnlyTally s t) : t.seam = s.seam := by rw [a]
theorem OnlyTally.ptpRef {s t : State} (a : OnlyTally s t) : t.ptpRef = s.ptpRef := by rw [a]
theorem OnlyTally.haul {s t : State} (a : OnlyTally s t) : t.haul = s.haul := by rw [a]
theorem OnlyTally.wbr {s t : State} (a : OnlyTally s t) : t.wbr = s.wbr := by rw [a]
theorem OnlyTally.power {s t : State} (a : OnlyTally s t) : t.power = s.power := by rw [a]
theorem OnlyTally.otp {s t : State} (a : OnlyTally s t) : t.otp = s.otp := by rw [a]
theorem OnlyTally.surv {s t : State} (a : OnlyTally s t) : t.surv = s.surv := by rw [a]
theorem OnlyTally.cfg {s t : State} (a : OnlyTally s t) : t.cfg = s.cfg := by rw [a]
theorem OnlyTally.mbx {s t : State} (a : OnlyTally s t) : t.mbx = s.mbx := by rw [a]
theorem OnlyTally.spi {s t : State} (a : OnlyTally s t) : t.spi = s.spi := by rw [a]
theorem OnlyTally.flash {s t : State} (a : OnlyTally s t) : t.flash = s.flash := by rw [a]
theorem OnlyTally.hostLoad {s t : State} (a : OnlyTally s t) : t.hostLoad = s.hostLoad := by rw [a]
theorem OnlyTally.pending {s t : State} (a : OnlyTally s t) : t.pending = s.pending := by rw [a]

theorem OnlyTime.leap {s t : State} (a : OnlyTime s t) : t.leap = s.leap := by rw [a]
theorem OnlyTime.lode {s t : State} (a : OnlyTime s t) : t.lode = s.lode := by rw [a]
theorem OnlyTime.tally {s t : State} (a : OnlyTime s t) : t.tally = s.tally := by rw [a]
theorem OnlyTime.dial {s t : State} (a : OnlyTime s t) : t.dial = s.dial := by rw [a]
theorem OnlyTime.dayl {s t : State} (a : OnlyTime s t) : t.dayl = s.dayl := by rw [a]
theorem OnlyTime.outs {s t : State} (a : OnlyTime s t) : t.outs = s.outs := by rw [a]
theorem OnlyTime.prt {s t : State} (a : OnlyTime s t) : t.prt = s.prt := by rw [a]
theorem OnlyTime.gals {s t : State} (a : OnlyTime s t) : t.gals = s.gals := by rw [a]
theorem OnlyTime.picks {s t : State} (a : OnlyTime s t) : t.picks = s.picks := by rw [a]
theorem OnlyTime.shaft {s t : State} (a : OnlyTime s t) : t.shaft = s.shaft := by rw [a]
theorem OnlyTime.sess {s t : State} (a : OnlyTime s t) : t.sess = s.sess := by rw [a]
theorem OnlyTime.cry {s t : State} (a : OnlyTime s t) : t.cry = s.cry := by rw [a]
theorem OnlyTime.seam {s t : State} (a : OnlyTime s t) : t.seam = s.seam := by rw [a]
theorem OnlyTime.ptpRef {s t : State} (a : OnlyTime s t) : t.ptpRef = s.ptpRef := by rw [a]
theorem OnlyTime.haul {s t : State} (a : OnlyTime s t) : t.haul = s.haul := by rw [a]
theorem OnlyTime.wbr {s t : State} (a : OnlyTime s t) : t.wbr = s.wbr := by rw [a]
theorem OnlyTime.fault {s t : State} (a : OnlyTime s t) : t.fault = s.fault := by rw [a]
theorem OnlyTime.power {s t : State} (a : OnlyTime s t) : t.power = s.power := by rw [a]
theorem OnlyTime.otp {s t : State} (a : OnlyTime s t) : t.otp = s.otp := by rw [a]
theorem OnlyTime.surv {s t : State} (a : OnlyTime s t) : t.surv = s.surv := by rw [a]
theorem OnlyTime.cfg {s t : State} (a : OnlyTime s t) : t.cfg = s.cfg := by rw [a]
theorem OnlyTime.mbx {s t : State} (a : OnlyTime s t) : t.mbx = s.mbx := by rw [a]
theorem OnlyTime.pcie {s t : State} (a : OnlyTime s t) : t.pcie = s.pcie := by rw [a]
theorem OnlyTime.spi {s t : State} (a : OnlyTime s t) : t.spi = s.spi := by rw [a]
theorem OnlyTime.flash {s t : State} (a : OnlyTime s t) : t.flash = s.flash := by rw [a]
theorem OnlyTime.hostLoad {s t : State} (a : OnlyTime s t) : t.hostLoad = s.hostLoad := by rw [a]
theorem OnlyTime.rf {s t : State} (a : OnlyTime s t) : t.rf = s.rf := by rw [a]
theorem OnlyTime.pending {s t : State} (a : OnlyTime s t) : t.pending = s.pending := by rw [a]

theorem OnlyLode.clk {s t : State} (a : OnlyLode s t) : t.clk = s.clk := by rw [a]
theorem OnlyLode.leap {s t : State} (a : OnlyLode s t) : t.leap = s.leap := by rw [a]
theorem OnlyLode.dial {s t : State} (a : OnlyLode s t) : t.dial = s.dial := by rw [a]
theorem OnlyLode.dayl {s t : State} (a : OnlyLode s t) : t.dayl = s.dayl := by rw [a]
theorem OnlyLode.outs {s t : State} (a : OnlyLode s t) : t.outs = s.outs := by rw [a]
theorem OnlyLode.prt {s t : State} (a : OnlyLode s t) : t.prt = s.prt := by rw [a]
theorem OnlyLode.gals {s t : State} (a : OnlyLode s t) : t.gals = s.gals := by rw [a]
theorem OnlyLode.picks {s t : State} (a : OnlyLode s t) : t.picks = s.picks := by rw [a]
theorem OnlyLode.shaft {s t : State} (a : OnlyLode s t) : t.shaft = s.shaft := by rw [a]
theorem OnlyLode.sess {s t : State} (a : OnlyLode s t) : t.sess = s.sess := by rw [a]
theorem OnlyLode.cry {s t : State} (a : OnlyLode s t) : t.cry = s.cry := by rw [a]
theorem OnlyLode.seam {s t : State} (a : OnlyLode s t) : t.seam = s.seam := by rw [a]
theorem OnlyLode.ptpRef {s t : State} (a : OnlyLode s t) : t.ptpRef = s.ptpRef := by rw [a]
theorem OnlyLode.haul {s t : State} (a : OnlyLode s t) : t.haul = s.haul := by rw [a]
theorem OnlyLode.wbr {s t : State} (a : OnlyLode s t) : t.wbr = s.wbr := by rw [a]
theorem OnlyLode.power {s t : State} (a : OnlyLode s t) : t.power = s.power := by rw [a]
theorem OnlyLode.otp {s t : State} (a : OnlyLode s t) : t.otp = s.otp := by rw [a]
theorem OnlyLode.surv {s t : State} (a : OnlyLode s t) : t.surv = s.surv := by rw [a]
theorem OnlyLode.cfg {s t : State} (a : OnlyLode s t) : t.cfg = s.cfg := by rw [a]
theorem OnlyLode.mbx {s t : State} (a : OnlyLode s t) : t.mbx = s.mbx := by rw [a]
theorem OnlyLode.spi {s t : State} (a : OnlyLode s t) : t.spi = s.spi := by rw [a]
theorem OnlyLode.flash {s t : State} (a : OnlyLode s t) : t.flash = s.flash := by rw [a]
theorem OnlyLode.hostLoad {s t : State} (a : OnlyLode s t) : t.hostLoad = s.hostLoad := by rw [a]
theorem OnlyLode.pending {s t : State} (a : OnlyLode s t) : t.pending = s.pending := by rw [a]

end Sys2Proof.Safety

namespace Sys2Proof.Machine

open Safety

/-- A fold of steps that keep a frame keeps it. -/
theorem foldl_onlyReports {α : Type} (f : State → α → State) (h : ∀ s a, OnlyReports s (f s a)) (l : List α) (s : State) :
    OnlyReports s (l.foldl f s) := by
  induction l generalizing s with
  | nil => exact OnlyReports.refl s
  | cons a r ih => exact (h s a).trans (ih (f s a))

theorem foldl_onlyTally {α : Type} (f : State → α → State) (h : ∀ s a, OnlyTally s (f s a)) (l : List α) (s : State) :
    OnlyTally s (l.foldl f s) := by
  induction l generalizing s with
  | nil => exact OnlyTally.refl s
  | cons a r ih => exact (h s a).trans (ih (f s a))

theorem ite_onlyReports {c : Prop} [Decidable c] {s t u : State} (a : OnlyReports s t) (b : OnlyReports s u) :
    OnlyReports s (if c then t else u) := by
  split
  · exact a
  · exact b

theorem ite_onlyTally {c : Prop} [Decidable c] {s t u : State} (a : OnlyTally s t) (b : OnlyTally s u) :
    OnlyTally s (if c then t else u) := by
  split
  · exact a
  · exact b

/-! ### Time -/

theorem elapse_onlyTime (n : Nat) (s : State) : OnlyTime s (elapse n s) := by
  unfold elapse OnlyTime
  split
  · split <;> rfl
  · rfl

theorem elapseTo_onlyTime (t : Nat) (s : State) : OnlyTime s (elapseTo t s) := elapse_onlyTime _ s

/-- The device clock after `n` ticks. -/
@[simp] theorem elapse_ticks (n : Nat) (s : State) : (elapse n s).clk.ticks = s.clk.ticks + n := by
  unfold elapse
  split
  · split <;> rfl
  · rfl

/-- Waiting for an instant brings the device clock there, unless it has passed. -/
@[simp] theorem elapseTo_ticks (t : Nat) (s : State) : (elapseTo t s).clk.ticks = max s.clk.ticks t := by
  simp [elapseTo]
  omega

@[simp] theorem elapse_inc (n : Nat) (s : State) : (elapse n s).clk.inc = s.clk.inc := by
  unfold elapse
  split
  · split <;> rfl
  · rfl

/-- Waiting for an instant that is here changes nothing. -/
theorem elapse_zero (s : State) : (elapse 0 s).clk.ticks = s.clk.ticks := by simp

/-! ### Registers and interrupts -/

theorem rfSet_onlyReports (a v : Nat) (s : State) : OnlyReports s (rfSet a v s) := rfl
theorem rfOr_onlyReports (a m : Nat) (s : State) : OnlyReports s (rfOr a m s) := rfl
theorem rfClear_onlyReports (a m : Nat) (s : State) : OnlyReports s (rfClear a m s) := rfl
theorem rfBump_onlyReports (a hi lo n : Nat) (s : State) : OnlyReports s (rfBump a hi lo n s) := rfl
theorem alertSet_onlyReports (b : Nat) (s : State) : OnlyReports s (alertSet b s) := rfl

theorem msixSend_onlyReports (v : Nat) (s : State) : OnlyReports s (msixSend v s) := by
  unfold msixSend
  split <;> rfl

theorem vectorEdge_onlyReports (b : State) (v : Nat) (s : State) : OnlyReports s (vectorEdge b v s) := by
  unfold vectorEdge
  split
  · split
    · exact OnlyReports.refl s
    · exact msixSend_onlyReports v s
  · split <;> rfl

theorem irqEdges_onlyReports (b : State) (i : Nat) (s : State) : OnlyReports s (irqEdges b i s) :=
  foldl_onlyReports _ (fun t v => vectorEdge_onlyReports b v t) _ s

theorem irqRaise_onlyReports (i b : Nat) (s : State) : OnlyReports s (irqRaise i b s) :=
  (rfOr_onlyReports _ _ s).trans (irqEdges_onlyReports s i _)

theorem irqWriteEnable_onlyReports (i v : Nat) (s : State) : OnlyReports s (irqWriteEnable i v s) :=
  (rfSet_onlyReports _ _ s).trans (irqEdges_onlyReports s i _)

theorem irqWriteClear_onlyReports (i m : Nat) (s : State) : OnlyReports s (irqWriteClear i m s) := by
  unfold irqWriteClear
  refine (rfClear_onlyReports _ _ s).trans (foldl_onlyReports _ (fun u v => ?_) _ _)
  split
  · exact msixSend_onlyReports v u
  · exact vectorEdge_onlyReports s v u

theorem wakeRequest_onlyReports (s : State) : OnlyReports s (wakeRequest s) := by
  unfold wakeRequest
  split
  · rfl
  · refine ite_onlyReports (OnlyReports.trans ?_ (msixSend_onlyReports 0 _)) (OnlyReports.refl s)
    rfl

theorem wakeSet_onlyReports (b : Nat) (s : State) : OnlyReports s (wakeSet b s) := by
  have h := (rfOr_onlyReports 0x600 (2 ^ b) s).trans (irqRaise_onlyReports 0 2 _)
  unfold wakeSet
  exact ite_onlyReports (h.trans (wakeRequest_onlyReports _)) h

/-! ### Faults -/

theorem srcMod_onlyReports (i : Nat) (f : FaultSrcSt → FaultSrcSt) (s : State) : OnlyReports s (srcMod i f s) := rfl

theorem canaryUpdate_onlyReports (s : State) : OnlyReports s (canaryUpdate s) := rfl

theorem logAppend_onlyReports (w : Nat) (s : State) : OnlyReports s (logAppend w s) := by
  unfold logAppend
  refine ite_onlyReports rfl (OnlyReports.trans ?_ (irqRaise_onlyReports 1 5 _))
  rfl

theorem levelEffects_onlyReports (l : Nat) (s : State) : OnlyReports s (levelEffects l s) := by
  unfold levelEffects
  have h := irqRaise_onlyReports 1 l s
  simp only
  split
  · exact (h.trans (wakeSet_onlyReports 1 _)).trans (alertSet_onlyReports 1 _)
  · split
    · exact (h.trans (wakeSet_onlyReports 1 _)).trans (alertSet_onlyReports 2 _)
    · exact h

theorem faultEventWith_onlyReports (i c d b : Nat) (f : Bool) (s : State) :
    OnlyReports s (faultEventWith i c d b f s) := by
  unfold faultEventWith
  refine OnlyReports.trans ?_ (canaryUpdate_onlyReports _)
  refine OnlyReports.trans ?_ (levelEffects_onlyReports _ _)
  refine ite_onlyReports rfl (OnlyReports.trans ?_ (logAppend_onlyReports _ _))
  rfl

theorem faultEvent_onlyReports (i c d : Nat) (s : State) : OnlyReports s (faultEvent i c d s) :=
  faultEventWith_onlyReports ..

theorem faultForce_onlyReports (i : Nat) (s : State) : OnlyReports s (faultForce i s) := faultEventWith_onlyReports ..

theorem heldEnd_onlyReports (i c : Nat) (s : State) : OnlyReports s (heldEnd i c s) := by
  unfold heldEnd
  refine ite_onlyReports (OnlyReports.trans ?_ (canaryUpdate_onlyReports _)) (OnlyReports.refl s)
  rfl

theorem classRecover_onlyReports (k : Nat) (s : State) : OnlyReports s (classRecover k s) := by
  unfold classRecover
  refine OnlyReports.trans ?_ (canaryUpdate_onlyReports _)
  refine OnlyReports.trans ?_ (irqRaise_onlyReports 1 4 _)
  refine OnlyReports.trans ?_ (logAppend_onlyReports _ _)
  rfl

/-! ### The Tally -/

theorem epochIncrement_onlyTally (s : State) : OnlyTally s (epochIncrement s) := by
  unfold epochIncrement
  refine OnlyTally.trans ?_ (irqRaise_onlyReports 6 0 _).tally'
  rfl

theorem bumpEpoch_onlyTally (s : State) : OnlyTally s (bumpEpoch s) := by
  unfold bumpEpoch
  split
  · exact epochIncrement_onlyTally s
  · split
    · exact epochIncrement_onlyTally s
    · rfl

theorem tallySeen_onlyTally (s : State) (a b : Bool) (x y : Nat) :
    OnlyTally s { s with tally := { s.tally with unbounded := a, degraded := b, traceSeen := x, originSeen := y } } := rfl

theorem tallyRefresh_onlyTally (s : State) : OnlyTally s (tallyRefresh s) := by
  unfold tallyRefresh
  refine OnlyTally.trans (t := _) (OnlyReports.tally' ?_) (tallySeen_onlyTally ..)
  have one := fun (b : Nat) (u : State) => irqRaise_onlyReports 6 b u
  refine ite_onlyReports (OnlyReports.trans ?_ (one 6 _)) ?_ <;>
    refine ite_onlyReports (OnlyReports.trans ?_ (one 3 _)) ?_ <;>
      exact ite_onlyReports (one 1 s) (ite_onlyReports (one 2 s) (OnlyReports.refl s))

theorem seamStop_onlyTally (n : Nat) (s : State) : OnlyTally s (seamStop n s) := by
  unfold seamStop
  refine ite_onlyTally (OnlyTally.refl s) ?_
  refine OnlyTally.trans (t := _) ?_
    (((irqRaise_onlyReports ..).trans (irqRaise_onlyReports ..)).trans (wakeSet_onlyReports ..)).tally'
  rfl

theorem seamResume_onlyTally (n : Nat) (s : State) : OnlyTally s (seamResume n s) := by
  unfold seamResume
  refine OnlyTally.trans ?_ ((irqRaise_onlyReports ..).trans (irqRaise_onlyReports ..)).tally'
  rfl

theorem gateEval_onlyTally (n : Nat) (s : State) : OnlyTally s (gateEval n s) := by
  unfold gateEval
  refine ite_onlyTally (ite_onlyTally (ite_onlyTally ?_ (OnlyTally.refl s)) ?_) (OnlyTally.refl s) <;> rfl

/-! ### The Lode -/

theorem lodeGo_onlyLode (d : LodeState) (s : State) : OnlyLode s (lodeGo d s) := by
  have rep := fun {u v : State} (h : OnlyReports u v) => h.tally'.lode'
  have base : OnlyLode s (lodeMark d s) := rfl
  have s3 : OnlyLode s (if s.lode.state = .holdover ∧ d ≠ .holdover then irqRaise 2 5 (irqRaise 2 0 (lodeMark d s))
      else irqRaise 2 0 (lodeMark d s)) := by
    split
    · exact base.trans (rep ((irqRaise_onlyReports ..).trans (irqRaise_onlyReports ..)))
    · exact base.trans (rep (irqRaise_onlyReports ..))
  unfold lodeGo
  cases d with
  | locked =>
    exact s3.trans (rep (((irqRaise_onlyReports ..).trans (heldEnd_onlyReports ..)).trans (heldEnd_onlyReports ..)))
  | holdover =>
    exact s3.trans (rep (((irqRaise_onlyReports ..).trans (faultEvent_onlyReports ..)).trans (wakeSet_onlyReports ..)))
  | invalid => exact s3.trans (rep (wakeSet_onlyReports ..))
  | free => exact s3
  | acquire => exact s3
  | pull => exact s3

/-- A transition of the Lode changes the state, records the one it leaves, and nothing else of the Lode. -/
@[simp] theorem lodeGo_lode (d : LodeState) (s : State) :
    (lodeGo d s).lode = { s.lode with state := d, was := lodeLog s } := by
  unfold lodeGo
  have rep := fun {u v : State} (h : OnlyReports u v) => h.lode
  have s3 : (if s.lode.state = .holdover ∧ d ≠ .holdover then irqRaise 2 5 (irqRaise 2 0 (lodeMark d s))
      else irqRaise 2 0 (lodeMark d s)).lode = { s.lode with state := d, was := lodeLog s } := by
    split
    · rw [rep (irqRaise_onlyReports ..), rep (irqRaise_onlyReports ..)]; rfl
    · rw [rep (irqRaise_onlyReports ..)]; rfl
  cases d with
  | locked => exact (rep (((irqRaise_onlyReports ..).trans (heldEnd_onlyReports ..)).trans (heldEnd_onlyReports ..))).trans s3
  | holdover => exact (rep (((irqRaise_onlyReports ..).trans (faultEvent_onlyReports ..)).trans (wakeSet_onlyReports ..))).trans s3
  | invalid => exact (rep (wakeSet_onlyReports ..)).trans s3
  | free => exact s3
  | acquire => exact s3
  | pull => exact s3

/-- The marks of a Lode state change leave the time counter and the increment as they are (R54). -/
theorem enterInvalid_onlyLode (s : State) : OnlyLode s (enterInvalid s) := by
  unfold enterInvalid
  refine OnlyLode.trans ?_ (tallyRefresh_onlyTally _).lode'
  refine OnlyLode.trans ?_ (bumpEpoch_onlyTally _).lode'
  refine OnlyLode.trans ?_ (lodeGo_onlyLode _ _)
  rfl

theorem enterAcquire_onlyLode (s : State) : OnlyLode s (enterAcquire s) := by
  unfold enterAcquire
  refine OnlyLode.trans ?_ (tallyRefresh_onlyTally _).lode'
  refine OnlyLode.trans ?_ (lodeGo_onlyLode _ _)
  rfl

theorem startPull_onlyLode (d : Int) (s : State) : OnlyLode s (startPull d s) := by
  unfold startPull
  refine OnlyLode.trans ?_ (tallyRefresh_onlyTally _).lode'
  refine OnlyLode.trans ?_ (bumpEpoch_onlyTally _).lode'
  refine OnlyLode.trans ?_ (irqRaise_onlyReports ..).tally'.lode'
  refine OnlyLode.trans ?_ (lodeGo_onlyLode _ _)
  rfl

/-- Entry to INVALID clears SVC and ends a pull (R61, R62). -/
@[simp] theorem enterInvalid_lode (s : State) :
    (enterInvalid s).lode = { s.lode with svc := false, pullOn := false, rFrozen := 0, state := .invalid, was := lodeLog s } := by
  unfold enterInvalid
  rw [(tallyRefresh_onlyTally _).lode, (bumpEpoch_onlyTally _).lode, lodeGo_lode]
  rfl

@[simp] theorem enterAcquire_lode (s : State) :
    (enterAcquire s).lode = { s.lode with settleTick := none, pullOn := false, rFrozen := 0, state := .acquire, was := lodeLog s } := by
  unfold enterAcquire
  rw [(tallyRefresh_onlyTally _).lode, lodeGo_lode]
  rfl

/-- The limiter starts with the offset `d`, and the state is PULL (R62, R65). -/
@[simp] theorem startPull_lode (d : Int) (s : State) :
    (startPull d s).lode = { s.lode with
      pullFrom := satSigned 64 d, pullTick := s.clk.ticks, pullOn := true, rFrozen := 0
      state := .pull, was := lodeLog s } := by
  unfold startPull
  rw [(tallyRefresh_onlyTally _).lode, (bumpEpoch_onlyTally _).lode, (irqRaise_onlyReports ..).lode, lodeGo_lode]
  rfl

end Sys2Proof.Machine
end

