-- ==== Sys2Proof/Laws/Maps.lean ====
section
/-! SUPPORT. Laws of the sparse maps: reading after writing, which holds of every map, and the canonical form that every update keeps. -/

namespace Sys2Proof.Machine

variable {α : Type} [DecidableEq α] {d : α}

/-! ### Reading after writing -/

omit [DecidableEq α] in
theorem sget_sdel (m : Sparse α) (i j : Nat) : sget d (sdel i m) j = if j = i then d else sget d m j := by
  induction m with
  | nil => simp [sdel, sget]
  | cons e r ih =>
    obtain ⟨k, u⟩ := e
    unfold sdel at *
    by_cases hk : k = i
    · subst hk
      simp only [List.filter, bne_self_eq_false, ih, sget]
      split <;> rfl
    · have : (k != i) = true := by simp [hk]
      simp only [List.filter, this, sget, ih]
      by_cases hj : j = k
      · subst hj
        simp [hk]
      · simp [hj]

omit [DecidableEq α] in
theorem sget_sins_ne (m : Sparse α) {i j : Nat} (h : j ≠ i) (v : α) : sget d (sins i v m) j = sget d m j := by
  induction m with
  | nil => simp [sins, sget, h]
  | cons e r ih =>
    obtain ⟨k, u⟩ := e
    unfold sins
    split
    · simp [sget, h]
    · simp [sget, ih]

omit [DecidableEq α] in
theorem sget_sins_sdel (m : Sparse α) (i : Nat) (v : α) : sget d (sins i v (sdel i m)) i = v := by
  induction m with
  | nil => simp [sdel, sins, sget]
  | cons e r ih =>
    obtain ⟨k, u⟩ := e
    unfold sdel at *
    by_cases hk : k = i
    · simp [List.filter, hk, ih]
    · have h1 : (k != i) = true := by simp [hk]
      have h2 : i ≠ k := fun h => hk h.symm
      simp only [List.filter, h1, sins]
      split
      · simp [sget]
      · simp [sget, h2, ih]

/-- Reading after writing. -/
theorem sget_sput (m : Sparse α) (i j : Nat) (v : α) : sget d (sput d m i v) j = if j = i then v else sget d m j := by
  unfold sput
  split
  · rename_i h
    rw [sget_sdel, h]
  · by_cases h : j = i
    · subst h
      simp [sget_sins_sdel]
    · simp [sget_sins_ne _ h, sget_sdel, h]

@[simp] theorem sget_sput_same (m : Sparse α) (i : Nat) (v : α) : sget d (sput d m i v) i = v := by simp [sget_sput]

theorem sget_sput_ne (m : Sparse α) {i j : Nat} (h : j ≠ i) (v : α) : sget d (sput d m i v) j = sget d m j := by
  simp [sget_sput, h]

theorem sget_smod (m : Sparse α) (i j : Nat) (f : α → α) :
    sget d (smod d m i f) j = if j = i then f (sget d m i) else sget d m j := sget_sput m i j _

@[simp] theorem sget_smod_same (m : Sparse α) (i : Nat) (f : α → α) : sget d (smod d m i f) i = f (sget d m i) := by
  simp [sget_smod]

theorem sget_smod_ne (m : Sparse α) {i j : Nat} (h : j ≠ i) (f : α → α) : sget d (smod d m i f) j = sget d m j :=
  sget_sput_ne m h _

/-- A function that keeps the default acts on every value. -/
theorem sget_smap (m : Sparse α) (f : α → α) (h : f d = d) (j : Nat) : sget d (smap d f m) j = f (sget d m j) := by
  induction m with
  | nil => simp [smap, sget, h]
  | cons e r ih =>
    obtain ⟨k, u⟩ := e
    unfold smap
    split
    · rename_i hf
      rw [sget_sdel]
      by_cases hj : j = k
      · simp [hj, sget, hf]
      · simp [hj, sget, ih]
    · by_cases hj : j = k
      · simp [hj, sget]
      · simp [hj, sget, ih]

omit [DecidableEq α] in
theorem sget_skeep (m : Sparse α) (p : Nat → Bool) (i : Nat) :
    sget d (skeep p m) i = if p i then sget d m i else d := by
  induction m with
  | nil => simp [skeep, sget]
  | cons e r ih =>
    obtain ⟨k, u⟩ := e
    unfold skeep at *
    by_cases h : p k = true
    · by_cases hi : i = k
      · subst hi
        simp [h, sget]
      · simp [h, sget, hi, ih]
    · by_cases hi : i = k
      · subst hi
        simp [h, ih]
      · simp [h, sget, hi, ih]

/-! ### The canonical form -/

theorem swfFrom_mono {lo lo' : Nat} {m : Sparse α} (h : lo' ≤ lo) (w : swfFrom d lo m = true) :
    swfFrom d lo' m = true := by
  cases m with
  | nil => rfl
  | cons e r =>
    simp only [swfFrom, Bool.and_eq_true, decide_eq_true_eq] at *
    exact ⟨⟨by omega, w.1.2⟩, w.2⟩

/-- Below its first index a canonical map reads as the default. -/
theorem sget_below {lo i : Nat} {m : Sparse α} (w : swfFrom d lo m = true) (h : i < lo) : sget d m i = d := by
  induction m generalizing lo with
  | nil => rfl
  | cons e r ih =>
    obtain ⟨k, v⟩ := e
    simp [swfFrom] at w
    have hk : i ≠ k := by omega
    simp [sget, hk, ih w.2 (by omega)]

theorem swfFrom_filter {lo : Nat} {m : Sparse α} (w : swfFrom d lo m = true) (p : Nat × α → Bool) :
    swfFrom d lo (m.filter p) = true := by
  induction m generalizing lo with
  | nil => rfl
  | cons e r ih =>
    obtain ⟨k, u⟩ := e
    simp [swfFrom] at w
    have := ih w.2
    by_cases h : p (k, u) = true
    · simp [h, swfFrom, w, this]
    · simp [h]
      exact swfFrom_mono (by omega) this

theorem swfFrom_sins {lo i : Nat} {v : α} {m : Sparse α} (w : swfFrom d lo m = true) (hl : lo ≤ i) (hv : v ≠ d)
    (ha : ∀ e ∈ m, e.1 ≠ i) : swfFrom d lo (sins i v m) = true := by
  induction m generalizing lo with
  | nil => simp [sins, swfFrom, hv, hl]
  | cons e r ih =>
    obtain ⟨k, u⟩ := e
    simp [swfFrom] at w
    have hk : k ≠ i := ha (k, u) (by simp)
    unfold sins
    split
    · simp [swfFrom, w, hv, hl]
      omega
    · simp [swfFrom, w, ih w.2 (by omega) fun e he => ha e (by simp [he])]

/-- A write keeps the canonical form. -/
theorem swf_sput {m : Sparse α} (w : swf d m = true) (i : Nat) (v : α) : swf d (sput d m i v) = true := by
  unfold swf sput at *
  split
  · exact swfFrom_filter w _
  · rename_i hv
    refine swfFrom_sins (swfFrom_filter w _) (Nat.zero_le i) hv fun e he => ?_
    simp [sdel] at he
    exact he.2

theorem swf_smod {m : Sparse α} (w : swf d m = true) (i : Nat) (f : α → α) : swf d (smod d m i f) = true :=
  swf_sput w i _

theorem swfFrom_smap {lo : Nat} {m : Sparse α} (w : swfFrom d lo m = true) (f : α → α) :
    swfFrom d lo (smap d f m) = true := by
  induction m generalizing lo with
  | nil => rfl
  | cons e r ih =>
    obtain ⟨k, u⟩ := e
    simp [swfFrom] at w
    unfold smap
    split
    · exact swfFrom_mono (by omega) (swfFrom_filter (ih w.2) _)
    · rename_i h
      simp [swfFrom, w, h, ih w.2]

theorem swf_skeep {m : Sparse α} (w : swf d m = true) (p : Nat → Bool) : swf d (skeep p m) = true :=
  swfFrom_filter w _

/-- Canonical maps that read alike are the same list: equal contents are equal data. -/
theorem swfFrom_ext {lo : Nat} {a b : Sparse α} (wa : swfFrom d lo a = true) (wb : swfFrom d lo b = true)
    (h : ∀ i, sget d a i = sget d b i) : a = b := by
  induction a generalizing lo b with
  | nil =>
    cases b with
    | nil => rfl
    | cons e r =>
      obtain ⟨k, u⟩ := e
      simp [swfFrom] at wb
      have := h k
      simp [sget] at this
      exact absurd this.symm wb.1.2
  | cons e r ih =>
    obtain ⟨k, u⟩ := e
    have wa' := wa
    simp [swfFrom] at wa
    cases b with
    | nil =>
      have := h k
      simp [sget] at this
      exact absurd this wa.1.2
    | cons e' r' =>
      obtain ⟨k', u'⟩ := e'
      have wb' := wb
      simp [swfFrom] at wb
      have hk : k = k' := by
        rcases Nat.lt_trichotomy k k' with hlt | heq | hgt
        · have h1 := h k
          have : k ≠ k' := by omega
          simp [sget, this, sget_below wb.2 (show k < k' + 1 by omega)] at h1
          exact absurd h1 wa.1.2
        · exact heq
        · have h1 := h k'
          have : k' ≠ k := by omega
          simp [sget, this, sget_below wa.2 (show k' < k + 1 by omega)] at h1
          exact absurd h1.symm wb.1.2
      subst hk
      have hu : u = u' := by simpa [sget] using h k
      subst hu
      congr 1
      refine ih wa.2 wb.2 fun i => ?_
      by_cases hi : i = k
      · subst hi
        rw [sget_below wa.2 (Nat.lt_succ_self i), sget_below wb.2 (Nat.lt_succ_self i)]
      · simpa [sget, hi] using h i

end Sys2Proof.Machine
end

