-- ==== Sys2Proof/WellFormed.lean ====
section
/-! DEFINITION. When a command is well formed: its operands lie in the ranges that the manual gives them. `exec` answers for every command; these checks say which commands a sender can make. -/

namespace Sys2Proof

open Machine

/-- A 32-bit value. -/
def isWord (n : Nat) : Bool := decide (n < 2 ^ 32)

/-- A 64-bit host address. -/
def isAddr (n : Nat) : Bool := decide (n < 2 ^ 64)

/-- Bytes of a frame. -/
def areBytes (l : List Nat) : Bool := l.all fun b => decide (b < 256)

/-- `n` 32-bit words. -/
def areWords (n : Nat) (l : List Nat) : Bool := decide (l.length = n) && l.all isWord

/-- The operands of a command lie in their ranges. [DESIGN CHOICE, log 5] -/
def Instr.wellFormed : Instr → Bool
  | .powerOn => true
  | .brownOut _ => true
  | .powerDown => true
  | .resetNAssert => true
  | .resetRelease _ _ _ _ => true
  | .bootSelftestDone _p dialBad => dialBad.all (· < 24)
  | .imageReadDone h _o => areBytes (h.getD [])
  | .imageChecksDone => true
  | .pkVerifyDone _ _ => true
  | .imageApplied => true
  | .tbpllInitialLock => true
  | .channelTrainingDone _ _ => true
  | .tbpllLockLoss => true
  | .tbpllRelock => true
  | .realignDecision _ _ => true
  | .loAbsenceDetected => true
  | .loReturn => true
  | .coarseReload => true
  | .refMeasurement _ _ => true
  | .lockSettleExpiry => true
  | .pullEnd => true
  | .holdoverMaxExpiry => true
  | .loCorrectionSample => true
  | .holdoverRateUpdate => true
  | .serviceEnable => true
  | .lodeTimeLatch v => isWord v
  | .leapApplied => true
  | .assayDecisionTick => true
  | .soakExpiry _ => true
  | .holdoffExpiry _ => true
  | .waitToRestoreExpiry _ => true
  | .measurementMissing _ => true
  | .refActivityTimeout _ => true
  | .tauAvgBlockEnd => true
  | .esmcQlDelivered _r ql => decide (ql < 16)
  | .esmcQlTimeout _ => true
  | .ptpAnnounceTimeout _ => true
  | .dialEdge _ _ => true
  | .dialTempRead _ => true
  | .dialBackgroundCheck => true
  | .dialCheckComplete _ _ _ => true
  | .dialCheckAbandon _ => true
  | .dialLineStale _ _ => true
  | .frequencyGateEnd _ => true
  | .dialIntervalTimeout _ => true
  | .dialArm _ => true
  | .dialDisarm _ => true
  | .dialResultRead _ => true
  | .sampleTimeFit _ _ => true
  | .acquisitionDone _n _a _k sv cn0 => decide (sv < 256 ∧ cn0 < 256)
  | .channelLost _ => true
  | .burstWindow _ => true
  | .burstModeChange _ => true
  | .gnssSolution _ _ _ => true
  | .alarmClear _ => true
  | .anchorMove _ => true
  | .ephemerisDecoded _g sv _e _c _p _a _l => decide (sv < 256)
  | .daylSolutionRead _ => true
  | .serviceGateEval => true
  | .seamResume _ => true
  | .epochHoldExpiry => true
  | .tallyLatch v => isWord v
  | .outputStopped _ => true
  | .holdLoopWindow _ _ => true
  | .slewStep _ => true
  | .snapRestart _ => true
  | .rampStart _ => true
  | .rampStop _ => true
  | .rampUpdate _ => true
  | .rampSegmentEnd _ => true
  | .rampHalfRefill _ => true
  | .rampUnderrun _ => true
  | .rampResume => true
  | .todoutSentence _ => true
  | .todinSentence _k b _a => areBytes b
  | .knockCapture _ _ _ => true
  | .knockRead _ => true
  | .bellEnqueue _p v => isWord v
  | .bellFire _ => true
  | .bellEnd _ => true
  | .linkTrainingDone _ _ => true
  | .portLinkUp _ => true
  | .portLinkDown _ => true
  | .portPcsFault _p k => decide (k < 7)
  | .frameReceived _p f _o _u _a => areBytes f
  | .rxStoreAdmit _ _ => true
  | .launchBufferArrival _ _ => true
  | .launchDeadline _ => true
  | .timedLaunch _ => true
  | .frameTxEnd _ _ => true
  | .bestEffortSend _ => true
  | .thetaDecay _ => true
  | .portAdminDown _ => true
  | .portAdminUp _ => true
  | .workItemAssign _ => true
  | .galleryTick g _ => g.2.all (·.1 < 2097152)
  | .ptpMessage p => p.2.all (·.1 < 2097152)
  | .grantExpiry _s i => decide (i < 2097152)
  | .ntpRequest _ => true
  | .ntsRequest p => p.2.all (·.1 < 2097152)
  | .esmcInfoPdu _ => true
  | .esmcEventPdu _ => true
  | .esmcPduReceived _ => true
  | .neighReply _ => true
  | .watchdogExpiry _ => true
  | .pickParityError _ => true
  | .storeUncorrectable _g cell => decide (cell < 4096)
  | .pickSelftest _ => true
  | .pickSelftestDone _ _ => true
  | .galleryFaultFence _g cause => decide (1 ≤ cause ∧ cause ≤ 5)
  | .rebindDone _ => true
  | .readmitBistDone _ _ => true
  | .readmitLoadDone _ => true
  | .readmitWarmDone _ => true
  | .pairReturn _ _ => true
  | .tokenRampStep _ => true
  | .bankLoadDone _ => true
  | .swapDone _ => true
  | .swapDeadline _ => true
  | .stepRateMeasure _g _n slots => slots.all fun e => decide (e.1 < 32)
  | .nop _ => true
  | .ret _ => true
  | .wait _ => true
  | .getf _ _ => true
  | .setf _ _ => true
  | .flen _ _ => true
  | .flenr _ _ => true
  | .kfeed _ _ _ _ => true
  | .kres _ _ _ => true
  | .kinit _ _ => true
  | .mov _ _ _ => true
  | .add _ _ _ => true
  | .adc _ _ _ => true
  | .sub _ _ _ => true
  | .sbc _ _ _ => true
  | .and _ _ _ => true
  | .or _ _ _ => true
  | .xor _ _ _ => true
  | .cmp _ _ _ => true
  | .tst _ _ _ => true
  | .movi _ _ _ => true
  | .addi _ _ _ => true
  | .adci _ _ _ => true
  | .subi _ _ _ => true
  | .sbci _ _ _ => true
  | .andi _ _ _ => true
  | .ori _ _ _ => true
  | .xori _ _ _ => true
  | .cmpi _ _ _ => true
  | .tsti _ _ _ => true
  | .shl _ _ _ => true
  | .shr _ _ _ => true
  | .rol _ _ _ => true
  | .ror _ _ _ => true
  | .not _ _ => true
  | .neg _ _ => true
  | .bit _ _ _ => true
  | .setb _ _ _ => true
  | .clrb _ _ _ => true
  | .ldn _ _ _ _ => true
  | .stn _ _ _ _ => true
  | .fmov _ _ _ _ _ => true
  | .fadd _ _ _ _ _ => true
  | .fadc _ _ _ _ _ => true
  | .fsub _ _ _ _ _ => true
  | .fsbc _ _ _ _ _ => true
  | .fand _ _ _ _ _ => true
  | .fieldOr _ _ _ _ _ => true
  | .fxor _ _ _ _ _ => true
  | .fcmp _ _ _ _ _ => true
  | .ftst _ _ _ _ _ => true
  | .ffill _ _ _ _ => true
  | .faddn _ _ _ _ => true
  | .fadcn _ _ _ _ => true
  | .fsubn _ _ _ _ => true
  | .fcmpn _ _ _ _ => true
  | .fget _ _ _ _ => true
  | .fput _ _ _ _ => true
  | .fshl _ _ _ => true
  | .fshr _ _ _ => true
  | .faddi _ _ _ => true
  | .fset _ _ _ _ => true
  | .fcpy _ _ _ => true
  | .fldp _ _ _ => true
  | .fstp _ _ _ => true
  | .faddb _ _ _ => true
  | .faddr _ _ _ => true
  | .faddw _ _ _ => true
  | .fspace _ _ _ => true
  | .bra _ _ => true
  | .beq _ _ => true
  | .bne _ _ => true
  | .bcs _ _ => true
  | .bcc _ _ => true
  | .bmi _ _ => true
  | .bpl _ _ => true
  | .bhi _ _ => true
  | .call _ _ => true
  | .jmp _ _ => true
  | .djnz _ _ _ => true
  | .programFetchOverrun _ => true
  | .sessionGet p _ _ => p.2.all (· < 2097152)
  | .sessionGetResult _ _ _ => true
  | .sessionPut p _ => p.2.all (· < 2097152)
  | .sessionPutDone _ => true
  | .crypto _ _ _ => true
  | .cryptoResult _ _ => true
  | .stamp _ _ => true
  | .emit _ _ => true
  | .emitRelease _ => true
  | .drop _ => true
  | .count _ _ => true
  | .inbox _ _ => true
  | .inboxDataLanded _ => true
  | .lotteryDraw _t progress => progress.all (· ≤ 16)
  | .quotaRevoke _t progress => decide (progress.1 ≤ 16) && progress.2.all (· ≤ 16)
  | .shaftCommit v => isWord v
  | .patrolScrub _m _c bad _d dirBad => bad.all (· < 2097152) && dirBad.all (· < 2097152)
  | .ddrRefresh _ => true
  | .ddrAccessRelease _ _ => true
  | .laneSelftest _ => true
  | .laneSelftestDone _ _ => true
  | .haulBodyIssue _ => true
  | .haulBody _ => true
  | .haulBodyDeadline _ => true
  | .haulFrameLaunch => true
  | .haulDelayReqSend => true
  | .keyReqSend _ => true
  | .keyRepeatSend _ => true
  | .haulKeyRx _l f _a => areBytes f
  | .haulDeltaRx _l f _a => areBytes f
  | .haulKeyRepeatRx _l f _a => areBytes f
  | .haulDelayReqRx _l f _a => areBytes f
  | .haulKeyReqRx _l f _a => areBytes f
  | .twinFrameRx _l f _a => areBytes f
  | .haulRelease _ => true
  | .haulCopyRelease _ => true
  | .splitWaitExpiry _ => true
  | .haulLinkUp _ => true
  | .haulLinkDown _ => true
  | .joinWindowExpiry => true
  | .followQualify => true
  | .peerLost => true
  | .peerCanaryEdge => true
  | .peerCanaryStop => true
  | .snapshotPeriodic => true
  | .snapshotSaveDone _ => true
  | .amendmentLogWritten _ => true
  | .amendmentActivation => true
  | .nopCommand _ => true
  | .surveyLoad _s addr len _f => isAddr addr && isWord len
  | .surveyAmend _s addr len _f => isAddr addr && isWord len
  | .svnCommit _ => true
  | .keyWrite _s slot attr label value => isWord slot && isWord attr && isWord label && areWords 8 value
  | .keyErase _s slot => isWord slot
  | .attest _s nonce slot => areWords 8 nonce && isWord slot
  | .privDrop _ => true
  | .lifecycleAdvance _s t => isWord t
  | .selftest _s g => isWord g
  | .galleryFence _s g => isWord g
  | .galleryReadmit _s g => isWord g
  | .pickReadmit _s p => isWord p
  | .dialCheck _ => true
  | .snapshotSave _ => true
  | .snapshotRestore _s addr len _b => isAddr addr && isWord len
  | .faultAck _s i a => isWord i && isWord a
  | .deviceReset _s m => isWord m
  | .pcieReset _ => true
  | .unknownCommand _s c => decide (c < 256) && !knownCode c
  | .mailboxCommandEnd _ => true
  | .vfMailboxCommand _v c => decide (c < 256)
  | .vfMailboxAnswer _ => true
  | .spiRead a n => isWord a && decide (a % 4 = 0 ∧ 1 ≤ n ∧ n ≤ 64)
  | .spiWrite a l c => isWord a && isWord c.2 && decide (a % 4 = 0 ∧ c.1 < 2 ^ 16 ∧ 1 ≤ l.length ∧ l.length ≤ 64) && l.all isWord
  | .snapRead o n => isWord o && decide (o % 4 = 0 ∧ 1 ≤ n ∧ n ≤ 64)
  | .spiUnknownOpcode op => decide (op < 256 ∧ op ≠ 0x0B ∧ op ≠ 0x02 ∧ op ≠ 0x0C)
  | .pfFlr => true
  | .vfFlr _ => true
  | .perst => true
  | .powerStateChange _ => true
  | .linkL1Exit => true
  | .msixUnmask v => decide (v < 128)
  | .w1cWrite _m a d => decide (a % 4 = 0) && isWord d
  | .readClear _m a => decide (a % 4 = 0)
  | .registerWrite _m a d => decide (a % 4 = 0) && isWord d
  | .faultEvent _s cause detail => decide (cause < 16 ∧ detail < 1024)
  | .railOutOfLimits rail _o => decide (rail < 7)
  | .thermalThreshold sensor _l _o => decide (sensor < 16)
  | .heldCauseEnd _s cause => decide (cause < 16)
  | .faultWindowClose _ => true
  | .classRecovery _ => true
  | .faultForce j mask => decide (j < 10) && isWord mask
  | .foremanHeartbeat => true
  | .foremanStall => true
  | .canaryEdge => true
  | .occupancySample => true
  | .wbrCommit v => isWord v
  | .wbrSnapshotArm v => isWord v
  | .wbrSnapshotCapture _ => true
  | .wbrCounterRead a => decide (a % 8 = 0)
  | .pcsFaultClear _p k => decide (k < 7)
  | .linkL1Entry => true
  | .configRetryEnd => true
  | .spiAccessStart => true
  | .firstPulse _ => true

end Sys2Proof
end

