-- ==== Sys2Proof/Laws/PerInstr.lean ====
section
/-! SUPPORT. What holds of every command as syntax, one lemma for each constructor: an instruction of a pick that has a word is well formed, and a mailbox command has no word and writes arguments of 32 bits. -/

namespace Sys2Proof.Laws.Admits

open Machine Safety

/-- A pick's word spells a well-formed instruction; a mailbox command has no such word, and the arguments that a
well-formed one writes are 32-bit words. -/
def Statement (i : Instr) : Prop :=
  (∀ w, encodePick i = some w → i.wellFormed = true) ∧
  (∀ m, mailboxOf i = some m → encodePick i = none ∧ (i.wellFormed = true → ∀ x ∈ m.2.2.2, x < 2 ^ 32))

theorem of_none {i : Instr} (h : encodePick i = none) (k : mailboxOf i = none) : Statement i :=
  ⟨fun _ e => (nomatch h.symm.trans e), fun _ e => (nomatch k.symm.trans e)⟩

theorem of_pick {i : Instr} (h : i.wellFormed = true) (k : mailboxOf i = none) : Statement i :=
  ⟨fun _ _ => h, fun _ e => (nomatch k.symm.trans e)⟩

theorem of_mailbox {i : Instr} {m : MbxSrc × Nat × Nat × List Nat} (h : encodePick i = none) (k : mailboxOf i = some m)
    (l : i.wellFormed = true → ∀ x ∈ m.2.2.2, x < 2 ^ 32) : Statement i :=
  ⟨fun _ e => (nomatch h.symm.trans e), fun _ e => ⟨h, Option.some.inj (k.symm.trans e) ▸ l⟩⟩

/-- Words, filled with zeros to a fixed number, are words. -/
theorem words_fit (n k : Nat) (l : List Nat) (h : l.all isWord = true) :
    ∀ x ∈ (l ++ List.replicate k 0).take n, x < 2 ^ 32 := by
  intro x hx
  rcases List.mem_append.mp (List.mem_of_mem_take hx) with hx | hx
  · exact of_decide_eq_true (show isWord x = true from List.all_eq_true.mp h x hx)
  · rw [List.eq_of_mem_replicate hx]
    decide

/-- The two halves of a 64-bit address and a length are words. -/
theorem addr_words (a n : Nat) (h : (isAddr a && isWord n) = true) :
    ∀ x ∈ [a % 2 ^ 32, a / 2 ^ 32, n], x < 2 ^ 32 := by
  simp only [isAddr, isWord, Bool.and_eq_true, decide_eq_true_eq] at h
  intro x hx
  simp only [List.mem_cons, List.not_mem_nil, or_false] at hx
  omega

theorem powerOn : Statement .powerOn := of_none rfl rfl

theorem brownOut (rail : Fin 7) : Statement (.brownOut rail) := of_none rfl rfl

theorem powerDown : Statement .powerDown := of_none rfl rfl

theorem resetNAssert : Statement .resetNAssert := of_none rfl rfl

theorem resetRelease (pin : Bool) (bootSrc : Fin 4) (addr4 flash64 : Bool) : Statement (.resetRelease pin bootSrc addr4 flash64) := of_none rfl rfl

theorem bootSelftestDone (pass : Bool) (dialBad : List Nat) : Statement (.bootSelftestDone pass dialBad) := of_none rfl rfl

theorem imageReadDone (host : Option (List Nat)) (ok : Bool) : Statement (.imageReadDone host ok) := of_none rfl rfl

theorem imageChecksDone : Statement .imageChecksDone := of_none rfl rfl

theorem pkVerifyDone (unit : Fin 2) (valid : Bool) : Statement (.pkVerifyDone unit valid) := of_none rfl rfl

theorem imageApplied : Statement .imageApplied := of_none rfl rfl

theorem tbpllInitialLock : Statement .tbpllInitialLock := of_none rfl rfl

theorem channelTrainingDone (m : ChanNo) (ok : Bool) : Statement (.channelTrainingDone m ok) := of_none rfl rfl

theorem tbpllLockLoss : Statement .tbpllLockLoss := of_none rfl rfl

theorem tbpllRelock : Statement .tbpllRelock := of_none rfl rfl

theorem realignDecision (fine : Nat) (theta : Option Int) : Statement (.realignDecision fine theta) := of_none rfl rfl

theorem loAbsenceDetected : Statement .loAbsenceDetected := of_none rfl rfl

theorem loReturn : Statement .loReturn := of_none rfl rfl

theorem coarseReload : Statement .coarseReload := of_none rfl rfl

theorem refMeasurement (ref : RefId) (m : Option (Int × Nat)) : Statement (.refMeasurement ref m) := of_none rfl rfl

theorem lockSettleExpiry : Statement .lockSettleExpiry := of_none rfl rfl

theorem pullEnd : Statement .pullEnd := of_none rfl rfl

theorem holdoverMaxExpiry : Statement .holdoverMaxExpiry := of_none rfl rfl

theorem loCorrectionSample : Statement .loCorrectionSample := of_none rfl rfl

theorem holdoverRateUpdate : Statement .holdoverRateUpdate := of_none rfl rfl

theorem serviceEnable : Statement .serviceEnable := of_none rfl rfl

theorem lodeTimeLatch (v : Nat) : Statement (.lodeTimeLatch v) := of_none rfl rfl

theorem leapApplied : Statement .leapApplied := of_none rfl rfl

theorem assayDecisionTick : Statement .assayDecisionTick := of_none rfl rfl

theorem soakExpiry (ref : RefId) : Statement (.soakExpiry ref) := of_none rfl rfl

theorem holdoffExpiry (ref : RefId) : Statement (.holdoffExpiry ref) := of_none rfl rfl

theorem waitToRestoreExpiry (ref : RefId) : Statement (.waitToRestoreExpiry ref) := of_none rfl rfl

theorem measurementMissing (ref : RefId) : Statement (.measurementMissing ref) := of_none rfl rfl

theorem refActivityTimeout (ref : RefId) : Statement (.refActivityTimeout ref) := of_none rfl rfl

theorem tauAvgBlockEnd : Statement .tauAvgBlockEnd := of_none rfl rfl

theorem esmcQlDelivered (ref : RefId) (ql : Nat) : Statement (.esmcQlDelivered ref ql) := of_none rfl rfl

theorem esmcQlTimeout (ref : RefId) : Statement (.esmcQlTimeout ref) := of_none rfl rfl

theorem ptpAnnounceTimeout (ref : RefId) : Statement (.ptpAnnounceTimeout ref) := of_none rfl rfl

theorem dialEdge (ch : DialCh) (code : PinEdge) : Statement (.dialEdge ch code) := of_none rfl rfl

theorem dialTempRead (temp : Int) : Statement (.dialTempRead temp) := of_none rfl rfl

theorem dialBackgroundCheck : Statement .dialBackgroundCheck := of_none rfl rfl

theorem dialCheckComplete (ch : DialCh) (line1 : Bool) (mu : List (List (Nat × Nat))) : Statement (.dialCheckComplete ch line1 mu) := of_none rfl rfl

theorem dialCheckAbandon (ch : DialCh) : Statement (.dialCheckAbandon ch) := of_none rfl rfl

theorem dialLineStale (ch : DialCh) (line1 : Bool) : Statement (.dialLineStale ch line1) := of_none rfl rfl

theorem frequencyGateEnd (ch : DialCh) : Statement (.frequencyGateEnd ch) := of_none rfl rfl

theorem dialIntervalTimeout (ch : DialCh) : Statement (.dialIntervalTimeout ch) := of_none rfl rfl

theorem dialArm (ch : DialCh) : Statement (.dialArm ch) := of_none rfl rfl

theorem dialDisarm (ch : DialCh) : Statement (.dialDisarm ch) := of_none rfl rfl

theorem dialResultRead (ch : DialCh) : Statement (.dialResultRead ch) := of_none rfl rfl

theorem sampleTimeFit (a : Ant) (ok : Bool) : Statement (.sampleTimeFit a ok) := of_none rfl rfl

theorem acquisitionDone (n : Fin 384) (a : Ant) (signal : Fin 9) (sv cn0 : Nat) : Statement (.acquisitionDone n a signal sv cn0) := of_none rfl rfl

theorem channelLost (n : Fin 384) : Statement (.channelLost n) := of_none rfl rfl

theorem burstWindow (a : Ant) : Statement (.burstWindow a) := of_none rfl rfl

theorem burstModeChange (a : Ant) : Statement (.burstModeChange a) := of_none rfl rfl

theorem gnssSolution (oa ob : Option AntObs) (geom : List (Nat × Nat)) : Statement (.gnssSolution oa ob geom) := of_none rfl rfl

theorem alarmClear (a : Ant) : Statement (.alarmClear a) := of_none rfl rfl

theorem anchorMove (a : Ant) : Statement (.anchorMove a) := of_none rfl rfl

theorem ephemerisDecoded (sys : Fin 9) (sv : Nat) (eph : Option (Nat × Nat)) (cached previous alm : Option Nat) (leap : NavData) : Statement (.ephemerisDecoded sys sv eph cached previous alm leap) := of_none rfl rfl

theorem daylSolutionRead (a : Ant) : Statement (.daylSolutionRead a) := of_none rfl rfl

theorem serviceGateEval : Statement .serviceGateEval := of_none rfl rfl

theorem seamResume (seam : SeamNo) : Statement (.seamResume seam) := of_none rfl rfl

theorem epochHoldExpiry : Statement .epochHoldExpiry := of_none rfl rfl

theorem tallyLatch (v : Nat) : Statement (.tallyLatch v) := of_none rfl rfl

theorem outputStopped (m : OutNo) : Statement (.outputStopped m) := of_none rfl rfl

theorem holdLoopWindow (m : OutNo) (phi : Option Int) : Statement (.holdLoopWindow m phi) := of_none rfl rfl

theorem slewStep (m : OutNo) : Statement (.slewStep m) := of_none rfl rfl

theorem snapRestart (m : OutNo) : Statement (.snapRestart m) := of_none rfl rfl

theorem rampStart (n : SynNo) : Statement (.rampStart n) := of_none rfl rfl

theorem rampStop (n : SynNo) : Statement (.rampStop n) := of_none rfl rfl

theorem rampUpdate (n : SynNo) : Statement (.rampUpdate n) := of_none rfl rfl

theorem rampSegmentEnd (n : SynNo) : Statement (.rampSegmentEnd n) := of_none rfl rfl

theorem rampHalfRefill (n : SynNo) : Statement (.rampHalfRefill n) := of_none rfl rfl

theorem rampUnderrun (n : SynNo) : Statement (.rampUnderrun n) := of_none rfl rfl

theorem rampResume : Statement .rampResume := of_none rfl rfl

theorem todoutSentence (k : Ant) : Statement (.todoutSentence k) := of_none rfl rfl

theorem todinSentence (k : Ant) (bytes : List Nat) (startAgo : Nat) : Statement (.todinSentence k bytes startAgo) := of_none rfl rfl

theorem knockCapture (p : EvNo) (rise : Bool) (code : PinEdge) : Statement (.knockCapture p rise code) := of_none rfl rfl

theorem knockRead (p : EvNo) : Statement (.knockRead p) := of_none rfl rfl

theorem bellEnqueue (p : EvNo) (v : Nat) : Statement (.bellEnqueue p v) := of_none rfl rfl

theorem bellFire (p : EvNo) : Statement (.bellFire p) := of_none rfl rfl

theorem bellEnd (p : EvNo) : Statement (.bellEnd p) := of_none rfl rfl

theorem linkTrainingDone (p : PortNo) (ok : Bool) : Statement (.linkTrainingDone p ok) := of_none rfl rfl

theorem portLinkUp (p : PortNo) : Statement (.portLinkUp p) := of_none rfl rfl

theorem portLinkDown (p : PortNo) : Statement (.portLinkDown p) := of_none rfl rfl

theorem portPcsFault (p : PortNo) (kind : Nat) : Statement (.portPcsFault p kind) := of_none rfl rfl

theorem frameReceived (p : PortNo) (f : List Nat) (fcsOk uncorr : Bool) (tag : WordTag) : Statement (.frameReceived p f fcsOk uncorr tag) := of_none rfl rfl

theorem rxStoreAdmit (p : PortNo) (pathOk : Bool) : Statement (.rxStoreAdmit p pathOk) := of_none rfl rfl

theorem launchBufferArrival (p : PortNo) (pathOk : Bool) : Statement (.launchBufferArrival p pathOk) := of_none rfl rfl

theorem launchDeadline (p : PortNo) : Statement (.launchDeadline p) := of_none rfl rfl

theorem timedLaunch (p : PortNo) : Statement (.timedLaunch p) := of_none rfl rfl

theorem frameTxEnd (p : PortNo) (confirmed : Bool) : Statement (.frameTxEnd p confirmed) := of_none rfl rfl

theorem bestEffortSend (p : PortNo) : Statement (.bestEffortSend p) := of_none rfl rfl

theorem thetaDecay (p : PortNo) : Statement (.thetaDecay p) := of_none rfl rfl

theorem portAdminDown (p : PortNo) : Statement (.portAdminDown p) := of_none rfl rfl

theorem portAdminUp (p : PortNo) : Statement (.portAdminUp p) := of_none rfl rfl

theorem workItemAssign (pick : PickNo) : Statement (.workItemAssign pick) := of_none rfl rfl

theorem galleryTick (g : GalNo × List (Nat × ReadErr)) (k : Fin 4) : Statement (.galleryTick g k) := of_none rfl rfl

theorem ptpMessage (pick : PickNo × List (Nat × ReadErr)) : Statement (.ptpMessage pick) := of_none rfl rfl

theorem grantExpiry (seam : SeamNo) (i : Nat) : Statement (.grantExpiry seam i) := of_none rfl rfl

theorem ntpRequest (pick : PickNo) : Statement (.ntpRequest pick) := of_none rfl rfl

theorem ntsRequest (pick : PickNo × List (Nat × ReadErr)) : Statement (.ntsRequest pick) := of_none rfl rfl

theorem esmcInfoPdu (p : PortNo) : Statement (.esmcInfoPdu p) := of_none rfl rfl

theorem esmcEventPdu (p : PortNo) : Statement (.esmcEventPdu p) := of_none rfl rfl

theorem esmcPduReceived (pick : PickNo) : Statement (.esmcPduReceived pick) := of_none rfl rfl

theorem neighReply (pick : PickNo) : Statement (.neighReply pick) := of_none rfl rfl

theorem watchdogExpiry (pick : PickNo) : Statement (.watchdogExpiry pick) := of_none rfl rfl

theorem pickParityError (pick : PickNo) : Statement (.pickParityError pick) := of_none rfl rfl

theorem storeUncorrectable (g : GalNo) (cell : Nat) : Statement (.storeUncorrectable g cell) := of_none rfl rfl

theorem pickSelftest (pick : PickNo) : Statement (.pickSelftest pick) := of_none rfl rfl

theorem pickSelftestDone (pick : PickNo) (pass : Bool) : Statement (.pickSelftestDone pick pass) := of_none rfl rfl

theorem galleryFaultFence (g : GalNo) (cause : Nat) : Statement (.galleryFaultFence g cause) := of_none rfl rfl

theorem rebindDone (g : GalNo) : Statement (.rebindDone g) := of_none rfl rfl

theorem readmitBistDone (g : GalNo) (pass : Bool) : Statement (.readmitBistDone g pass) := of_none rfl rfl

theorem readmitLoadDone (g : GalNo) : Statement (.readmitLoadDone g) := of_none rfl rfl

theorem readmitWarmDone (g : GalNo) : Statement (.readmitWarmDone g) := of_none rfl rfl

theorem pairReturn (p : PortNo) (seam : SeamNo) : Statement (.pairReturn p seam) := of_none rfl rfl

theorem tokenRampStep (g : GalNo) : Statement (.tokenRampStep g) := of_none rfl rfl

theorem bankLoadDone (g : GalNo) : Statement (.bankLoadDone g) := of_none rfl rfl

theorem swapDone (g : GalNo) : Statement (.swapDone g) := of_none rfl rfl

theorem swapDeadline (g : GalNo) : Statement (.swapDeadline g) := of_none rfl rfl

theorem stepRateMeasure (g : GalNo) (steps : Nat) (slots : List (Nat × Nat × Nat)) : Statement (.stepRateMeasure g steps slots) := of_none rfl rfl

theorem nop (pick : PickNo) : Statement (.nop pick) := of_pick rfl rfl

theorem ret (pick : PickNo) : Statement (.ret pick) := of_pick rfl rfl

theorem wait (pick : PickNo) : Statement (.wait pick) := of_pick rfl rfl

theorem getf (pick : PickNo) (d : Reg) : Statement (.getf pick d) := of_pick rfl rfl

theorem setf (pick : PickNo) (n : Reg) : Statement (.setf pick n) := of_pick rfl rfl

theorem flen (pick : PickNo) (x : Fin 32) : Statement (.flen pick x) := of_pick rfl rfl

theorem flenr (pick : PickNo) (n : Reg) : Statement (.flenr pick n) := of_pick rfl rfl

theorem kfeed (pick : PickNo) (k i : Ptr) (w : Fin 3) : Statement (.kfeed pick k i w) := of_pick rfl rfl

theorem kres (pick : PickNo) (k i : Ptr) : Statement (.kres pick k i) := of_pick rfl rfl

theorem kinit (pick : PickNo) (k : Ptr) : Statement (.kinit pick k) := of_pick rfl rfl

theorem mov (pick : PickNo) (d n : Reg) : Statement (.mov pick d n) := of_pick rfl rfl

theorem add (pick : PickNo) (d n : Reg) : Statement (.add pick d n) := of_pick rfl rfl

theorem adc (pick : PickNo) (d n : Reg) : Statement (.adc pick d n) := of_pick rfl rfl

theorem sub (pick : PickNo) (d n : Reg) : Statement (.sub pick d n) := of_pick rfl rfl

theorem sbc (pick : PickNo) (d n : Reg) : Statement (.sbc pick d n) := of_pick rfl rfl

theorem and (pick : PickNo) (d n : Reg) : Statement (.and pick d n) := of_pick rfl rfl

theorem or (pick : PickNo) (d n : Reg) : Statement (.or pick d n) := of_pick rfl rfl

theorem xor (pick : PickNo) (d n : Reg) : Statement (.xor pick d n) := of_pick rfl rfl

theorem cmp (pick : PickNo) (d n : Reg) : Statement (.cmp pick d n) := of_pick rfl rfl

theorem tst (pick : PickNo) (d n : Reg) : Statement (.tst pick d n) := of_pick rfl rfl

theorem movi (pick : PickNo) (d : Reg) (x : Fin 16) : Statement (.movi pick d x) := of_pick rfl rfl

theorem addi (pick : PickNo) (d : Reg) (x : Fin 16) : Statement (.addi pick d x) := of_pick rfl rfl

theorem adci (pick : PickNo) (d : Reg) (x : Fin 16) : Statement (.adci pick d x) := of_pick rfl rfl

theorem subi (pick : PickNo) (d : Reg) (x : Fin 16) : Statement (.subi pick d x) := of_pick rfl rfl

theorem sbci (pick : PickNo) (d : Reg) (x : Fin 16) : Statement (.sbci pick d x) := of_pick rfl rfl

theorem andi (pick : PickNo) (d : Reg) (x : Fin 16) : Statement (.andi pick d x) := of_pick rfl rfl

theorem ori (pick : PickNo) (d : Reg) (x : Fin 16) : Statement (.ori pick d x) := of_pick rfl rfl

theorem xori (pick : PickNo) (d : Reg) (x : Fin 16) : Statement (.xori pick d x) := of_pick rfl rfl

theorem cmpi (pick : PickNo) (d : Reg) (x : Fin 16) : Statement (.cmpi pick d x) := of_pick rfl rfl

theorem tsti (pick : PickNo) (d : Reg) (x : Fin 16) : Statement (.tsti pick d x) := of_pick rfl rfl

theorem shl (pick : PickNo) (d : Reg) (x : Fin 4) : Statement (.shl pick d x) := of_pick rfl rfl

theorem shr (pick : PickNo) (d : Reg) (x : Fin 4) : Statement (.shr pick d x) := of_pick rfl rfl

theorem rol (pick : PickNo) (d : Reg) (x : Fin 4) : Statement (.rol pick d x) := of_pick rfl rfl

theorem ror (pick : PickNo) (d : Reg) (x : Fin 4) : Statement (.ror pick d x) := of_pick rfl rfl

theorem not (pick : PickNo) (d : Reg) : Statement (.not pick d) := of_pick rfl rfl

theorem neg (pick : PickNo) (d : Reg) : Statement (.neg pick d) := of_pick rfl rfl

theorem bit (pick : PickNo) (d : Reg) (x : Fin 4) : Statement (.bit pick d x) := of_pick rfl rfl

theorem setb (pick : PickNo) (d : Reg) (x : Fin 4) : Statement (.setb pick d x) := of_pick rfl rfl

theorem clrb (pick : PickNo) (d : Reg) (x : Fin 4) : Statement (.clrb pick d x) := of_pick rfl rfl

theorem ldn (pick : PickNo) (d : Reg) (i : Ptr) (x : Fin 32) : Statement (.ldn pick d i x) := of_pick rfl rfl

theorem stn (pick : PickNo) (n : Reg) (i : Ptr) (x : Fin 32) : Statement (.stn pick n i x) := of_pick rfl rfl

theorem fmov (pick : PickNo) (i j : Ptr) (ai aj : Bool) : Statement (.fmov pick i j ai aj) := of_pick rfl rfl

theorem fadd (pick : PickNo) (i j : Ptr) (ai aj : Bool) : Statement (.fadd pick i j ai aj) := of_pick rfl rfl

theorem fadc (pick : PickNo) (i j : Ptr) (ai aj : Bool) : Statement (.fadc pick i j ai aj) := of_pick rfl rfl

theorem fsub (pick : PickNo) (i j : Ptr) (ai aj : Bool) : Statement (.fsub pick i j ai aj) := of_pick rfl rfl

theorem fsbc (pick : PickNo) (i j : Ptr) (ai aj : Bool) : Statement (.fsbc pick i j ai aj) := of_pick rfl rfl

theorem fand (pick : PickNo) (i j : Ptr) (ai aj : Bool) : Statement (.fand pick i j ai aj) := of_pick rfl rfl

theorem fieldOr (pick : PickNo) (i j : Ptr) (ai aj : Bool) : Statement (.fieldOr pick i j ai aj) := of_pick rfl rfl

theorem fxor (pick : PickNo) (i j : Ptr) (ai aj : Bool) : Statement (.fxor pick i j ai aj) := of_pick rfl rfl

theorem fcmp (pick : PickNo) (i j : Ptr) (ai aj : Bool) : Statement (.fcmp pick i j ai aj) := of_pick rfl rfl

theorem ftst (pick : PickNo) (i j : Ptr) (ai aj : Bool) : Statement (.ftst pick i j ai aj) := of_pick rfl rfl

theorem ffill (pick : PickNo) (i : Ptr) (a : Bool) (n : Reg) : Statement (.ffill pick i a n) := of_pick rfl rfl

theorem faddn (pick : PickNo) (i : Ptr) (a : Bool) (n : Reg) : Statement (.faddn pick i a n) := of_pick rfl rfl

theorem fadcn (pick : PickNo) (i : Ptr) (a : Bool) (n : Reg) : Statement (.fadcn pick i a n) := of_pick rfl rfl

theorem fsubn (pick : PickNo) (i : Ptr) (a : Bool) (n : Reg) : Statement (.fsubn pick i a n) := of_pick rfl rfl

theorem fcmpn (pick : PickNo) (i : Ptr) (a : Bool) (n : Reg) : Statement (.fcmpn pick i a n) := of_pick rfl rfl

theorem fget (pick : PickNo) (i : Ptr) (a : Bool) (n : Reg) : Statement (.fget pick i a n) := of_pick rfl rfl

theorem fput (pick : PickNo) (i : Ptr) (a : Bool) (n : Reg) : Statement (.fput pick i a n) := of_pick rfl rfl

theorem fshl (pick : PickNo) (i : Ptr) (a : Bool) : Statement (.fshl pick i a) := of_pick rfl rfl

theorem fshr (pick : PickNo) (i : Ptr) (a : Bool) : Statement (.fshr pick i a) := of_pick rfl rfl

theorem faddi (pick : PickNo) (i : Ptr) (x : Fin 512) : Statement (.faddi pick i x) := of_pick rfl rfl

theorem fset (pick : PickNo) (i : Ptr) (sp : Fin 4) (x : Fin 128) : Statement (.fset pick i sp x) := of_pick rfl rfl

theorem fcpy (pick : PickNo) (i j : Ptr) : Statement (.fcpy pick i j) := of_pick rfl rfl

theorem fldp (pick : PickNo) (i j : Ptr) : Statement (.fldp pick i j) := of_pick rfl rfl

theorem fstp (pick : PickNo) (i j : Ptr) : Statement (.fstp pick i j) := of_pick rfl rfl

theorem faddb (pick : PickNo) (i j : Ptr) : Statement (.faddb pick i j) := of_pick rfl rfl

theorem faddr (pick : PickNo) (i : Ptr) (n : Reg) : Statement (.faddr pick i n) := of_pick rfl rfl

theorem faddw (pick : PickNo) (i : Ptr) (n : Reg) : Statement (.faddw pick i n) := of_pick rfl rfl

theorem fspace (pick : PickNo) (i : Ptr) (sp : Fin 4) : Statement (.fspace pick i sp) := of_pick rfl rfl

theorem bra (pick : PickNo) (o : Fin 512) : Statement (.bra pick o) := of_pick rfl rfl

theorem beq (pick : PickNo) (o : Fin 512) : Statement (.beq pick o) := of_pick rfl rfl

theorem bne (pick : PickNo) (o : Fin 512) : Statement (.bne pick o) := of_pick rfl rfl

theorem bcs (pick : PickNo) (o : Fin 512) : Statement (.bcs pick o) := of_pick rfl rfl

theorem bcc (pick : PickNo) (o : Fin 512) : Statement (.bcc pick o) := of_pick rfl rfl

theorem bmi (pick : PickNo) (o : Fin 512) : Statement (.bmi pick o) := of_pick rfl rfl

theorem bpl (pick : PickNo) (o : Fin 512) : Statement (.bpl pick o) := of_pick rfl rfl

theorem bhi (pick : PickNo) (o : Fin 512) : Statement (.bhi pick o) := of_pick rfl rfl

theorem call (pick : PickNo) (o : Fin 4096) : Statement (.call pick o) := of_pick rfl rfl

theorem jmp (pick : PickNo) (o : Fin 4096) : Statement (.jmp pick o) := of_pick rfl rfl

theorem djnz (pick : PickNo) (d : Reg) (o : Fin 256) : Statement (.djnz pick d o) := of_pick rfl rfl

theorem programFetchOverrun (pick : PickNo) : Statement (.programFetchOverrun pick) := of_none rfl rfl

theorem sessionGet (pick : PickNo × List Nat) (i : Ptr) (nowait : Bool) : Statement (.sessionGet pick i nowait) := by
  match pick with
  | (_, []) => exact of_pick rfl rfl
  | (_, _ :: _) => exact of_none rfl rfl

theorem sessionGetResult (pick : PickNo) (slot : Fin 2) (uncorr : ReadErr) : Statement (.sessionGetResult pick slot uncorr) := of_none rfl rfl

theorem sessionPut (pick : PickNo × List Nat) (i : Ptr) : Statement (.sessionPut pick i) := by
  match pick with
  | (_, []) => exact of_pick rfl rfl
  | (_, _ :: _) => exact of_none rfl rfl

theorem sessionPutDone (pick : PickNo) : Statement (.sessionPutDone pick) := of_none rfl rfl

theorem crypto (pick : PickNo) (i : Ptr) (nowait : Bool) : Statement (.crypto pick i nowait) := of_pick rfl rfl

theorem cryptoResult (pick : PickNo) (checkOk : Bool) : Statement (.cryptoResult pick checkOk) := of_none rfl rfl

theorem stamp (pick : PickNo) (i : Ptr) : Statement (.stamp pick i) := of_pick rfl rfl

theorem emit (pick : PickNo) (i : Ptr) : Statement (.emit pick i) := of_pick rfl rfl

theorem emitRelease (pick : PickNo) : Statement (.emitRelease pick) := of_none rfl rfl

theorem drop (pick : PickNo) : Statement (.drop pick) := of_pick rfl rfl

theorem count (pick : PickNo) (k : Fin 64) : Statement (.count pick k) := of_pick rfl rfl

theorem inbox (pick : PickNo) (i : Ptr) : Statement (.inbox pick i) := of_pick rfl rfl

theorem inboxDataLanded (pick : PickNo) : Statement (.inboxDataLanded pick) := of_none rfl rfl

theorem lotteryDraw (t : Fin 21) (progress : List Nat) : Statement (.lotteryDraw t progress) := of_none rfl rfl

theorem quotaRevoke (t : Fin 21) (progress : Nat × List Nat) : Statement (.quotaRevoke t progress) := of_none rfl rfl

theorem shaftCommit (v : Nat) : Statement (.shaftCommit v) := of_none rfl rfl

theorem patrolScrub (m : ChanNo) (corr : Nat) (bad : List Nat) (dirCorr : Nat) (dirBad : List Nat) : Statement (.patrolScrub m corr bad dirCorr dirBad) := of_none rfl rfl

theorem ddrRefresh (_m : ChanNo) : Statement (.ddrRefresh _m) := of_none rfl rfl

theorem ddrAccessRelease (m : ChanNo) (seam : SeamNo) : Statement (.ddrAccessRelease m seam) := of_none rfl rfl

theorem laneSelftest (c : LaneNo) : Statement (.laneSelftest c) := of_none rfl rfl

theorem laneSelftestDone (c : LaneNo) (pass : Bool) : Statement (.laneSelftestDone c pass) := of_none rfl rfl

theorem haulBodyIssue (link : LinkNo) : Statement (.haulBodyIssue link) := of_none rfl rfl

theorem haulBody (pick : PickNo) : Statement (.haulBody pick) := of_none rfl rfl

theorem haulBodyDeadline (link : LinkNo) : Statement (.haulBodyDeadline link) := of_none rfl rfl

theorem haulFrameLaunch : Statement .haulFrameLaunch := of_none rfl rfl

theorem haulDelayReqSend : Statement .haulDelayReqSend := of_none rfl rfl

theorem keyReqSend (link : LinkNo) : Statement (.keyReqSend link) := of_none rfl rfl

theorem keyRepeatSend (link : LinkNo) : Statement (.keyRepeatSend link) := of_none rfl rfl

theorem haulKeyRx (link : LinkNo) (frame : List Nat) (tag : WordTag) : Statement (.haulKeyRx link frame tag) := of_none rfl rfl

theorem haulDeltaRx (link : LinkNo) (frame : List Nat) (tag : WordTag) : Statement (.haulDeltaRx link frame tag) := of_none rfl rfl

theorem haulKeyRepeatRx (link : LinkNo) (frame : List Nat) (tag : WordTag) : Statement (.haulKeyRepeatRx link frame tag) := of_none rfl rfl

theorem haulDelayReqRx (link : LinkNo) (frame : List Nat) (tag : WordTag) : Statement (.haulDelayReqRx link frame tag) := of_none rfl rfl

theorem haulKeyReqRx (link : LinkNo) (frame : List Nat) (tag : WordTag) : Statement (.haulKeyReqRx link frame tag) := of_none rfl rfl

theorem twinFrameRx (link : LinkNo) (frame : List Nat) (tag : WordTag) : Statement (.twinFrameRx link frame tag) := of_none rfl rfl

theorem haulRelease (pick : PickNo) : Statement (.haulRelease pick) := of_none rfl rfl

theorem haulCopyRelease (link : LinkNo) : Statement (.haulCopyRelease link) := of_none rfl rfl

theorem splitWaitExpiry (feed : RefId) : Statement (.splitWaitExpiry feed) := of_none rfl rfl

theorem haulLinkUp (link : LinkNo) : Statement (.haulLinkUp link) := of_none rfl rfl

theorem haulLinkDown (link : LinkNo) : Statement (.haulLinkDown link) := of_none rfl rfl

theorem joinWindowExpiry : Statement .joinWindowExpiry := of_none rfl rfl

theorem followQualify : Statement .followQualify := of_none rfl rfl

theorem peerLost : Statement .peerLost := of_none rfl rfl

theorem peerCanaryEdge : Statement .peerCanaryEdge := of_none rfl rfl

theorem peerCanaryStop : Statement .peerCanaryStop := of_none rfl rfl

theorem snapshotPeriodic : Statement .snapshotPeriodic := of_none rfl rfl

theorem snapshotSaveDone (ok : Bool) : Statement (.snapshotSaveDone ok) := of_none rfl rfl

theorem amendmentLogWritten (ok : Bool) : Statement (.amendmentLogWritten ok) := of_none rfl rfl

theorem amendmentActivation : Statement .amendmentActivation := of_none rfl rfl

theorem nopCommand (src : MbxSrc) : Statement (.nopCommand src) :=
  of_mailbox rfl rfl (fun _ _ h => nomatch h)

theorem surveyLoad (src : MbxSrc) (addr len : Nat) (flash : Bool) : Statement (.surveyLoad src addr len flash) :=
  of_mailbox rfl rfl (addr_words addr len)

theorem surveyAmend (src : MbxSrc) (addr len : Nat) (persist : Bool) : Statement (.surveyAmend src addr len persist) :=
  of_mailbox rfl rfl (addr_words addr len)

theorem svnCommit (src : MbxSrc) : Statement (.svnCommit src) :=
  of_mailbox rfl rfl (fun _ _ h => nomatch h)

theorem keyWrite (src : MbxSrc) (slot attr label : Nat) (value : List Nat) : Statement (.keyWrite src slot attr label value) :=
  of_mailbox rfl rfl (fun h x e => by
    simp only [Instr.wellFormed, areWords, Bool.and_eq_true] at h
    rcases List.mem_append.mp e with e | e
    · have h1 := of_decide_eq_true h.1.1.1
      have h2 := of_decide_eq_true h.1.1.2
      have h3 := of_decide_eq_true h.1.2
      simp only [List.mem_cons, List.not_mem_nil, or_false] at e
      omega
    · exact words_fit 8 8 value h.2.2 x e)

theorem keyErase (src : MbxSrc) (slot : Nat) : Statement (.keyErase src slot) :=
  of_mailbox rfl rfl (fun h x e => by
    cases List.mem_singleton.mp e
    exact of_decide_eq_true h)

theorem attest (src : MbxSrc) (nonce : List Nat) (slot : Nat) : Statement (.attest src nonce slot) :=
  of_mailbox rfl rfl (fun h x e => by
    simp only [Instr.wellFormed, areWords, Bool.and_eq_true] at h
    rcases List.mem_append.mp e with e | e
    · exact words_fit 8 8 nonce h.1.2 x e
    · cases List.mem_singleton.mp e
      exact of_decide_eq_true h.2)

theorem privDrop (src : MbxSrc) : Statement (.privDrop src) :=
  of_mailbox rfl rfl (fun _ _ h => nomatch h)

theorem lifecycleAdvance (src : MbxSrc) (target : Nat) : Statement (.lifecycleAdvance src target) :=
  of_mailbox rfl rfl (fun h x e => by
    cases List.mem_singleton.mp e
    exact of_decide_eq_true h)

theorem selftest (src : MbxSrc) (g : Nat) : Statement (.selftest src g) :=
  of_mailbox rfl rfl (fun h x e => by
    cases List.mem_singleton.mp e
    exact of_decide_eq_true h)

theorem galleryFence (src : MbxSrc) (g : Nat) : Statement (.galleryFence src g) :=
  of_mailbox rfl rfl (fun h x e => by
    cases List.mem_singleton.mp e
    exact of_decide_eq_true h)

theorem galleryReadmit (src : MbxSrc) (g : Nat) : Statement (.galleryReadmit src g) :=
  of_mailbox rfl rfl (fun h x e => by
    cases List.mem_singleton.mp e
    exact of_decide_eq_true h)

theorem pickReadmit (src : MbxSrc) (p : Nat) : Statement (.pickReadmit src p) :=
  of_mailbox rfl rfl (fun h x e => by
    cases List.mem_singleton.mp e
    exact of_decide_eq_true h)

theorem dialCheck (src : MbxSrc) : Statement (.dialCheck src) :=
  of_mailbox rfl rfl (fun _ _ h => nomatch h)

theorem snapshotSave (src : MbxSrc) : Statement (.snapshotSave src) :=
  of_mailbox rfl rfl (fun _ _ h => nomatch h)

theorem snapshotRestore (src : MbxSrc) (addr len : Nat) (buf : Option Snap) : Statement (.snapshotRestore src addr len buf) :=
  of_mailbox rfl rfl (addr_words addr len)

theorem faultAck (src : MbxSrc) (id all : Nat) : Statement (.faultAck src id all) :=
  of_mailbox rfl rfl (fun h x e => by
    simp only [Instr.wellFormed, isWord, Bool.and_eq_true, decide_eq_true_eq] at h
    simp only [List.mem_cons, List.not_mem_nil, or_false] at e
    omega)

theorem deviceReset (src : MbxSrc) (magic : Nat) : Statement (.deviceReset src magic) :=
  of_mailbox rfl rfl (fun h x e => by
    cases List.mem_singleton.mp e
    exact of_decide_eq_true h)

theorem pcieReset (src : MbxSrc) : Statement (.pcieReset src) :=
  of_mailbox rfl rfl (fun _ _ h => nomatch h)

theorem unknownCommand (src : MbxSrc) (code : Nat) : Statement (.unknownCommand src code) :=
  of_mailbox rfl rfl (fun _ _ h => nomatch h)

theorem mailboxCommandEnd (ok : Bool) : Statement (.mailboxCommandEnd ok) := of_none rfl rfl

theorem vfMailboxCommand (v : SeamNo) (code : Nat) : Statement (.vfMailboxCommand v code) := of_none rfl rfl

theorem vfMailboxAnswer (v : SeamNo) : Statement (.vfMailboxAnswer v) := of_none rfl rfl

theorem spiRead (addr n : Nat) : Statement (.spiRead addr n) := of_none rfl rfl

theorem spiWrite (addr : Nat) (words : List Nat) (check : Nat × Nat) : Statement (.spiWrite addr words check) := of_none rfl rfl

theorem snapRead (offset n : Nat) : Statement (.snapRead offset n) := of_none rfl rfl

theorem spiUnknownOpcode (op : Nat) : Statement (.spiUnknownOpcode op) := of_none rfl rfl

theorem pfFlr : Statement .pfFlr := of_none rfl rfl

theorem vfFlr (v : SeamNo) : Statement (.vfFlr v) := of_none rfl rfl

theorem perst : Statement .perst := of_none rfl rfl

theorem powerStateChange (d3hot : Bool) : Statement (.powerStateChange d3hot) := of_none rfl rfl

theorem linkL1Exit : Statement .linkL1Exit := of_none rfl rfl

theorem msixUnmask (vec : Nat) : Statement (.msixUnmask vec) := of_none rfl rfl

theorem w1cWrite (m : Master) (addr data : Nat) : Statement (.w1cWrite m addr data) := of_none rfl rfl

theorem readClear (m : Master) (addr : Nat) : Statement (.readClear m addr) := of_none rfl rfl

theorem registerWrite (m : Master) (addr data : Nat) : Statement (.registerWrite m addr data) := of_none rfl rfl

theorem faultEvent (src : FaultSrc) (cause detail : Nat) : Statement (.faultEvent src cause detail) := of_none rfl rfl

theorem railOutOfLimits (rail : Nat) (outside : Bool) : Statement (.railOutOfLimits rail outside) := of_none rfl rfl

theorem thermalThreshold (sensor : Nat) (low outward : Bool) : Statement (.thermalThreshold sensor low outward) := of_none rfl rfl

theorem heldCauseEnd (src : FaultSrc) (cause : Nat) : Statement (.heldCauseEnd src cause) := of_none rfl rfl

theorem faultWindowClose (src : FaultSrc) : Statement (.faultWindowClose src) := of_none rfl rfl

theorem classRecovery (k : Fin 15) : Statement (.classRecovery k) := of_none rfl rfl

theorem faultForce (j mask : Nat) : Statement (.faultForce j mask) := of_none rfl rfl

theorem foremanHeartbeat : Statement .foremanHeartbeat := of_none rfl rfl

theorem foremanStall : Statement .foremanStall := of_none rfl rfl

theorem canaryEdge : Statement .canaryEdge := of_none rfl rfl

theorem occupancySample : Statement .occupancySample := of_none rfl rfl

theorem wbrCommit (v : Nat) : Statement (.wbrCommit v) := of_none rfl rfl

theorem wbrSnapshotArm (v : Nat) : Statement (.wbrSnapshotArm v) := of_none rfl rfl

theorem wbrSnapshotCapture (periodic : Bool) : Statement (.wbrSnapshotCapture periodic) := of_none rfl rfl

theorem wbrCounterRead (addr : Nat) : Statement (.wbrCounterRead addr) := of_none rfl rfl

theorem pcsFaultClear (p : PortNo) (kind : Nat) : Statement (.pcsFaultClear p kind) := of_none rfl rfl

theorem linkL1Entry : Statement .linkL1Entry := of_none rfl rfl

theorem configRetryEnd : Statement .configRetryEnd := of_none rfl rfl

theorem spiAccessStart : Statement .spiAccessStart := of_none rfl rfl

theorem firstPulse (m : OutNo) : Statement (.firstPulse m) := of_none rfl rfl

end Sys2Proof.Laws.Admits
end

