-- ==== Sys2Proof/Tests/Slice0.lean ====
section
/-! SUPPORT. The model's own tests: ill-formed terms that WellFormed refuses, decoded words, worked examples of the manual, and a concrete state and operands that meet the hypotheses of each statement. -/

namespace Sys2Proof.Tests

-- One test after another: a test whose kernel evaluation waits for the one before it would hold a thread and its stack.
set_option Elab.async false

open Machine Safety

/-- A device that runs, with its Lode in a state. -/
def lodeAt (x : LodeState) : State :=
  { State.reset with
    power := { phase := .running }
    lode := { state := x, tbpllLock := true, loOk := true, seeded := true } }

/-- A device with one entry in REFERENCES, whose monitor is in a state. -/
def refAt (n : Nat) (q : QState) : State :=
  { lodeAt .locked with
    cfg := { refs := { refs := [{ id := n }], timeList := [{ id := n }] } }
    assay := { refs := [(n, { q := q, active := true })], selRef := n } }

/-- A running device: port 63 enabled and up, its pair with seam 15 at home in gallery 15, and a rule for every frame. -/
def served : State :=
  { lodeAt .locked with
    power := { phase := .running, selftestDone := true }
    lode := { state := .locked, tbpllLock := true, loOk := true, seeded := true, svc := true }
    cfg := {
      str := { ports := [(63, { en := true, speed := 1 })], gals := [(15, { used := true, seam := 15, alt := 14 })]
               pairs := [{ port := 63, seam := 15, home := 15 }] }
      seams := { present := true, seams := [(15, { configured := true, limit := 1600, domains := [{ number := 24, profile := 2 }, { number := 44, profile := 1 }] })]
                 rules := [{ ports := 2 ^ 63, seam := 15 }] } }
    surv := { state := 3, structureApplied := true }
    tally := { gates := [(15, { stopped := false })] }
    gals := [(15, { phase := .active, banks := [(0, { prog := { mask := 2 ^ 15, insns := [0xE500], dispatch := List.replicate 16 0 } })] })]
    prt := { ports := [(63, { link := true, tsValid := true })] } }

/-- That device with a state of its port. -/
def portAt (p : PortSt) : State := { served with prt := { ports := [(63, p)] } }

/-- That device with a state of its gallery. -/
def galAt (g : GalSt) : State := { served with gals := [(15, g)] }

/-- That device with a state of its last pick. -/
def pickAt (p : PickSt) : State := { served with picks := [(511, p)] }

/-- A device whose self-test has ended, reachable from both sets, with KEY_PRIV. -/
def ready : State :=
  { lodeAt .locked with
    power := { phase := .running, selftestDone := true, keyPriv := true, addr4 := true, flash64 := true }
    pcie := { inReset := false, busMaster := true, cfgRetry := false }
    spi := { access := true } }

/-- That device while a command runs. -/
def readyWith (r : Running) : State := { ready with mbx := { running := some r } }
/-! ### Witnesses: clocks, Lode, references and the Tally -/

theorem witness_StepRunsFrontCommand : State.reset.pending = [] := rfl

theorem witness_TimePassesAdditively :
    ((lodeAt .locked).lode.loOk = true ∧ (lodeAt .locked).lode.tbpllLock = true) ∧ State.reset.lode.loOk = false := by
  decide

theorem witness_LodeTimersEndTheirStates :
    (let s := lodeAt .acquire
     let s := { s with lode := { s.lode with settleTick := some 0 } }
     s.lode.state = .acquire ∧ s.lode.settleTick = some 0 ∧ s.lode.seeded = true ∧ s.lode.coarse = false ∧ s.lode.loOk = true) ∧
    State.reset.lode.seeded = false ∧
    (let s := lodeAt .pull
     let s := { s with lode := { s.lode with pullOn := true } }
     s.lode.state = .pull ∧ s.lode.pullOn = true) ∧
    (let s := lodeAt .holdover
     let s := { s with lode := { s.lode with lim := { holdMax := 1 } } }
     s.lode.state = .holdover ∧ s.lode.lim.holdMax ≠ 0) ∧
    (let s := lodeAt .free
     let s := { s with surv := { structureApplied := true } }
     s.lode.state = .free ∧ s.surv.structureApplied = true) := by decide

theorem witness_TbpllLossAndRealignment :
    (lodeAt .locked).lode.tbpllLock = true ∧
    ((lodeAt .locked).lode.loOk = true ∧ (lodeAt .locked).lode.state ≠ .free) ∧
    ((lodeAt .free).lode.loOk = true ∧ (lodeAt .free).surv.structureApplied = false) ∧
    (let s := { lodeAt .free with surv := { structureApplied := true } }
     s.lode.loOk = true ∧ s.lode.state = .free ∧ s.surv.structureApplied = true) ∧
    (let s := lodeAt .locked
     let s := { s with lode := { s.lode with coarse := true } }
     s.lode.coarse = true ∧ s.lode.tbpllLock = true ∧ s.lode.loOk = true ∧ s.lode.state = .locked ∧
     327680 < (coarseError s none).1 ∧ (coarseError s none).2 = none) ∧
    (let s := lodeAt .locked
     let s := { s with lode := { s.lode with fwRef := 0, fwPhase := some (0, 0) }, assay := { refs := [(0, { q := .qualified })] } }
     (coarseError s (some 0)).1 ≤ 327680 ∧ (coarseError s (some 0)).2 = some 0) ∧
    (let s := lodeAt .holdover
     let s := { s with lode := { s.lode with coarse := true }, cfg := { str := { loMHz := 20 } } }
     s.lode.state = .holdover ∧ (coarseError s (some 0)).1 ≤ 327680) := by decide

theorem witness_LoAbsenceAndReturn :
    (srcSt (lodeAt .locked) 17).held.contains 1 = false ∧ (lodeAt .pull).lode.state = .pull ∧
    (lodeAt .free).lode.state = .free ∧
    (let s := lodeAt .invalid
     let s := { s with lode := { s.lode with loOk := false } }
     s.lode.loOk = false ∧ s.lode.state = .invalid) ∧
    (let s := { lodeAt .free with surv := { structureApplied := true } }
     let s := { s with lode := { s.lode with loOk := false } }
     s.lode.loOk = false ∧ s.lode.state = .free ∧ s.surv.structureApplied = true) ∧
    ((lodeAt .locked).lode.tbpllLock = true ∧ (lodeAt .locked).lode.coarse = false) := by decide

/-- LOCKED with a selected reference in a state and a service limit; the bound is 10 codes. -/
def boundFree (q : QState) (limit : Nat) : State :=
  let s := refAt 3 q
  { s with cfg := { s.cfg with lim := { svcLimit := limit } } }

theorem witness_HoldoverSamplesLatchesAndServiceEnable :
    bitAt 1 0 = true ∧ bitAt 2 0 = false ∧
    (let s := boundFree .holdoff 10
     s.lode.state = .locked ∧ (refSt s s.assay.selRef).q = .holdoff ∧
       boundCode s (nowFu s) (maxDpt s) 0 ≤ s.cfg.lim.svcLimit) ∧
    (let s := boundFree .qualified 9
     s.lode.state = .locked ∧ s.cfg.lim.svcLimit < boundCode s (nowFu s) (maxDpt s) 0) ∧
    (lodeAt .pull).lode.state ≠ .locked ∧ isUsable State.reset State.reset.assay.selRef = false ∧
    ((lodeAt .pull).lode.state ≠ .holdover ∧ State.reset.leap.pending = 0) ∧
    ((lodeAt .holdover).lode.state = .holdover ∧ (lodeAt .holdover).lode.fwRef = 63) ∧
    ((lodeAt .locked).lode.state = .locked ∧ (lodeAt .locked).lode.coarse = false ∧ (lodeAt .locked).lode.loOk = true ∧
     (lodeAt .locked).lode.tbpllLock = true) ∧
    ({ State.reset with leap := { pending := -1 } }).leap.pending ≠ 0 := by decide

/-- A good measurement's reference and state: everything that R78 asks holds. -/
def measured (x : LodeState) : State :=
  let s := refAt 3 .qualified
  { s with
    lode := { s.lode with state := x }
    assay := { s.assay with refs := [(3, { q := .qualified, active := true, todinBad := 0, offered := some (5, 0) })] } }

/-- What GoodOffset asks, as one Bool. -/
def goodOffset (s : State) (ref : Nat) (e : Int) (age : Nat) : Bool :=
  !refOff s ref && !stampInvalid s (s.clk.ticks - age) && decide (age ≤ ticksOfNs ((refRec s ref).validUs * 1000)) &&
  (refRec s ref).isTime &&
  s.assay.selRef == ref && isQualified s ref && freqInside (refSt s ref) (refRec s ref).fRej true &&
  (consCheck s ref (s.clk.ticks - age) (if isUpstream ref then e + (refSt s ref).rRx else e)).2.2 &&
  (srcCheck s ref).2

theorem goodOffset_ok {s : State} {ref : Nat} {e : Int} {age : Nat} (h : goodOffset s ref e age = true) :
    GoodOffset s ref e age := by
  simpa [goodOffset, GoodOffset, and_assoc] using h

/-- A Lode whose time is not seeded. -/
def unseeded (s : State) : State := { s with lode := { s.lode with seeded := false } }

theorem witness_GoodMeasurementDrivesTheServo :
    (let s := measured .locked
     refOff s 3 = false ∧ ticksOfNs ((refRec s 3).validUs * 1000) < 3126562501 ∧ 3126562500 ≤ ticksOfNs ((refRec s 3).validUs * 1000) ∧
     (refSt s 3).offered = some (5, 0)) ∧
    (let s := { measured .locked with lode := { (measured .locked).lode with coarse := true } }
     refOff s 3 = false ∧ s.lode.coarse = true) ∧
    (refSt (refAt 3 .qualified) 3).offered = none ∧
    (GoodOffset (unseeded (measured .acquire)) 3 5 0 ∧ (unseeded (measured .acquire)).lode.seeded = false) ∧
    (let s := measured .acquire
     GoodOffset s 3 131073 0 ∧ s.lode.state = .acquire ∧ s.lode.loOk = true ∧ s.cfg.lim.lockWindow < (131073 : Int).natAbs) ∧
    (let s := measured .acquire
     GoodOffset s 3 (-5) 3126562500 ∧ s.lode.state = .acquire ∧ s.lode.loOk = true ∧ s.lode.seeded = true ∧
       (-5 : Int).natAbs ≤ s.cfg.lim.lockWindow) ∧
    (GoodOffset (measured .locked) 3 5 0 ∧ (measured .locked).lode.state = .locked) ∧
    (GoodOffset (measured .pull) 3 5 0 ∧ (measured .pull).lode.state = .pull) := by
  refine ⟨by decide, by decide, by decide, ⟨goodOffset_ok (by decide), by decide⟩, ⟨goodOffset_ok (by decide), by decide⟩,
    ⟨goodOffset_ok (by decide), by decide⟩, ⟨goodOffset_ok (by decide), by decide⟩, ⟨goodOffset_ok (by decide), by decide⟩⟩

/-- A reference in SOAK, all of whose checks are inside their limits or not. -/
def soaking (ok : Bool) : State :=
  let s := refAt 3 .soak
  { s with assay := { s.assay with refs := [(3, { q := .soak, active := true, freq := some 0, todinBad := 0, consAcc := ok, missed := !ok })] } }

theorem witness_QualificationTimers :
    (let s := soaking false
     refOff s 3 = false ∧ (refSt s 3).q = .soak ∧ (refSt s 3).active = true ∧ (refSt s 3).missed = true ∧
       inAccept (elapseTo (soakDue s 3) s) 3 = false) ∧
    (let s := soaking true
     refOff s 3 = false ∧ (refSt s 3).q = .soak ∧ (refSt s 3).missed = false ∧
       inAccept (elapseTo (soakDue s 3) s) 3 = true) ∧
    (let s := refAt 3 .holdoff
     refOff s 3 = false ∧ (refSt s 3).q = .holdoff ∧ (refSt s 3).immediate = false ∧
     inReject (elapseTo (holdoffDue s 3) s) 3 = false) ∧
    ((refSt State.reset 3).q ≠ .soak ∧ (refSt State.reset 3).q ≠ .holdoff ∧ isUsable State.reset 3 = false) ∧
    (let s := refAt 3 .qualified
     isUsable s 3 = true ∧ atDecision (elapseTo (wtrDue s 3) s) = true ∧
       nowFu (elapseTo (wtrDue s 3) s) / lodeMs ≠ s.assay.tickMs) ∧
    (let s := refAt 3 .qualified
     let s := { s with clk := { s.clk with ticks := 1, tc := 20000000000000000000 }, assay := { s.assay with stepMs := -400000 } }
     isUsable s 3 = true ∧ atDecision (elapseTo (wtrDue s 3) s) = false) := by decide

/-- Two entries of the time list; the better one is revertive and has restored. -/
def twoRefs : State :=
  let s := lodeAt .locked
  { s with
    cfg := { refs := { refs := [{ id := 3, wtrS := 0 }, { id := 4 }], timeList := [{ id := 3, revertive := true }, { id := 4 }] } }
    assay := { started := true, selRef := 4, selPos := 1
               refs := [(3, { q := .qualified, active := true }), (4, { q := .qualified, active := true })] } }

theorem witness_SelectionFollowsTheListOrder :
    selectRef twoRefs = some (0, 3) ∧ selectRef State.reset = none ∧
    (timeList twoRefs).find? (fun x => x.2.id == twoRefs.assay.selRef) = some (1, { id := 4 }) ∧
    isUsable twoRefs 4 = true ∧ (3 : Nat) ≠ twoRefs.assay.selRef := by decide

theorem witness_DecisionTickSettlesEveryReference :
    State.reset.surv.state ≠ 3 ∧
    ({ refAt 3 .soak with surv := { state := 3 } }).surv.state = 3 := by decide

theorem witness_SyncEAndPtpReferenceInputs :
    (isUsable (refAt 8 .qualified) 8 = true ∧ isUsable (refAt 11 .holdoff) 11 = true) ∧
    (let s := refAt 8 .qualified
     let s := { s with assay := { s.assay with refs := [(8, { q := .qualified, qlTick := some 7 })] } }
     (refSt s 8).qlTick = some 7) ∧ (refSt (refAt 8 .qualified) 8).qlTick = none ∧
    (let s := lodeAt .locked
     s.lode.state = .locked ∧ s.assay.blockOk = true ∧ ({ s with assay := { s.assay with blockOk := false } }).assay.blockOk = false) ∧
    (let s := refAt 12 .qualified
     let s := { s with assay := { s.assay with refs := [(12, { q := .qualified, returning := true })] } }
     (refSt s 12).returning = true ∧ (refRec s 12).holdoffDs ≠ 0 ∧ (refSt (refAt 12 .qualified) 12).returning = false) ∧
    (let s := lodeAt .locked
     let s := { s with clk := { s.clk with ticks := 9 }, lode := { s.lode with loSamples := [(9, 7)] } }
     blockAverage s s.clk.ticks = some 7) ∧
    ((refSt (refAt 12 .qualified) 12).q = .qualified ∧ (refSt (refAt 15 .soak) 15).q ≠ .qualified) ∧
    (refRec? (refAt 0 .absent) 0).isSome = true ∧ (lodeAt .holdover).lode.state ≠ .locked := by decide

theorem witness_StampEpochAndServiceGates :
    (let s := { State.reset with tally := { lastInc := some 0 }, clk := { ticks := 15625 } }
     s.tally.lastInc = some 0 ∧ 0 + 15625 ≤ s.clk.ticks) ∧
    (let s := { State.reset with tally := { lastInc := some 0, hold := true }, clk := { ticks := 15624 } }
     s.tally.lastInc = some 0 ∧ s.clk.ticks < 0 + 15625 ∧ s.tally.hold = true) ∧
    State.reset.tally.hold = false ∧
    (let s := { State.reset with tally := { gates := [(15, { belowTick := some 0 })] } }
     (seamGate s 15).stopped = true ∧ (seamGate s 15).belowTick = some 0) := by decide

/-! ### Witnesses: the Dial, outputs, event pins and Daylight -/

/-- A device whose Dial channel `n` has a role, mode INTERVAL, EN set, and a state. -/
def dialAt (n role : Nat) (c : DialChSt) : State :=
  { lodeAt .locked with
    cfg := { str := { dial := [(n, { source := 1, role := role })] } }
    rf := [(dialBase n, 2 ^ 21 + 2 ^ 7)]
    dial := { ch := [(n, c)] } }

theorem witness_DialEdgesTakeAFreeLineOrAreDropped :
    (dialCfg State.reset 0).role = 0 ∧
    (let s := { dialAt 23 3 {} with rf := [] }
     dialEn s 23 = false) ∧
    (let s := dialAt 23 3 { busy0 := 1, busy1 := 1 }
     (dialCfg s 23).role ≠ 0 ∧ dialEn s 23 = true ∧ s.clk.ticks < (dialCh s 23).busy0 ∧ s.clk.ticks < (dialCh s 23).busy1) ∧
    (let s := dialAt 0 1 { busy0 := 1 }
     (dialCfg s 0).role ≠ 0 ∧ dialEn s 0 = true ∧ (dialCh s 0).busy1 ≤ s.clk.ticks) := by decide

theorem witness_DialSelfCheckSetsTheExcess :
    (let s := dialAt 23 3 { checking := some 5, lastThree := [0, 0], excess := 9 }
     s.dial.chkRun = false ∧ (dialCh s 23).checking.isSome = true ∧ (dialCh s 23).checking = some 5) ∧
    (dialCh State.reset 0).checking = none ∧ (dialCh State.reset 0).stale1 = false ∧ (dialCh State.reset 0).stale0 = false ∧
    (dialCh (dialAt 23 3 { stale1 := true }) 23).stale1 = true := by decide

theorem witness_DialTriggersRunHoldAndCount :
    (let s := dialAt 23 3 {}
     (dialCfg s 23).role = 3 ∧ dialEn s 23 = true ∧ dialMode s 23 = 1 ∧ (dialCh s 23).running = none) ∧
    (let s := dialAt 23 3 { running := some 4 }
     (dialCh s 23).running.isSome = true ∧ (dialCh s 23).held = false ∧ (dialCh s 23).running = some 4) ∧
    (let s := dialAt 23 3 { running := some 4, held := true }
     (dialCh s 23).running.isSome = true ∧ (dialCh s 23).held = true ∧ dialMode s 23 = 1) ∧
    (dialCfg (dialAt 0 1 {}) 0).role ≠ 3 ∧
    (let g : DialGate := { pts := [(1, 70), (0, 5)], invalid := true }
     let s := dialAt 23 3 { gate := some g }
     (dialCh s 23).gate = some g ∧ (dialCfg s 23).role = 3 ∧ 2 ≤ g.pts.length ∧ g.invalid = true) ∧
    (let g : DialGate := { pts := [(1, 70), (0, 5)] }
     let s := dialAt 23 3 { gate := some g }
     (dialCh s 23).gate = some g ∧ dialSpacing s 23 = 1 ∧ g.invalid = false ∧ dialTb s 23 ≠ 2) ∧
    (let g : DialGate := { pts := [(1, 70), (0, 5)] }
     let s := dialAt 23 3 { gate := some g }
     let s := { s with rf := [(dialBase 23 + 0xC, 10000000)] }
     (dialCh s 23).gate = some g ∧ gateFull s 23 g = false ∧ 1 < dialSpacing s 23 ∧ g.invalid = false) ∧
    (dialCh (dialAt 23 3 {}) 23).gate = none := by decide

/-- A device with one enabled output in a state, on a synthesiser of 10 GHz. -/
def outAt (m : Nat) (c : OutCfg) (o : OutSt) : State :=
  { lodeAt .locked with
    cfg := { outs := { out := [(m, { c with en := true })], syn := [(m / 2, { fVco := 10000000000 })] } }
    outs := { out := [(m, o)] } }

theorem witness_OutputsStopSlewAndAlign :
    (let s := outAt 7 {} { stopReq := some .held }
     (outSt s 7).stopReq = some .held ∧ (outSt s 7).byAmend = false) ∧
    (let s := outAt 0 {} { stopReq := some .free, byAmend := true }
     (outSt s 0).stopReq = some .free ∧ (outSt s 0).byAmend = true ∧ (outCfg s 0).en = true ∧ (outCfg s 0).group = 0 ∧
       s.lode.loOk = true) ∧
    ((outSt State.reset 7).stopReq = none ∧ (outSt State.reset 7).accN = 0 ∧ (outSt State.reset 7).state ≠ .slew) ∧
    (outSt (outAt 7 {} { accN := 2, accSum := 9 }) 7).accN ≠ 0 ∧
    (outSt (outAt 7 {} { state := .slew }) 7).state = .slew ∧
    (outSt (outAt 0 {} { state := .aligned }) 0).state = .aligned ∧
    (let s := outAt 7 { align := 2 } { state := .starting, grid := some (-3) }
     (outSt s 7).state = .starting ∧ (outSt s 7).grid = some (-3)) ∧
    (let s := outAt 7 { pulse := true, align := 1 } { state := .aligned }
     let s := { s with lode := { s.lode with svc := true } }
     mayEmit s 7 = true ∧ (outSt s 7).state = .aligned) := by decide

/-- A device whose synthesiser plays a profile of two segments. -/
def rampAt (n : Nat) (y : SynSt) : State :=
  { lodeAt .locked with
    cfg := { outs := { syn := [(n, { fVco := 10000000000, char := true, profile := [⟨1, 10, 5⟩, ⟨2, 3, -7⟩] })] } }
    outs := { syn := [(n, y)] } }

theorem witness_RampPlaybackAndUnderrun :
    (synCfg State.reset 0).char = false ∧
    (let s := rampAt 3 {}
     (synCfg s 3).char = true ∧ (synSt s 3).run = false ∧ (synCfg s 3).profile[0]? = some ⟨1, 10, 5⟩) ∧
    (let s := rampAt 3 { run := true, seg := 1 }
     (synSt s 3).run = true ∧ (synSt s 3).hold = false ∧ (synCfg s 3).profile[(synSt s 3).seg]? = some ⟨2, 3, -7⟩ ∧
     (synSt s 3).nextReady = false) ∧
    (let s := rampAt 0 { run := true }
     ((synSt s 0).seg + 1) % 512 ≠ 0 ∧ (synCfg s 0).profile[(synSt s 0).seg + 1]? = some ⟨2, 3, -7⟩) ∧
    (let s := rampAt 3 { run := true, hold := true, nextReady := true }
     ∀ n, n < 4 → (synSt s n).hold = true → halfFilled s n = true) ∧
    (let s := rampAt 3 { run := true, hold := true, seg := 5 }
     ∀ n, n < 4 → (synSt s n).hold = true → halfFilled s n = true) ∧
    (synSt State.reset 3).run = false ∧ (⟨1, 10, 5⟩ : RampSeg).type ≠ 0 := by decide

/-- The first 48 bytes of a sentence whose bound code is 1. -/
def sentenceBody : List Nat := [0x5A, 0xD1, 1, 52] ++ List.replicate 19 0 ++ [1] ++ List.replicate 24 0

theorem witness_TimeOfDaySentencesAreOnesTheReceiverTakes :
    (let s := { State.reset with
       cfg := { outs := { todout := [(1, { baud := 9600, out := 7 })] } }, outs := { out := [(7, { lastEdge := some 0 })] } }
     (let o := outSt s (sget {} s.cfg.outs.todout 1).out
      (if o.emitting then some (pulsePrev s (sget {} s.cfg.outs.todout 1).out (nowFu s)) else o.lastEdge) = some 0) ∧
     (sget {} s.cfg.outs.todout 1).baud ≠ 0 ∧ (sget {} s.outs.todout 1).named ≠ some 0) ∧
    sentenceValid [] = false ∧ sentenceValid (sentenceBody ++ beBytes 4 (crc32c sentenceBody)) = true := by decide +kernel

theorem witness_KnocksAndBellsAreQueues :
    (let k : Knock := { time := 1 }
     (evSt { State.reset with outs := { ev := [(7, { knocks := [k] })] } } 7).knocks = k :: []) ∧
    (evSt State.reset 7).knocks = [] ∧
    (let s := { State.reset with cfg := { outs := { ev := [(7, { role := 1, edge := 2 })] } } }
     (evCfg s 7).role = 1 ∧ bitAt (evCfg s 7).edge 1 = true ∧ dialOf s 3 (0x15 + 7) = none) ∧
    (let s := { State.reset with cfg := { outs := { ev := [(0, { role := 2 })] } } }
     bitAt (2 ^ 31 + 5) 31 = true ∧ (evCfg s 0).role = 2 ∧ (evSt s 0).bells.length < 4 ∧
     (∀ b, (evSt s 0).bells.getLast? = some b → b + fuOfNs (bellWidth s 0 + 10) < (5 * 2 ^ 32) * oneSec) ∧
     nowFu s + fuOfNs 1000 ≤ (5 * 2 ^ 32) * oneSec) ∧
    (let s := { State.reset with cfg := { outs := { ev := [(0, { role := 2 })] } }, outs := { ev := [(0, { bells := [1, 2, 3, 4] })] } }
     4 ≤ (evSt s 0).bells.length ∧ (evSt s 0).bells = 1 :: [2, 3, 4]) ∧
    (evSt { State.reset with outs := { ev := [(7, { activeUntil := some 9 })] } } 7).activeUntil = some 9 := by
  refine ⟨by decide, by decide, by decide, ⟨by decide, by decide, by decide, ?_, by decide⟩, by decide, by decide⟩
  intro b h
  cases (show (none : Option Nat) = some b from h)

/-- A device whose two antennas are in use by REFERENCES. -/
def skyAt (a : AntSt) : State :=
  { lodeAt .locked with
    cfg := { refs := { refs := [{ id := 6 }, { id := 7 }] } }
    dayl := { ants := [(1, a)] } }

theorem witness_AlarmedAntennaFailsItsSourceCheck : antUsed (skyAt {}) 0 = true ∧ antUsed (skyAt {}) 1 = true := by decide

theorem witness_DaylightChannelsCacheAndAnchors :
    (false && !(skyAt {}).lode.coarse) = false ∧
    (let s := skyAt {}
     antUsed s 1 = true ∧ bitAt (antCfg s 1).signals 8 = true ∧ (sget ({} : ChanSt) s.dayl.chans 383).state = 0) ∧
    (sget ({} : ChanSt) ({ State.reset with dayl := { chans := [(383, { state := 5 })] } }).dayl.chans 383).state ≠ 0 ∧
    (let s := { State.reset with dayl := { orbit := [(satNo 2 255, { eph := some (1, 2), pending := some 3 })] } }
     (orbitSt s (satNo 2 255)).eph.isSome = true ∧ (10000 : Nat) ≤ 10000 ∧
     (orbitSt s (satNo 2 255)).pending.isSome = true ∧ (100 : Nat) ≤ 100) ∧
    (antSt (skyAt { alarm := true }) 1).alarm = true ∧
    (let s := skyAt { anchor := some (1, -2, 3), us := [4] }
     let s := { s with assay := { s.assay with fwOk := true } }
     (antSt s 1).anchor = some (1, -2, 3) ∧ s.assay.fwOk = true ∧ (antSt s 0).alarm = false ∧
     (antSt s 1).alarm = false ∧ (antSt s 1).us ≠ []) ∧
    (antSt (skyAt { burst := true }) 1).burst = true := by decide

/-- A device in a phase of its power. -/
def powerAt (p : PowerPhase) (low : Bool) (rails : List Nat) : State :=
  { State.reset with power := { phase := p, resetPinLow := low, railsLow := rails } }

theorem witness_ResetsByPowerAndPinKeepOnlyWhatTheirRowName :
    (powerAt .off true []).power.phase = .off ∧ (powerAt .running false []).power.phase ≠ .off ∧
    (powerAt .running false []).power.resetPinLow = false ∧ (powerAt .inReset true []).power.resetPinLow = true := by
  decide

theorem witness_ReleaseSamplesStrapsAndGrantsKeyPriv :
    (let s := powerAt .inReset true []
     s.power.phase = .inReset ∧ s.power.resetPinLow = true ∧ s.power.railsLow = []) ∧
    (let s := powerAt .inReset false []
     s.power.phase = .inReset ∧ s.power.resetPinLow = false) ∧
    (let s := powerAt .inReset true [304]
     s.power.phase = .inReset ∧ s.power.resetPinLow = true ∧ s.power.railsLow = 304 :: []) ∧
    (powerAt .running false []).power.phase ≠ .inReset ∧
    ((powerAt .running false []).power.phase = .running ∧ (powerAt .running false []).spi.access = false) := by decide

/-- A running device whose endpoint is out of reset. -/
def hostUp : State := { lodeAt .locked with pcie := { inReset := false } }

theorem witness_EndpointResetsLeaveServiceAlone :
    hostUp.power.phase = .running ∧ hostUp.pcie.inReset = false ∧
    (let s := { hostUp with mbx := { running := some { src := .pf, code := 0x30 } } }
     s.mbx.running = some { src := .pf, code := 0x30 }) ∧ hostUp.pcie.cfgRetry = true := by decide

theorem witness_PowerStatesAndWake :
    hostUp.pcie.inReset = false ∧ ({ hostUp.pcie with d3hot := true }).d3hot = true ∧
    (sget ({} : MsixVec) hostUp.pcie.vecs 127).pending = false ∧
    (let s := { hostUp with pcie := { inReset := false, busMaster := true, cfgRetry := false, vecs := [(127, { pending := true })] } }
     (sget ({} : MsixVec) s.pcie.vecs 127).pending = true ∧ canSend s = true) := by decide

/-! ### Witnesses: the Dial's widths and blocks, stops, underruns and Daylight's channels -/

/-- A device whose Dial channel 0 times the recovered clock of port 63. -/
def syncEAt (p : PortSt) : State :=
  { served with
    cfg := { str := { ports := [(63, { en := true, speed := 1 })], dial := [(0, { source := 9, role := 1 })] }
             refs := { refs := [{ id := 8, port := some 63 }] } }
    prt := { ports := [(63, p)] } }

theorem witness_DialEdgesTakeAFreeLineOrAreDropped_widths :
    (edgeSquelched (syncEAt {}) 0 = true ∧ (dialCfg (syncEAt {}) 0).role ≠ 0) ∧
    edgeSquelched (syncEAt { link := true, blockLock := true }) 0 = false ∧
    (let s := dialAt 0 1 {}
     (dialCfg s 0).role ≠ 0 ∧ dialEn s 0 = true ∧ edgeSquelched s 0 = false ∧ isRunt s 0 99 = true ∧ isRunt s 0 100 = false ∧
     (checkEdge 0 s).1 ≠ some false) ∧
    (let s := dialAt 23 3 { busy0 := 1, busy1 := 1 }
     edgeSquelched s 23 = false ∧ isRunt s 23 0 = false ∧ isSmp s 23 = false) ∧
    (let s := { dialAt 0 1 { busy0 := 1, busy1 := 1 } with cfg := { str := { dial := [(0, { source := 7, role := 1 })] } } }
     edgeSquelched s 0 = false ∧ isRunt s 0 0 = false ∧ isSmp s 0 = true) ∧
    (refRec (dialAt 0 1 {}) (dialRef (dialCfg (dialAt 0 1 {}) 0).source)).isTime = true := by decide

theorem witness_DialSelfCheckSetsTheExcess_lines :
    (let s := dialAt 23 3 { checking := some 5, done0 := true }
     (dialCh s 23).checking.isSome = true ∧ (dialCh s 23).done1 = false ∧ (dialCh s 23).done0 = true ∧
     checkCollected s (List.replicate 4 [(0, 4095), (255, 1)]) = true ∧ checkCollected s (List.replicate 4 [(0, 4095)]) = false ∧
     checkCollected s [] = false) ∧
    checkCollected { State.reset with dial := { chkRun := true } } (List.replicate 4 [(0, 65536)]) = true ∧
    (dialCh (dialAt 23 3 { done1 := true }) 23).done1 = true := by decide

theorem witness_DialTriggersRunHoldAndCount_timeout :
    (let s := dialAt 23 3 { running := some 4, held := true }
     (dialCh s 23).running = some 4 ∧ dialMode s 23 = 1 ∧ (dialCfg s 23).role = 3) := by decide

theorem witness_OutputsStopSlewAndAlign_restart :
    (let s := outAt 7 { pulse := true, align := 1 } { state := .stopped, lastEdge := some 0 }
     let s := { s with outs := { s.outs with realigned := true } }
     (outSt s 7).state = .stopped ∧ (outCfg s 7).pulse = true ∧ s.outs.realigned = true ∧ s.lode.coarse = false) ∧
    (outSt (outAt 7 { align := 2 } { state := .starting, grid := some (-3) }) 7).snapDone = false := by decide

theorem witness_RampPlaybackAndUnderrun_half :
    (let s := { rampAt 3 { run := true, seg := 511 } with
       cfg := { outs := { syn := [(3, { fVco := 10000000000, char := true, profile := List.replicate 513 ⟨1, 3, -7⟩ })] } } }
     (synSt s 3).run = true ∧ (synSt s 3).hold = false ∧ (synSt s 3).nextReady = false ∧ lastOfHalf s 3 = true ∧
     (synCfg s 3).profile[(synSt s 3).seg]? = some ⟨1, 3, -7⟩ ∧
     (synSt (synMod 3 (fun y => { y with hold := true, left := 0 }) s) 3).hold = true ∧
     halfFilled (synMod 3 (fun y => { y with hold := true, left := 0 }) s) 3 = false) := by decide +kernel

theorem witness_TimeOfDaySentences_baud :
    tooShort 9600 54114583 = true ∧ tooShort 9600 54114584 = false ∧ tooShort 0 0 = false := by decide

theorem witness_KnocksAndBells_spacing :
    (let s := { State.reset with
       clk := { State.reset.clk with ticks := 32 }
       outs := { ev := [(7, { coarseTick := some 0 })] } }
     ∀ t0, (evSt s 7).coarseTick = some t0 → t0 + 32 ≤ s.clk.ticks) := by
  intro s t0 h
  cases (show some 0 = some t0 from h)
  decide

/-- A block of three edges of a sample clock, one each 100 units. -/
def smpBlock : SampleBlock := { first := 5, n := 3, sumT := 300, sumKT := 500, last := 205 }

theorem witness_DaylightChannels_blocks :
    (let s := { lodeAt .locked with
       cfg := { str := { dial := [(0, { source := 8, role := 1 })] }, refs := { refs := [{ id := 7 }] } }
       dial := { ch := [(0, { block := smpBlock })] } }
     s.lode.coarse = false ∧ (blockOf (elapseTo (nextMultiple (10 * ticksPerMs) s) s) 1).isSome = true ∧ antUsed s 1 = true) ∧
    (blockOf State.reset 0 = none) ∧
    (antUsed (skyAt {}) 1 = true ∧ bitAt (antCfg (skyAt {}) 1).signals 8 = true ∧ chanFor (skyAt {}) 1 8 255 = some 0) ∧
    (let s := { skyAt {} with dayl := { chans := [(383, { state := 6, ant := 1, signal := 8, sv := 255 })] } }
     chanFor s 1 8 255 = some 383) ∧
    (sget ({} : ChanSt) ({ State.reset with dayl := { chans := [(383, { state := 4, lowTick := some 0 })] } }).dayl.chans 383).lowTick = some 0 ∧
    resolveWeek State.reset 2 3 200 = some 200 ∧ resolveWeek State.reset 0 3 200 = none ∧
    (let s := { State.reset with dayl := { orbit := [(3, { eph := some (1, 2), week := some 2300 })] } }
     resolveWeek s 0 3 252 = some 2300) := by decide +kernel

theorem witness_SyncEAndPtpReferenceInputs_ranges :
    (8 ≤ (11 : RefId).val ∧ (11 : RefId).val < 12) ∧ (12 ≤ (15 : RefId).val ∧ (15 : RefId).val < 16) ∧
    isUsable (refAt 8 .soak) 8 = false ∧ (refRec (refAt 12 .qualified) 12).holdoffDs ≠ 0 ∧
    (refSt (refAt 12 .qualified) 12).q = .qualified := by decide


/-! ### Witnesses: mailboxes, the Survey image and the ports -/

theorem ready_accepts : Accepts .pf ready ∧ Accepts .spi ready := by
  refine ⟨⟨by decide, by decide⟩, by decide, by decide⟩

theorem witness_DoorbellsWhileBusyAreRefused :
    mailboxOf (.selftest .spi 15) = some (.spi, 0x30, 0, [15]) ∧ (∀ a ∈ [15], a < 2 ^ 32) ∧
    setReachable State.reset .pf = false ∧
    (let s := readyWith { src := .pf, code := 0x33 }
     setReachable s .spi = true ∧ engineBusy s = true) ∧
    (setReachable ready .spi = true ∧ engineBusy ready = false ∧ (0x30 : Nat) ≠ 0x60) := by decide

theorem witness_CommandsFromOtherSourcesAreDenied :
    mailboxOf (.surveyLoad .spi 0 1 true) = some (.spi, 0x10, 1, [0, 0, 1]) ∧ (0x10 ∈ [0x10, 0x11, 0x12, 0x34, 0x41]) ∧
    mailboxOf (.keyErase .spi 4095) = some (.spi, 0x21, 0, [4095]) ∧ (0x21 ∈ [0x20, 0x21, 0x24]) ∧
    ({ ready with power := { ready.power with keyPriv := false } }).power.keyPriv = false ∧
    knownCode 0xFF = false ∧ knownCode 0x01 = false ∧ Accepts .pf ready ∧ Accepts .spi ready :=
  ⟨by decide, by decide, by decide, by decide, by decide, by decide, by decide, ready_accepts⟩

theorem witness_KeyCommandsChangeTheMagazine :
    Accepts .pf ready ∧ ready.power.keyPriv = true ∧ (List.replicate 8 (2 ^ 32 - 1)).length = 8 ∧
    (∀ w ∈ List.replicate 8 (2 ^ 32 - 1), w < 2 ^ 32) ∧
    (let m : MagSlot := { loaded := true, device := true, usage := 3, bind := 3 }
     let s := { ready with cry := { mag := [(4095, m)] } }
     (magSlot s 4095).loaded = true ∧ (magSlot s 4095).isSealed = false ∧ (magSlot s 4095).device = true ∧
     (magSlot s 4095).usage = 3 ∧ (magSlot s 4095).bind = 3) ∧
    (ready.otp.lifecycle < 3 ∧ 1 = ready.otp.lifecycle + 1) :=
  ⟨ready_accepts.1, by decide, by decide, by decide, by decide, by decide⟩

theorem witness_ServiceCommandsTakeEffectAtAcceptance :
    Accepts .pf ready ∧ Accepts .spi ready ∧ ready.surv.check = none ∧
    (galSt { ready with gals := [(15, { phase := .active })] } 15).phase ≠ .off ∧
    (galSt { ready with gals := [(15, { phase := .fenced })] } 15).phase = .fenced ∧
    (let s := { ready with picks := [(511, { phase := .fenced })] }
     (pickSt s 511).phase = .fenced ∧ (pickSt s 511).fenceCause ≠ 5) ∧
    ready.haul.snap.save = none :=
  ⟨ready_accepts.1, ready_accepts.2, by decide, by decide, by decide, by decide, by decide⟩

theorem witness_ResetCommandsReachWhatTheirRowsName :
    Accepts .pf ready ∧ Accepts .spi ready ∧ 0x52455345 < 2 ^ 32 :=
  ⟨ready_accepts.1, ready_accepts.2, by decide⟩

theorem witness_MailboxCommandsEndWithTheirResult :
    State.reset.mbx.running = none ∧
    (let r : Running := { src := .pf, code := 0x30, args := [0] }
     (readyWith r).mbx.running = some r ∧ endResult r true (readyWith r) = none) ∧
    (let r : Running := { src := .spi, code := 0x23, result := some 2, exact4us := true }
     (readyWith r).mbx.running = some r ∧ endResult r false (readyWith r) = some 2) ∧
    (let r : Running := { src := .pf, code := 0x24, result := some 0 }
     endResult r true (readyWith r) = some 0) ∧
    (let r : Running := { src := .pf, code := 0x10 }
     let s := readyWith r
     let s := { s with surv := { check := some { purpose := .load true, image := {}, accepted := true } } }
     endResult r true s = some 0) ∧
    (ready.power.phase = .running ∧ ready.pcie.inReset = false ∧ (vfSet ready 15).running = none) ∧
    (let s := { ready with mbx := { vf := [(15, { running := some (5, 77) })] } }
     (vfSet s 15).running = some (5, 77)) := by decide

/-- A sound amendment for a device whose full image in force has digest 0. -/
def amendImage : Image :=
  { kind := 2, totalLength := 100, securityVersion := 3, records := [{ seq := 1, payload := .limitsP {} }], signersByte := 2
    signers := [{ role := 2, keyP384 := 5, keyMlDsa := 6 }] }

/-- A state with an image under checks. -/
def checking (c : CheckSt) : State := { ready with surv := { state := 3, check := some c } }

theorem witness_AcceptedImagePassedEveryCheckAndRefusedOneChangesNothing :
    (let c : CheckSt := { purpose := .amend false, image := {}, len := 8388609 }
     let s := checking c
     s.surv.check = some c ∧ c.accepted = false ∧ s.cry.pkBusy = 0 ∧ (earlyCause s c).isSome = true ∧
     checkCause s c ≠ 0 ∧ ∀ k, c.purpose ≠ .boot k) ∧
    (let s := { checking { purpose := .amend false, image := amendImage } with cry := { pkBusy := 3 } }
     s.cry.pkBusy ≠ 0) ∧
    ready.surv.check = none ∧
    (let c : CheckSt := { purpose := .amend false, image := { amendImage with signers := [] } }
     sigFailed c = false ∧ nextSigner c = none ∧ c.accepted = false) ∧
    (let c : CheckSt := { purpose := .boot 1, image := { amendImage with kind := 1 } }
     sigFailed c = false ∧ (nextSigner c).isSome = true) ∧
    (let c : CheckSt := { purpose := .boot 1, image := {}, readError := true }
     (earlyCause (checking c) c).isSome = true ∧ checkCause (checking c) c ≠ 0 ∧ c.purpose = .boot 1) := by
  refine ⟨⟨by decide, by decide, by decide, by decide, by decide, ?_⟩, by decide, by decide, by decide, by decide, by decide⟩
  intro k h
  cases h

theorem witness_BootReadsVerifiesAndApplies :
    (let s : State := { lodeAt .free with power := { phase := .running } }
     s.power.phase = .running ∧ s.power.selftestDone = false) ∧
    (surveyCommand (readyWith { src := .pf, code := 0x10 }) = some { src := .pf, code := 0x10 }) ∧
    (let i : Image := { serial := 4 }
     let s := { ready with surv := { state := 1 }, flash := [(1, { image := some i })] }
     surveyCommand s = none ∧ s.surv.state = 1 ∧ s.surv.check = none ∧ s.power.phase = .running ∧
     s.power.selftestDone = true ∧ s.hostLoad = none ∧ bootSlot s = some (1, i)) ∧
    (let a : Image := { serial := 4 }
     let s := { ready with flash := [(0, { image := some a }), (1, { image := some a })] }
     slotImage s 0 = some a ∧ slotImage s 1 = some a ∧ s.surv.tried = []) ∧
    (let c : CheckSt := { purpose := .boot 2, image := amendImage }
     let s := { checking c with cry := { pkBusy := 3 } }
     s.surv.check = some c ∧ nextSigner c = some 0 ∧ s.cry.pkBusy = 3 ∧
       ({ s with cry := { pkBusy := 2 } }).cry.pkBusy = 2 ^ (1 : Fin 2).val) ∧
    (let c : CheckSt := { purpose := .boot 2, image := {}, accepted := true }
     let s := { ready with surv := { state := 2, check := some c, booted := some {} } }
     s.surv.check = some c ∧ s.surv.booted = some {} ∧ c.purpose = .boot 2 ∧ s.surv.state = 2) ∧
    (let s := { ready with surv := { structureApplied := true }, cfg := { str := { sessEn := true } } }
     s.surv.structureApplied = true ∧ s.cfg.str.sessEn = true) := by decide

theorem witness_AmendmentsComeIntoForceAtADecisionTick :
    (let c : CheckSt := { purpose := .amend true, image := amendImage, accepted := true }
     let s := checking c
     s.surv.check = some c ∧ c.purpose = .amend true ∧ c.accepted = true ∧ c.logWritten = false) ∧
    (let c : CheckSt := { purpose := .amend true, image := amendImage, accepted := true, logWritten := true }
     c.purpose = .amend true ∧ c.accepted = true ∧ c.applied = false ∧ c.logWritten = true) ∧
    (ready.surv.check = none ∧ (galSt ready 15).swapTick = none) ∧
    (let s := { ready with gals := [(15, { swapTick := some 3 })] }
     (galSt s 15).swapTick = some 3 ∧ ∀ p ∈ picksOf 15, holdsOld s 15 p = false) := by decide

theorem witness_SnapshotsAreSavedToTheHalvesInTurn :
    (let s := { ready with cfg := { haul := { present := true } }, surv := { state := 3 } }
     s.cfg.haul.present = true ∧ s.cfg.haul.snapS ≠ 0 ∧ s.surv.state = 3 ∧ s.haul.snap.save = none) ∧
    ready.cfg.haul.present = false ∧
    (let v : SaveSt := { half := 1, mailbox := true, snap := {} }
     let s := { ready with haul := { snap := { save := some v } } }
     s.haul.snap.save = some v ∧ v.spi = false ∧ snapKey s = none ∧ canWriteHost s = true ∧ v.half < 2) ∧
    (let s := { ready with cry := { mag := [(4095, { device := true, loaded := true, usage := 1, label := 0x534E4150 })] } }
     (snapKey s).isSome = true ∧ canWriteHost s = true) ∧
    (let v : SaveSt := { half := 2, spi := true, snap := {} }
     let s := { ready with
       haul := { snap := { save := some v } }
       cry := { mag := [(4095, { device := true, loaded := true, usage := 1, label := 0x534E4150 })] } }
     s.haul.snap.save = some v ∧ v.spi = true ∧ (snapKey s).map (·.1) = some 4095) ∧
    (ready.haul.snap.save = none ∧ snapKey ready = none) := by decide

/-! ### Witnesses: ports and galleries -/

theorem witness_TimedLaunchSamplesEpochAndHold :
    (let r : Resv := { id := 4, launch := 0, epoch := 0, n := 60, fate := .ready }
     let s := portAt { resvs := [r] }
     (portSt s 63).resvs.find? (fun x => x.fate != .sent) = some r ∧ r.fate = .ready ∧
     r.epoch = s.tally.epoch ∧ s.tally.hold = false) ∧
    (let r : Resv := { id := 4, launch := 0, epoch := 255, n := 60, fate := .ready }
     r.epoch ≠ (portAt { resvs := [r] }).tally.epoch) ∧
    (let r : Resv := { id := 4, launch := 0, epoch := 0, n := 60, fate := .underrun }
     (portSt (portAt { resvs := [{ r with id := 3, fate := .sent }, r] }) 63).resvs.find? (fun x => x.fate != .sent) = some r ∧
       r.fate = .underrun ∧ ({ r with fate := .badPath }).fate = .badPath) ∧
    ((portSt served 63).resvs.find? (fun x => x.fate != .sent) = none ∧ (portSt served 63).line.busy = false) ∧
    (let s := portAt { line := { busy := true, launch := some 0, tick := 7 } }
     let u := { s with tally := { s.tally with moves := [9, 7] } }
     (portSt s 63).line.busy = true ∧ (portSt s 63).line.counted = false ∧ (portSt s 63).line.launch.isSome = true ∧
     (portSt s 63).line.moved = false ∧ s.tally.moves.contains (portSt s 63).line.tick = false ∧
     u.tally.moves.contains (portSt u 63).line.tick = true) ∧
    (portSt (portAt { line := { busy := true, launch := some 0, moved := true } }) 63).line.moved = true := by decide

theorem witness_DeadlinesAndTheLaunchBuffer :
    (let r : Resv := { id := 4, launch := 0, epoch := 0, n := 60 }
     let x : TxFrame := { seq := 1, pick := 511, bytes := List.replicate 60 0, final := true, resv := some 4, arrived := 59 }
     let s := portAt { resvs := [r], tx := [x] }
     (portSt s 63).resvs.find? (fun x => x.fate == .pending) = some r ∧
     (portSt s 63).tx.find? (fun x => x.resv == some r.id) = some x ∧ x.arrived ≠ 0 ∧ x.arrived < x.bytes.length) ∧
    (let r : Resv := { id := 4, launch := 0, epoch := 0, n := 60 }
     (portSt (portAt { resvs := [r] }) 63).tx.find? (fun x => x.resv == some r.id) = none) ∧
    (let x : TxFrame := { seq := 1, pick := 511, bytes := List.replicate 60 0, final := true, vacant := true }
     let s := portAt { tx := [x], link := true }
     nextTx (portSt s 63) = some x ∧ x.vacant = true ∧ sget 0 s.shaft.chan (x.pick / 32) = 0) ∧
    (let x : TxFrame := { seq := 1, pick := 511, bytes := List.replicate 60 0, final := true }
     let s := portAt { tx := [x], link := true }
     let s := { s with shaft := { s.shaft with chan := [(15, 1)] } }
     nextTx (portSt s 63) = some x ∧ sget 0 s.shaft.chan (x.pick / 32) ≠ 0) ∧
    (let x : TxFrame := { seq := 2, pick := 511, bytes := [7], final := true }
     let y : TxFrame := { seq := 1, pick := 510, bytes := [], final := true, arrived := 16384 }
     let s := portAt { tx := [y, x], link := true }
     nextTx (portSt s 63) = some x ∧ 16384 < bufferHeld (portSt s 63) + 1) ∧
    (let x : TxFrame := { seq := 1, pick := 511, bytes := List.replicate 60 0, final := true }
     let s := portAt { tx := [x], link := true }
     nextTx (portSt s 63) = some x ∧ x.vacant = false ∧ x.dead = false ∧ bufferHeld (portSt s 63) + 60 ≤ 16384 ∧
     (portSt s 63).tx.find? (fun y => y.resv.isNone && !y.dead) = some x) ∧
    (let s := portAt { line := { busy := true }, thetaNs := 2250 }
     (portSt s 63).line.busy = true ∧ (portSt s 63).line.counted = false ∧ (portSt s 63).line.launch = none ∧
     theta s 63 ≠ thetaMin s 63) ∧
    (portSt (portAt { line := { busy := true, counted := true } }) 63).line.counted = true ∧ theta served 63 = thetaMin served 63 ∧
    2000 ≤ thetaMin served 63 := by decide

theorem witness_LinksAndReceivedFrames :
    (let s := portAt { train := 2 }
     portEn s 63 = true ∧ portDown s 63 = false ∧ (portSt s 63).link = false ∧ (portSt s 63).train = 2) ∧
    (let s := { served with cfg := { served.cfg with str := { served.cfg.str with ports := [(63, { en := true, pmd := 1 })] } } }
     (portCfg s 63).pmd ≠ 2 ∧ (portSt s 63).train ≠ 2 ∧ portEn s 63 = true ∧ portDown s 63 = false) ∧
    (let s := { served with cfg := { refs := { refs := [{ id := 8, port := some 63 }] } } }
     (portRef s 63).isSome = true) ∧ portRef served 63 = none ∧
    (let f := List.replicate 60 0
     let s := served
     portEn s 63 = true ∧ (portSt s 63).link = true ∧ portDown s 63 = false ∧ 60 ≤ f.length ∧ f.length ≤ 9212 ∧
     beAt f 12 2 ≠ 0x8808 ∧ classify? s 63 (parse f) = some (0, { ports := 2 ^ 63, seam := 15 }) ∧
     (police 15 (parse f).cls s).1 = none ∧ homeOf s 63 15 = some 15 ∧ boundGal s 15 63 = some 15 ∧
     gateRoom s 63 f.length = true) ∧
    (let r : RxFrame := { gal := 15, desc := List.replicate 32 0, bytes := List.replicate 60 0 }
     let s := portAt { gate := [r] }
     (portSt s 63).gate = r :: [] ∧ galRuns s r.gal = true ∧ r.pathOk = true ∧ (galSt s r.gal).qRx.length < 256 ∧
     findCells s r.gal (ceilDiv r.bytes.length 128) = some 0) ∧
    (portEn served 63 = true ∧ (portCfg { served with cfg := { str := { ports := [(63, { en := true, fec := 2 })] } } } 63).fec ≠ 0 ∧
     (portSt (portAt {}) 63).link = false ∧ (portSt served 63).gate = []) := by decide +kernel

/-- An RX item of 60 bytes in cell 0. -/
def rxSmall : Item := { cls := 1, hdr := List.replicate 32 0, frame := List.replicate 60 0, cell := 0, cells := 1 }

theorem witness_DispatchAndPickFences :
    (let s := galAt { phase := .active, qRx := [rxSmall], banks := [(0, { prog := { insns := [0xE500], dispatch := List.replicate 16 0 } })] }
     (pickSt s 511).phase = .idle ∧ (pickSt s 511).releasing = false ∧ galRuns s 15 = true ∧
     (if 8 ≤ ctrlPicks s 15 then (galSt s 15).qRx else queued s 15).head? = some rxSmall ∧
     dispatchEntry (activeBank s 15) rxSmall.cls ≠ 0xFFFF) ∧
    queued served 15 = [] ∧
    (let s := pickAt { phase := .running, item := some rxSmall, steps := 8192 }
     let p := pickSt s 511
     let limit := watchdogSteps (bankOf s 15 p.bank)
     p.item.isSome = true ∧ limit ≤ p.steps) ∧
    (let s := pickAt { phase := .running, item := some rxSmall, steps := 8191 }
     (pickSt s 511).steps < watchdogSteps (bankOf s 15 (pickSt s 511).bank) ∧ (pickSt s 511).phase ≠ .fenced ∧
     (galSt s 15).phase ≠ .off ∧ (galSt s 15).phase ≠ .fenced) ∧
    (let s := pickAt { phase := .fenced, fenceCause := 1, testing := true }
     (pickSt s 511).phase = .fenced ∧ (pickSt s 511).fenceCause ≠ 5 ∧ (pickSt s 511).testing = true ∧
       (pickSt s 511).held = false ∧ (pickSt s 511).reload = false) ∧
    ((pickSt (pickAt { phase := .fenced, testing := true, held := true }) 511).held = true ∧
     (pickSt (pickAt { phase := .fenced, testing := true, reload := true }) 511).reload = true) ∧
    (let s := pickAt { phase := .running, item := some rxSmall }
     (queued s 15).all (fun x => !inCell x 0) = true ∧ (pickSt s 511).item = some rxSmall ∧
     (picksOf 15).find? (fun q => match (pickSt s q).item with
       | some x => inCell x 0
       | none => false) = some 511) ∧ ((1536 : Nat) ≤ 1536 ∧ 1536 < 2048 ∧ 2048 ≤ 2048) := by decide +kernel

theorem witness_ReadmissionSwapsAndStepRate :
    ((galSt (galAt { moving := true }) 15).moving = true ∧ (galSt (galAt {}) 15).moving = false) ∧
    findAlternate (galAt { moving := true }) 15 16 15 = none ∧
    (galSt (galAt { phase := .bist }) 15).phase = .bist ∧
    (let b : Bank := { seq := 3 }
     let s := galAt { phase := .loading, verified := some b }
     (galSt s 15).phase = .loading ∧ (galSt s 15).verified = some b) ∧
    (galSt (galAt { phase := .warming }) 15).phase = .warming ∧
    (let s := galAt { phase := .ramping, rampStep := 15, boundTo := some 14 }
     (galSt s 15).phase = .ramping ∧ 15 ≤ (galSt s 15).rampStep ∧ homeOf s 63 15 = some 15 ∧ pairsHome s 15 = false ∧
     (galSt s 15).returned.contains 63 = false ∧ undispatched s ((galSt s 15).boundTo.getD 16) 63 15 = false) ∧
    (let s := galAt { phase := .ramping, rampStep := 15, boundTo := some 14, returned := [63] }
     (galSt s 15).phase = .ramping ∧ pairsHome s 15 = true) ∧
    (galSt (galAt { phase := .warming, boundTo := some 14 }) 15).boundTo.getD 15 ≠ 15 ∧
    (pickSt (pickAt { phase := .fenced, held := true }) 511).held = true ∧
    (let b : Bank := { seq := 3 }
     let s := galAt { phase := .active, loading := some b }
     (galSt s 15).loading = some b ∧ (galSt s 15).active < 2) ∧
    (let s := galAt { phase := .active, swapTick := some 9 }
     (galSt s 15).swapTick = some 9 ∧ ∀ p ∈ picksOf 15, holdsOld s 15 p = false) ∧
    (pickSt served (32 * 15 + 31)).phase = .idle ∧
    (let s := galAt { phase := .active, banks := [(0, { prog := { periods := [0, 0, 0, 1000] } })] }
     let s := { s with picks := (List.range 32).map fun l => (480 + l, { phase := .running }) }
     fuOfNs (tickPeriod (activeBank s 15) 3 * 1000) ≠ 0 ∧ s.lode.coarse = false ∧ galRuns s 15 = true ∧ tickGals s 15 = [15] ∧
     (let e := (moduleAt (activeBank s 15) (dispatchEntry (activeBank s 15) 0xC)).map (·.id)
      e ≠ some 1 ∧ e ≠ some 2) ∧ ∀ p ∈ picksOf 15, (pickSt s p).phase ≠ .idle) ∧
    tickGals (galAt { phase := .fenced }) 15 = [] ∧
    (let s := galAt { phase := .fenced, boundTo := some 14, banks := [(0, { prog := { periods := [0, 0, 0, 1000] } })] }
     let s := { s with gals := (14, { phase := .active }) :: s.gals }
     fuOfNs (tickPeriod (activeBank s 15) 3 * 1000) ≠ 0 ∧ (14 : Nat) ≠ 15 ∧ tickGals s 15 = [14] ∧
     (let e := (moduleAt (activeBank s 14) (dispatchEntry (activeBank s 14) 0xC)).map (·.id)
      e ≠ some 1 ∧ e ≠ some 2)) := by decide +kernel

/-! ### Witnesses: picks -/

/-- A running pick with FL 32, a pointer into LOCAL at its last nibbles and one into RESP. -/
def runner : PickSt :=
  { phase := .running, fl := 32, ptrs := [(0, { addr := 4090, tag := 0 }), (7, { addr := 0, tag := 2 })], c := true
    regs := [(0, 15), (15, 1)], stack := [9] }

theorem witness_NibbleInstructionsFollowTheirTable : (pickSt (pickAt runner) 511).phase = .running := by decide

theorem settled_without_requests : Settled 511 (pickAt runner) := fun _ => rfl

theorem witness_FieldOperationsComputeOnWholeNumbers :
    (pickSt (pickAt runner) 511).phase = .running ∧ Settled 511 (pickAt runner) ∧
    1 ≤ (pickSt (pickAt runner) 511).fl ∧ (pickSt (pickAt runner) 511).fl ≤ 32 ∧
    Apart ((pickSt (pickAt runner) 511).ptr 0) ((pickSt (pickAt runner) 511).ptr 7) (pickSt (pickAt runner) 511).fl ∧
    Plain ((pickSt (pickAt runner) 511).ptr 0) ∧ Plain ((pickSt (pickAt runner) 511).ptr 7) :=
  ⟨by decide, settled_without_requests, by decide, by decide, ⟨.inl (by decide), fun _ _ _ _ => .inl (by decide)⟩,
    .inl (by decide), .inr (by decide)⟩

theorem witness_PointerLoadAndStoreInstructions :
    (pickSt (pickAt runner) 511).phase = .running ∧ Settled 511 (pickAt runner) ∧ Plain ((pickSt (pickAt runner) 511).ptr 0) ∧
    (let p := { runner with ptrs := [(0, { addr := 0, tag := 1 })] }
     p.outside (p.ptr 0).tag ((p.ptr 0).addr + 31) = true) ∧
    (let s := { pickAt { runner with ptrs := [(0, { addr := 511, tag := 3 })] } with
       shaft := { reqs := [{ id := 1, pick := 511, gal := 15, seam := 15, kind := .get, slot := 1 }] } }
     readWaits s 511 ((pickSt s 511).ptr 0).tag (((pickSt s 511).ptr 0).addr + 1) 1 = false ∧
     readWaits s 511 ((pickSt s 511).ptr 0).tag (((pickSt s 511).ptr 0).addr + 129) 1 = true ∧
     readWaits s 511 ((pickSt s 511).ptr 0).tag ((pickSt s 511).ptr 0).addr 130 = true) :=
  ⟨by decide, settled_without_requests, .inl (by decide), by decide, by decide⟩

theorem witness_CheckUnitInstructions :
    (pickSt (pickAt runner) 511).phase = .running ∧ Settled 511 (pickAt runner) ∧ Plain ((pickSt (pickAt runner) 511).ptr 7) :=
  ⟨by decide, settled_without_requests, .inr (by decide)⟩

theorem witness_BranchesCallsAndWaits :
    (pickSt (pickAt runner) 511).phase = .running ∧ (pickSt (pickAt runner) 511).stack = 9 :: [] ∧
    (let s := { pickAt runner with
       shaft := { reqs := [{ id := 1, pick := 511, gal := 15, seam := 15, kind := .crypto, nowait := true }] } }
     ∃ r ∈ s.shaft.reqs, r.pick = 511 ∧ r.nowait = true ∧ r.stale = false) ∧
    (∀ r ∈ (pickAt runner).shaft.reqs, r.pick = 511 → r.nowait = true → r.stale = true) ∧
    (pickSt (pickAt { runner with stack := [] }) 511).stack = [] ∧
    (let s := pickAt { runner with pc := 1 }
     (bankOf s 15 (pickSt s 511).bank).prog.insns.length ≤ (pickSt s 511).pc) ∧
    (let s := pickAt runner
     (pickSt s 511).pc < (bankOf s 15 (pickSt s 511).bank).prog.insns.length) ∧
    (encodePick (.nop 511) = some 0x0000 ∧ (pickSt served (pickOf (.nop 511))).phase ≠ .running) := by decide

theorem witness_EveryPickWordDecodesToItsInstruction :
    encodePick (.faddi 511 7 511) = some 0x8FFF ∧ decodePick 511 0x8FFF = some (.faddi 511 7 511) := by decide

/-! ### Witnesses: the standard programs -/

/-- The served gallery's last pick runs a module on an item of a class that holds a frame. -/
def serving (cls id : Nat) (f : List Nat) : State :=
  { served with
    gals := [(15, { phase := .active, banks := [(0, { prog := {
      mask := 2 ^ 15, insns := [0xE500], dispatch := List.replicate 16 0, modules := [{ id := id, first := 0, last := 0 }] } })] })]
    picks := [(511, { phase := .running, item := some {
      cls := cls, hdr := List.replicate 14 0 ++ [63, 15] ++ List.replicate 16 0, frame := f, cell := 0, cells := 1 } })] }

/-- A UDP/IPv4 datagram to a port. -/
def udpFrame (dport : Nat) (payload : List Nat) : List Nat :=
  List.replicate 12 2 ++ [8, 0] ++ [0x45, 0] ++ beBytes 2 (28 + payload.length) ++ [0, 0, 0, 0, 64, 17, 0, 0, 10, 0, 0, 1, 10, 0, 0, 2]
    ++ beBytes 2 40000 ++ beBytes 2 dport ++ beBytes 2 (8 + payload.length) ++ [0, 0] ++ payload

/-- A client request of NTP version 4. -/
def ntpClient : List Nat := 0x23 :: List.replicate 47 0

/-- What the grant of a slot on port 63 looks at is as the served device has it: 25GBASE-R without FEC, at Lode time 0. -/
def grantsOk (s : State) : Bool :=
  (portCfg s 63).speed == 1 && (portCfg s 63).fec == 0 && portCout s 63 == 0 && (portSt s 63).link && !portDown s 63
    && (portSt s 63).resvs.isEmpty && theta s 63 == 2000 && nowFu s == 0

/-- What a STAMP of the last pick looks at, its limit apart, is as the served device has it. -/
def stampsOk (s : State) : Bool :=
  grantsOk s && galSeam s 15 == 15 && homeOf s 63 15 == some 15 && s.lode.svc && !(seamGate s 15).stopped && !s.tally.hold
    && !s.lode.pullOn && s.lode.rFrozen == 0 && yTally s == 0 && aTally s == 0 && !unboundedNow s && s.leap == {}
    && codeOfFu (sourceFu s 0 + termDpt s 63) == 9 && sget none (pickSt s 511).resv 0 == none

/-- The first slot from 2 us on. -/
def firstSlot : Nat := slotFrom 63 1 0 0 131072000

/-- What a STAMP returns then. -/
def stampOf (s : State) (ntp : Bool) : Stamp :=
  let c := seamRec s 15
  let code := boundCode s firstSlot (termDpt s 63) (carrierAllowance ntp)
  { launch := firstSlot, epoch := s.tally.epoch, code := code, li := leapLi s firstSlot
    silent := !c.smear && (inInsertedSecond s firstSlot || inInsertedSecond s 0)
    smear := c.smear && ntp && inLeapWindow s firstSlot
    record := boundRecord s firstSlot code (c.smear && ntp) (hopServed s), origin := originTrace s, resv := s.prt.nextResv }

/-- The state after the STAMP of a frame of `n` bytes. -/
def stamped (s : State) (n : Nat) : State :=
  pickMod 511 (fun p => { p with
    resv := sput none p.resv 0 (some { id := s.prt.nextResv, port := 63, n := n, launch := firstSlot, epoch := s.tally.epoch }) })
    (takeResv 63 firstSlot n (wbrEvent 0x0E 15 1 s))

theorem rawBit_even (k : Nat) : rawBit 1 0 k - rawBit 1 0 0 = k * 66 := by
  simp only [rawBit, ↓reduceIte]
  omega

/-- Block `k` of a 25 Gbit/s line without FEC lies on an even grid. -/
theorem blockTime_even (k : Nat) : blockTime 1 0 k = k * blockPeriod 1 := by
  have h : ∀ m, k * 66 * m / 66 = k * m := fun m => by rw [Nat.mul_right_comm, Nat.mul_div_cancel _ (by decide)]
  unfold blockTime
  rw [if_pos (by decide), rawBit_even, h]

theorem slotAt_even_le (n i m : Nat) (h : i ≤ m) : slotAt n 1 0 0 i ≤ (blockPeriod 1 + m * blockPeriod 1) / 25 := by
  have e : markSpan 1 0 = (1, 1) := by decide
  have hp : 0 < blockPeriod 1 := by decide
  unfold slotAt
  rw [e, blockTime_even, Nat.add_zero, Nat.one_mul]
  exact Nat.div_le_div_right (Nat.add_le_add (Nat.le_of_lt (Nat.mod_lt _ hp)) (Nat.mul_le_mul_right _ h))

/-- A slot of that grid lies within eighteen block periods. -/
theorem slotFrom_even_le (n t : Nat) :
    slotFrom n 1 0 0 t ≤ (blockPeriod 1 + (25 * t / blockPeriod 1 + 17) * blockPeriod 1) / 25 := by
  have e : markSpan 1 0 = (1, 1) := by decide
  have one : ∀ x, x / (1, 1).2 * (1, 1).1 + min (x % (1, 1).2) (1, 1).1 - 8 = x - 8 := fun x => by
    simp only [Nat.div_one, Nat.mul_one, Nat.mod_one, Nat.zero_min, Nat.add_zero]
  have hx : (25 * (t - 0) - Config.slotPhase n % (1 * blockPeriod 1)) / blockPeriod 1 ≤ 25 * t / blockPeriod 1 :=
    Nat.div_le_div_right (Nat.sub_le _ _)
  unfold slotFrom
  rw [e]
  dsimp only
  rw [one]
  generalize (25 * (t - 0) - Config.slotPhase n % (1 * blockPeriod 1)) / blockPeriod 1 = x at hx
  generalize 25 * t / blockPeriod 1 = y at hx
  cases h : List.find? (fun l => decide (t ≤ l)) ((List.range 18).map fun i => slotAt n 1 0 0 (x - 8 + i)) with
  | none =>
    rw [Option.getD_none]
    exact slotAt_even_le _ _ _ (by omega)
  | some l =>
    obtain ⟨i, hi, rfl⟩ := List.mem_map.1 (List.mem_of_find?_eq_some h)
    have := List.mem_range.1 hi
    rw [Option.getD_some]
    exact slotAt_even_le _ _ _ (by omega)

/-- That slot from 2 us on lies within 3 us. -/
theorem served_slot_lt : slotFrom 63 1 0 0 131072000 < 196608000 := by
  exact Nat.lt_of_le_of_lt (slotFrom_even_le 63 131072000) (by decide)

theorem firstSlot_lt : firstSlot < 196608000 := served_slot_lt

/-- Such a port grants that slot. -/
theorem grants_slot {s : State} (h : grantsOk s = true) (n : Nat) : grantSlot s 63 n 0 0 = some firstSlot := by
  simp only [grantsOk, Bool.and_eq_true, beq_iff_eq, Bool.not_eq_true', List.isEmpty_iff] at h
  obtain ⟨⟨⟨⟨⟨⟨⟨h1, h2⟩, h3⟩, h4⟩, h5⟩, h6⟩, h7⟩, _⟩ := h
  have hs : ∀ t, slotAfter s 63 t = slotFrom 63 1 0 0 t := fun t => by
    unfold slotAfter
    rw [if_pos (by decide), h1, h2, h3]
  have hr : heldResvs s 63 = [] := by simp only [heldResvs, h6, List.filter_nil]
  have hl := firstSlot_lt
  unfold grantSlot
  simp only [h4, h5, h7, hr, List.length_nil, findSlot, hs,
    show max 0 (0 + fuOfNs 2000) = 131072000 from by simp [fuOfNs], show slotFrom 63 1 0 0 131072000 = firstSlot from rfl]
  rw [if_neg (by simp), if_neg (by simp only [fuOfNs]; omega)]

/-- In such a device the bound does not grow, and no launch instant lies in a leap window. -/
theorem stamps_bound {s : State} (h : stampsOk s = true) :
    (∀ l d a, boundCode s l d a = addCode (codeOfFu (sourceFu s 0 + d)) a) ∧ ∀ t, inInsertedSecond s t = false := by
  simp only [stampsOk, Bool.and_eq_true, beq_iff_eq, Bool.not_eq_true'] at h
  obtain ⟨⟨⟨⟨⟨⟨⟨⟨_, hp⟩, hz⟩, hy⟩, ha⟩, hu⟩, hl⟩, _⟩, _⟩ := h
  have hg : ∀ t, termGrowth s t = 0 := fun t => by simp [termGrowth, hy, ha, ceilDiv]
  have hq : ∀ t, termPull s t = 0 := fun t => by simp [termPull, hp, hz]
  refine ⟨fun l d a => by simp only [boundCode, hu, Bool.false_eq_true, ↓reduceIte, sourceFu, hg, hq], fun t => ?_⟩
  simp [inInsertedSecond, leapAt, hl]

/-- Its STAMP is granted, with any limit from 1600 on. -/
theorem stamps_stamp {s : State} (h : stampsOk s = true) (n carrier : Nat) (hc : carrier < 2) (hm : 1600 ≤ (seamRec s 15).limit) :
    stampCall 511 63 carrier 0 n 0 0 s = (some (stampOf s (carrier == 1)), stamped s n) ∧
      (stampOf s (carrier == 1)).silent = false := by
  obtain ⟨hb, hi⟩ := stamps_bound h
  simp only [stampsOk, Bool.and_eq_true, beq_iff_eq, Bool.not_eq_true'] at h
  obtain ⟨⟨⟨⟨⟨⟨⟨⟨⟨⟨⟨⟨⟨hg, h1⟩, h2⟩, h3⟩, h4⟩, h5⟩, _⟩, _⟩, _⟩, _⟩, _⟩, _⟩, h6⟩, h7⟩ := h
  have hn : nowFu s = 0 := by
    simp only [grantsOk, Bool.and_eq_true, beq_iff_eq] at hg
    exact hg.2
  unfold stampCall
  dsimp only [Nat.reduceDiv]
  rw [h1, h2, h7, if_neg (by simp; omega)]
  simp only [h3, h4, h5, hn, grants_slot hg, Bool.not_true, Bool.or_false, Bool.false_eq_true, ↓reduceIte]
  rw [if_neg (by
    have := (show ∀ b, addCode 9 (carrierAllowance b) ≤ 1600 by decide) (carrier == 1)
    rw [hb, h6]
    omega)]
  exact ⟨rfl, by simp [stampOf, hi]⟩

/-- The reservation that a STAMP leaves. -/
theorem stamped_resv (s : State) (n : Nat) :
    ∃ x, sget none (pickSt (stamped s n) 511).resv 0 = some x ∧ x.port = 63 ∧ x.n = n := by
  refine ⟨{ id := s.prt.nextResv, port := 63, n := n, launch := firstSlot, epoch := s.tally.epoch }, ?_, rfl, rfl⟩
  simp only [stamped, pickMod, pickSt, sget_smod_same, sget_sput_same]

/-- A response gets its stamp in such a device. -/
theorem stamps_resp {s : State} (h : stampsOk s = true) (r : RxReq) (n carrier : Nat) (hc : carrier < 2)
    (hm : 1600 ≤ (seamRec s 15).limit ∧ (seamRec s 15).aMaxUs = 100) (hg : gateWaits s 15 = false)
    (hr : r.pick = 511 ∧ r.port = 63 ∧ r.seam = 15 ∧ r.tRx = 0) :
    respStamp r carrier n s = (.inl (stampOf s (carrier == 1)), stamped s n) := by
  obtain ⟨e, hs⟩ := stamps_stamp h n carrier hc hm.1
  obtain ⟨r1, r2, r3, r4⟩ := hr
  have hl : (stampOf s (carrier == 1)).launch < 196608000 := by
    simp only [stampOf]
    exact firstSlot_lt
  have q : (511 / 32 : Nat) = 15 := rfl
  simp only [respStamp, callStamp, q, hg, r1, r2, r3, r4, e, hs, hm.2, fuOfNs, Bool.false_eq_true, and_false, ↓reduceIte]
  rw [if_neg (by omega)]

/-- The served device and those with another program and frame are such devices. -/
theorem serving_ok (cls id : Nat) (f : List Nat) : stampsOk (serving cls id f) = true :=
  (rfl : _ = stampsOk { served with picks := [(511, { phase := .running })] }).trans (by decide)

theorem beBytes_len (n v : Nat) : (beBytes n v).length = n := by
  induction n with
  | zero => rfl
  | succ n ih => simp [beBytes, ih]

/-- A frame is as long as its message says. -/
theorem frame_len (w : Wire) (s : State) (b : List Nat) (hv : w.ver = 0 ∨ w.ver = 4 ∨ w.ver = 6) :
    (w.frame s b).length = w.len b.length := by
  rcases hv with h | h | h <;> simp [Wire.frame, Wire.len, Wire.at', pad60, ipHeader, h, beBytes_len] <;> omega

/-- The EMIT of a response of the served device, after its stamp, keeps the rules. -/
theorem served_emit (w : Wire) (s u : State) (b : List Nat) (n : Nat) (hv : w.ver = 4) (hl : w.l2.length = 14)
    (hn : n = w.len b.length) (hb : b.length ≤ 900)
    (hx : ∃ x, sget none (pickSt u 511).resv 0 = some x ∧ x.port = 63 ∧ x.n = n) :
    emitOk u 511 (w.emit s 63 true 0 b) = true := by
  obtain ⟨x, h1, h2, h3⟩ := hx
  have hf := frame_len w s b (.inr (.inl hv))
  have ha : w.at' = 42 := by simp [Wire.at', hv, hl]
  have hm : w.len b.length = max 60 (42 + b.length) := by rw [Wire.len, ha]
  simp [emitOk, Wire.emit, hv, hl, h1, h2, h3, hf, hn, hm, ha]
  omega

theorem ntpHeader_len (s : State) (r : RxReq) (st : Stamp) (h : 48 ≤ r.data.length) : (ntpHeader s r st).length = 48 := by
  have hr : (ntpRefId s st).length = 4 := by
    unfold ntpRefId
    simp only []
    split
    · rfl
    · split
      · rfl
      · split
        · rfl
        · split
          · rfl
          · exact beBytes_len ..
  simp [ntpHeader, beBytes_len, hr, slice]
  omega

/-- The frame that the last pick serves. -/
def reqOf (s : State) : RxReq :=
  (rxReq s 511).getD { pick := 0, seam := 0, port := 0, cls := 0, flags := 0, tRx := 0, f := [], q := {} }

/-- The served device with an NTP request. -/
def ntpState : State := serving 6 3 (udpFrame 123 ntpClient)

theorem witness_NtpRequestAnswered :
    rxReq ntpState 511 = some (reqOf ntpState) ∧ (reqOf ntpState).cls = 6 ∧ pickModule ntpState 511 = 3 ∧
    bankRuns (pickBank ntpState 511) 3 = true ∧ bankRuns (pickBank ntpState 511) 4 = false ∧
    ntpCheck (reqOf ntpState) = none ∧ (reqOf ntpState).invalid = false ∧ 48 ≤ (reqOf ntpState).data.length ∧
    ∃ st u, respStamp (reqOf ntpState) 1 ((replyWire ntpState (reqOf ntpState)).len
        (48 + if wantsBound ntpState (reqOf ntpState) then 24 else 0)) ntpState = (.inl st, u) ∧
      emitOk u 511 ((replyWire ntpState (reqOf ntpState)).emit u (reqOf ntpState).port true 0
        (ntpHeader ntpState (reqOf ntpState) st ++ boundField ntpState (reqOf ntpState) st)) = true := by
  have hd : 48 ≤ (reqOf ntpState).data.length := by decide +kernel
  refine ⟨rfl, by decide, by decide, by decide, by decide, by decide +kernel, by decide +kernel, hd, ?_⟩
  have hw : wantsBound ntpState (reqOf ntpState) = false := by decide +kernel
  have hp : (reqOf ntpState).port = 63 := by decide +kernel
  have h := stamps_resp (serving_ok 6 3 (udpFrame 123 ntpClient)) (reqOf ntpState)
    ((replyWire ntpState (reqOf ntpState)).len 48) 1 (by decide) ⟨by decide, by decide⟩ (by decide)
    ⟨by decide +kernel, hp, by decide +kernel, by decide +kernel⟩
  refine ⟨_, _, by rw [hw]; exact h, ?_⟩
  rw [show ∀ st, boundField ntpState (reqOf ntpState) st = [] from fun _ => by simp [boundField, hw], List.append_nil, hp]
  exact served_emit _ _ _ _ _ (by decide +kernel) (by decide +kernel) (by rw [ntpHeader_len _ _ _ hd])
    (by rw [ntpHeader_len _ _ _ hd]; decide) (stamped_resv _ _)

/-- An NTS request whose cookie no key opens. -/
def ntsClient : List Nat :=
  ntpClient ++ [1, 4, 0, 36] ++ List.replicate 32 7 ++ [2, 4, 0, 108] ++ List.replicate 104 0
    ++ [4, 4, 0, 40, 0, 16, 0, 16] ++ List.replicate 32 0

/-- The served device with an NTS request. -/
def ntsState (rate : Nat) : State :=
  let s := serving 6 4 (udpFrame 123 ntsClient)
  { s with cfg := { s.cfg with seams := { s.cfg.seams with seams := [(15, { configured := true, limit := 1600, nakRate := rate })] } } }

/-- The served device with SyncE output on its port. -/
def synceState (id : Nat) (sent : Nat) : State :=
  let s := serving 9 id []
  { s with
    cfg := { s.cfg with str := { s.cfg.str with ports := [(63, { en := true, speed := 1, synceTx := true })] } }
    prt := { ports := [(63, { link := true, qlSent := sent })] } }

/-- An ESMC PDU whose organisation is `oui`. -/
def esmcFrame (oui : Nat) : List Nat :=
  List.replicate 12 1 ++ [0x88, 0x09, 0x0A] ++ beBytes 3 oui ++ [0, 1, 0x10, 0, 0, 0, 1, 0, 4, 2] ++ List.replicate 32 0

/-- An ARP request for an address. -/
def arpFrame (ip : Nat) : List Nat :=
  List.replicate 12 1 ++ [8, 6, 0, 1, 8, 0, 6, 4, 0, 1] ++ List.replicate 6 1 ++ [10, 0, 0, 1] ++ List.replicate 6 0 ++ beBytes 4 ip
    ++ List.replicate 18 0

/-- The served device with an ARP request; its seam has an address. -/
def arpState (ip : Nat) : State :=
  let s := serving 1 6 (arpFrame ip)
  { s with cfg := { s.cfg with seams := { s.cfg.seams with seams := [(15, { configured := true, limit := 1600, ip4 := 0x0A000002 })] } } }

/-- The served device with an echo request to its seam's address; `flags` is the descriptor's flag byte. -/
def echoState (flags : Nat) : State :=
  let f := List.replicate 12 2 ++ [8, 0] ++ [0x45, 0, 0, 28, 0, 0, 0, 0, 64, 1, 0, 0, 10, 0, 0, 1, 10, 0, 0, 2, 8, 0, 0, 0, 0, 1, 0, 1]
    ++ List.replicate 18 0
  let s := serving 4 6 f
  { s with
    cfg := { s.cfg with seams := { s.cfg.seams with seams := [(15, { configured := true, limit := 1600, ip4 := 0x0A000002 })] } }
    picks := [(511, { phase := .running, item := some {
      cls := 4, hdr := List.replicate 14 0 ++ [63, 15, 0, flags] ++ List.replicate 14 0, frame := f, cell := 0, cells := 1 } })] }

theorem witness_NeighbourAnswersEchoes :
    (let s := echoState 0
     let r := reqOf s
     rxReq s 511 = some r ∧ r.cls = 4 ∧ pickModule s 511 = 6 ∧ r.flagged = false ∧ beAt r.f r.q.l4 2 = 0x0800 ∧
     r.q.dst = (seamRec s r.seam).ip4 ∧ (echo4 r).length ≤ 9212 ∧ r.q.l3 + 12 ≤ min (echo4 r).length 1023) ∧
    (let s := serving 4 6 []
     rxReq s 511 = some (reqOf s) ∧ (reqOf s).flagged = false ∧ beAt (reqOf s).f (reqOf s).q.l4 2 ≠ 0x0800) ∧
    (reqOf (echoState 16)).flagged = true ∧
    (let s := serving 1 6 (arpFrame 0)
     (reqOf s).flagged = false ∧ 28 ≤ ((reqOf s).f.drop (reqOf s).q.l3).length) ∧
    (let s := serving 1 6 (List.replicate 60 0)
     beAt ((reqOf s).f.drop (reqOf s).q.l3) 0 6 ≠ 0x000108000604) := by
  refine ⟨⟨rfl, ?_⟩, ⟨rfl, ?_⟩, ?_, ?_, ?_⟩ <;> decide +kernel

theorem witness_NtpNtsEsmcAndNeighbourRequests :
    (let s := serving 6 3 (udpFrame 123 [0x23])
     rxReq s 511 = some (reqOf s) ∧ ntpCheck (reqOf s) = some 16) ∧
    (let s := serving 6 4 (udpFrame 123 ntpClient)
     rxReq s 511 = some (reqOf s) ∧ (reqOf s).cls = 6 ∧ pickModule s 511 = 4 ∧ bankRuns (pickBank s 511) 4 = true ∧
     bankRuns (pickBank s 511) 3 = false ∧ ntpCheck (reqOf s) = none ∧ (ntsReq (reqOf s)).isNone = true) ∧
    (let s := ntsState 1
     rxReq s 511 = some (reqOf s) ∧ ntpCheck (reqOf s) = none ∧ (ntsReq (reqOf s)).isSome = true ∧
     (reqOf s).invalid = false ∧ cookieSlot s 15 (List.replicate 104 0) = none ∧ sessEnabled s = false ∧
     (seamSt s 15).nakN = 0 ∧ 0 < (seamRec s 15).nakRate) ∧
    (keyLen (srcKey (reqOf (ntsState 0))).1 ≠ none ∧ (seamRec (ntsState 0) 15).nakRate = 0) ∧
    (let s := synceState 5 0xF
     let u := elapseTo (nextMultiple ticksPerSec s) s
     esmcGal u 63 = some 15 ∧ portEn s 63 = true ∧ (portCfg s 63).synceTx = true ∧ (esmcRecent u 63).length < 10 ∧
     txQl s 63 ≠ (portSt s 63).qlSent) ∧
    txQl (synceState 5 2) 63 = (portSt (synceState 5 2) 63).qlSent ∧
    esmcGal (elapseTo (nextMultiple ticksPerSec State.reset) State.reset) 63 = none ∧
    (let s := serving 9 5 (esmcFrame 0x0019A7)
     let s := { s with cfg := { s.cfg with refs := { refs := [{ id := 11, port := some 63 }] } } }
     rxReq s 511 = some (reqOf s) ∧ (reqOf s).cls = 9 ∧ pickModule s 511 = 5 ∧
     (let b := (reqOf s).f.drop (reqOf s).q.l3
      beAt b 1 3 = 0x0019A7 ∧ beAt b 4 2 = 1 ∧ beAt b 6 1 / 16 = 1 ∧ beAt b 10 3 = 0x010004) ∧
     portSync s (reqOf s).port = some 11 ∧ ctrlFull s 15 = false) ∧
    (let s := serving 9 5 (esmcFrame 0)
     beAt ((reqOf s).f.drop (reqOf s).q.l3) 1 3 ≠ 0x0019A7 ∧ portSync s (reqOf s).port = none) ∧
    (ctrlFull (galAt { ctrlIn := List.replicate 64 [] }) 15 = true ∧
     64 ≤ (galSt (galAt { qCtrl := List.replicate 64 rxSmall }) 15).qCtrl.length) ∧
    (let s := arpState 0x0A000002
     let r := reqOf s
     let a := r.f.drop r.q.l3
     let c := seamRec s r.seam
     rxReq s 511 = some r ∧ r.cls = 1 ∧ pickModule s 511 = 6 ∧ beAt a 24 4 = c.ip4 ∧ c.ip4 ≠ 0 ∧
     beAt a 0 8 = 0x0001080006040001 ∧ (pad60 (arpReply c r)).length ≤ 9212) ∧
    (let s := arpState 0x0A000003
     beAt ((reqOf s).f.drop (reqOf s).q.l3) 24 4 ≠ (seamRec s (reqOf s).seam).ip4) := by
  refine ⟨⟨rfl, ?_⟩, ⟨rfl, ?_⟩, ⟨rfl, ?_⟩, ?_, ?_, ?_, ?_, ⟨rfl, ?_⟩, ?_, ?_, ⟨rfl, ?_⟩, ?_⟩ <;> decide +kernel

/-- A PTP message over UDP/IPv4, to a port: type, length, domain, and the bytes after the header. -/
def ptpFrame (dport type len dom : Nat) (body : List Nat) : List Nat :=
  udpFrame dport ([type, 2] ++ beBytes 2 len ++ [dom, 0] ++ List.replicate 28 0 ++ body)

/-- The served device with a Delay_Req of a domain. -/
def delayState (dom : Nat) : State := serving 7 1 (ptpFrame 319 1 44 dom (List.replicate 10 0))

theorem witness_PtpDelayRequestAnswered :
    tickItem (delayState 24) 511 = none ∧ rxReq (delayState 24) 511 = some (reqOf (delayState 24)) ∧
    (reqOf (delayState 24)).cls = 7 ∧ pickModule (delayState 24) 511 = 1 ∧ bankRuns (pickBank (delayState 24) 511) 1 = true ∧
    portPtp (delayState 24) (reqOf (delayState 24)).port = none ∧
    domainOf (seamRec (delayState 24) (reqOf (delayState 24)).seam) (beAt (reqOf (delayState 24)).ptp 4 1) =
      some { number := 24, profile := 2 } ∧
    ptpCarries { number := 24, profile := 2 } (reqOf (delayState 24)).transport = true ∧
    beAt (reqOf (delayState 24)).ptp 1 1 % 16 = 2 ∧ beAt (reqOf (delayState 24)).ptp 0 1 = 1 ∧
    ptpFormOk (reqOf (delayState 24)).ptp = true ∧ (reqOf (delayState 24)).invalid = false ∧
    needsGrant { number := 24, profile := 2 } (reqOf (delayState 24)).multicast = false ∧
    ∃ st u, respStamp (reqOf (delayState 24)) 0 ((ptpReply (delayState 24) (reqOf (delayState 24))).len 54) (delayState 24) =
        (.inl st, u) ∧
      ∀ a b c d e f g h body, (ptpMsg a b c d (portIdentity e f) g h body (List.replicate 20 0)).length = 54 ∧
        emitOk u 511 ((ptpReply (delayState 24) (reqOf (delayState 24))).emit u (reqOf (delayState 24)).port true 0
          (ptpMsg a b c d (portIdentity e f) g h body (List.replicate 20 0))) = true := by
  have hp : (reqOf (delayState 24)).port = 63 := by decide +kernel
  refine ⟨by decide, rfl, by decide, by decide, by decide, by decide +kernel, by decide +kernel, by decide +kernel,
    by decide +kernel, by decide +kernel, by decide +kernel, by decide +kernel, by decide +kernel, ?_⟩
  have h := stamps_resp (serving_ok 7 1 (ptpFrame 319 1 44 24 (List.replicate 10 0))) (reqOf (delayState 24))
    ((ptpReply (delayState 24) (reqOf (delayState 24))).len 54) 0 (by decide) ⟨by decide, by decide⟩ (by decide)
    ⟨by decide +kernel, hp, by decide +kernel, by decide +kernel⟩
  refine ⟨_, _, h, fun a b c d e f g i body => ?_⟩
  have hl : (ptpMsg a b c d (portIdentity e f) g i body (List.replicate 20 0)).length = 54 := by
    simp [ptpMsg, portIdentity, beBytes_len]
  refine ⟨hl, ?_⟩
  rw [hp]
  exact served_emit _ _ _ _ _ (by decide +kernel) (by decide +kernel) (by rw [hl]) (by rw [hl]; decide) (stamped_resv _ _)

/-- A PTP-reference port whose exchange awaits its Delay_Resp. -/
def refState : State :=
  let s := serving 8 2 (ptpFrame 320 9 54 24 (List.replicate 10 0 ++ portIdentity 0 63))
  { s with
    cfg := { s.cfg with refs := { refs := [{ id := 15, port := some 63 }] }
                        seams := { s.cfg.seams with ptpRef := [(15, { domain := 24 })] } }
    ptpRef := [(15, { t1 := some 1, t2 := some 2, t3 := some 3 })] }

/-- A record of a client of port 63 whose Delay_Resp grant ends now. -/
def grantRecord : List Nat := List.replicate 19 0 ++ [4] ++ List.replicate 13 0 ++ [63] ++ List.replicate 30 0

/-- The served device with that record, in a session store of one record. -/
def grantState : State :=
  let s := serving 8 1 []
  { s with
    cfg := { s.cfg with str := { s.cfg.str with sessEn := true }
                        seams := { s.cfg.seams with seams := [(15, { configured := true, limit := 1600, recCount := 1 })] } }
    sess := { trained := 15, trainedOnce := true, recs := [(0, grantRecord)], dir := [(0, { valid := true })] } }

theorem witness_DelayRespLimit :
    (let s := delayState 24
     delayOver s (reqOf s) { number := 24, profile := 2 } = false) ∧
    (let s := delayState 44
     let d := List.replicate 128 ((ptpKey (reqOf s)).2, (reqOf s).tRx)
     let s := { s with seam := [(15, { delays := d })] }
     delayOver s (reqOf s) { number := 44, profile := 0 } = true) := by
  refine ⟨?_, ?_⟩ <;> decide +kernel

theorem witness_PtpMessagesAndGrants :
    (tickItem served 511 = none ∧ (rxReq served 511).isNone = true) ∧
    (let s := delayState 5
     rxReq s 511 = some (reqOf s) ∧ tickItem s 511 = none ∧
     (domainOf (seamRec s (reqOf s).seam) (beAt (reqOf s).ptp 4 1)).isNone = true) ∧
    (let s := delayState 44
     rxReq s 511 = some (reqOf s) ∧ domainOf (seamRec s (reqOf s).seam) (beAt (reqOf s).ptp 4 1) = some { number := 44, profile := 1 } ∧
     ptpCarries { number := 44, profile := 1 } (reqOf s).transport = true ∧
     ptpCarries { number := 44, profile := 1 } 2 = false ∧
     needsGrant { number := 44, profile := 1 } (reqOf s).multicast = true ∧ sessEnabled s = false) ∧
    (let s := refState
     let r := reqOf s
     let m := r.ptp.take (beAt r.ptp 2 2)
     rxReq s 511 = some r ∧ tickItem s 511 = none ∧ r.cls = 8 ∧ pickModule s 511 = 2 ∧ portPtp s r.port = some 15 ∧ ctrlFull s 15 = false ∧
     bankRuns (pickBank s 511) 2 = true ∧ beAt r.ptp 0 1 = 9 ∧ beAt r.ptp 1 1 % 16 = 2 ∧
     beAt r.ptp 4 1 = (refCfg s 15).domain ∧ ptpFormOk r.ptp = true ∧ r.invalid = false ∧ (refCfg s 15).auth = none ∧
     (refPtp s 15).t1 = some 1 ∧ (refPtp s 15).t2 = some 2 ∧ (refPtp s 15).t3 = some 3 ∧ (refSt s 15).masterLost = false ∧
     beAt m 30 2 = (refPtp s 15).seq ∧ slice 44 10 m = portIdentity (refCfg s 15).clockId r.port) ∧
    (let s := grantState
     let c := seamRec s 15
     let x := recordOf s (c.recBase + 0)
     s.cfg.str.pairs.find? (fun q => q.seam == 15 && q.port == beAt x 33 1) = some { port := 63, seam := 15, home := 15 } ∧
     boundGal s 15 63 = some 15 ∧ bankRuns (activeBank s 15) 1 = true ∧ sessEnabled s = true ∧ 0 < c.recCount ∧
     s.lode.coarse = false ∧ beAt x 19 1 % 8 = 2 ^ 2 ∧ beAt x (40 + 4 * 2) 4 = tai32 s) ∧
    beAt (recordOf served ((seamRec served 15).recBase + 7)) 19 1 % 8 = 0 := by
  have hp : (reqOf refState).port = 63 := by decide +kernel
  have hi : slice 44 10 ((reqOf refState).ptp.take (beAt (reqOf refState).ptp 2 2)) = portIdentity 0 63 := by rfl
  refine ⟨?_, ⟨rfl, ?_⟩, ⟨rfl, ?_⟩, ⟨rfl, ?_, ?_, ?_, ?_, ?_, ?_, ?_, ?_, ?_, ?_, ?_, ?_, ?_, ?_, ?_, ?_, ?_, ?_⟩, ?_, ?_⟩
  any_goals decide +kernel
  rw [hp]
  exact hi


/-! ### Witnesses: an NTS request answered -/
/-- An NTS request under the keys of a session record, of zeros: its Authenticator covers the fields before it, with an empty plaintext. -/
def ntsGood : List Nat :=
  ntpClient ++ [1, 4, 0, 36] ++ List.replicate 32 7 ++ [2, 4, 0, 108] ++ List.replicate 104 0
    ++ [4, 4, 0, 40, 0, 16, 0, 16] ++ List.replicate 16 0
    ++ [133, 228, 49, 176, 167, 97, 15, 5, 143, 100, 143, 176, 58, 110, 233, 200]

/-- The served device with that request, and a session store that holds its client's record. -/
def ntsHeld : State :=
  let s := serving 6 4 (udpFrame 123 ntsGood)
  { s with
    cfg := { s.cfg with
      str := { s.cfg.str with sessEn := true }
      seams := { s.cfg.seams with seams := [(15, { configured := true, limit := 1600, recCount := 8, laneMask := 1, cookieCur := 7 })] } }
    shaft := { s.shaft with tokens := [(15, 0)] }
    cry := { mag := [(7, { loaded := true, len32 := true, usage := 1, owner := 15, lanes := 1 })] }
    sess := { trained := 15, trainedOnce := true, recs := [(0, List.replicate 64 1)], dir := [(0, { valid := true, tag := 703477888 })] } }

/-- The fields of that request. -/
def ntsFieldsOf : NtsReq := (ntsReq (reqOf ntsHeld)).getD ⟨[], [], [], [], [], 0⟩

/-- What its session record's GET answers. -/
def ntsGot : Nat × List Nat × State :=
  sessGetNow 511 (reqOf ntsHeld).seam (srcKey (reqOf ntsHeld)).1 (srcKey (reqOf ntsHeld)).2 (memErrors (reqOf ntsHeld).seam [] ntsHeld)

/-- What its verification answers. -/
def ntsVerified : Option (List Nat) × State := callCrypto 511 (ntsVerifyOp ntsFieldsOf (ntsGot.2.1.take 32)) ntsGot.2.2

/-- Its seal: of the header of its stamp and its unique identifier, with one new cookie. -/
def ntsSealed : Option (List Nat) × State :=
  callCrypto 511 (ntsSealOp 7 ntsGot.2.1 (ntpHeader ntsVerified.2 (reqOf ntsHeld) (stampOf ntsVerified.2 true) ++ ntsFieldsOf.uid) 1)
    (stamped ntsVerified.2 274)

theorem ntsHeld_facts :
    ntpCheck (reqOf ntsHeld) = none ∧ (ntsReq (reqOf ntsHeld)).isSome = true ∧ (reqOf ntsHeld).invalid = false ∧
    (reqOf ntsHeld).pick = 511 ∧ (reqOf ntsHeld).port = 63 ∧ (reqOf ntsHeld).seam = 15 ∧ (reqOf ntsHeld).tRx = 0 ∧
    48 ≤ (reqOf ntsHeld).data.length ∧ ntsFieldsOf.uid.length = 36 ∧ newCookies ntsFieldsOf = 1 := by decide +kernel

theorem ntsVerified_facts :
    ntsGot.1 = 0 ∧ ntsVerified.1 = some [] ∧ stampsOk ntsVerified.2 = true ∧ gateWaits ntsVerified.2 15 = false ∧
    1600 ≤ (seamRec ntsVerified.2 15).limit ∧ (seamRec ntsVerified.2 15).aMaxUs = 100 ∧
    wantsBound ntsVerified.2 (reqOf ntsHeld) = false ∧ (seamRec ntsVerified.2 15).cookieCur = 7 ∧
    (replyWire ntsVerified.2 (reqOf ntsHeld)).len 232 = 274 ∧ (replyWire ntsVerified.2 (reqOf ntsHeld)).ver = 4 ∧
    (replyWire ntsVerified.2 (reqOf ntsHeld)).l2.length = 14 := by decide +kernel

theorem ntsSealed_facts :
    ntsSealed.1.map (·.length) = some 148 ∧ ntsSealed.2.shaft.reqs.length = 0 ∧
    (sget none (pickSt ntsSealed.2 511).resv 0).map (fun x => (x.port, x.n)) = some (63, 274) := by decide +kernel

theorem pair_eq {α β : Type} {p : α × β} {a : α} (h : p.1 = a) : p = (a, p.2) := by
  cases p
  cases h
  rfl

theorem witness_NtsRequestAnswered :
    rxReq ntsHeld 511 = some (reqOf ntsHeld) ∧ (reqOf ntsHeld).cls = 6 ∧ pickModule ntsHeld 511 = 4 ∧
    bankRuns (pickBank ntsHeld 511) 4 = true ∧ bankRuns (pickBank ntsHeld 511) 3 = false ∧ ntpCheck (reqOf ntsHeld) = none ∧
    ntsReq (reqOf ntsHeld) = some ntsFieldsOf ∧ (reqOf ntsHeld).invalid = false ∧
    ∃ keys v st w x z,
      (let r := reqOf ntsHeld
       let n := ntsFieldsOf
       let k := newCookies n
       let ad := ntpHeader v r st ++ n.uid ++ boundField v r st
       (∃ u o, sessGetNow 511 r.seam (srcKey r).1 (srcKey r).2 (memErrors r.seam [] ntsHeld) = (0, keys, u) ∧
         callCrypto 511 (ntsVerifyOp n (keys.take 32)) u = (some o, v)) ∧
       respStamp r 1 ((replyWire v r).len (48 + n.uid.length + (if wantsBound v r then 24 else 0) + 40 + 108 * k)) v =
         (.inl st, w) ∧
       callCrypto 511 (ntsSealOp (seamRec v r.seam).cookieCur keys ad k) w = (some x, z) ∧
       z.shaft.reqs.length ≤ ntsHeld.shaft.reqs.length ∧
       emitOk z 511 ((replyWire v r).emit z r.port true 0 (ad ++ x)) = true) := by
  obtain ⟨f1, f2, f3, f4, f5, f6, f7, f8, f9, f10⟩ := ntsHeld_facts
  obtain ⟨g1, g2, g3, g4, g5, g6, g7, g8, g9, g10, g11⟩ := ntsVerified_facts
  obtain ⟨h1, h2, h3⟩ := ntsSealed_facts
  obtain ⟨x, hx, hl⟩ := Option.map_eq_some_iff.1 h1
  obtain ⟨y, hy, hp⟩ := Option.map_eq_some_iff.1 h3
  have hn : ntsReq (reqOf ntsHeld) = some ntsFieldsOf := by
    obtain ⟨n, e⟩ := Option.isSome_iff_exists.1 f2
    rw [ntsFieldsOf, e, Option.getD_some]
  have hb : ∀ st, boundField ntsVerified.2 (reqOf ntsHeld) st = [] := fun _ => by simp [boundField, g7]
  refine ⟨rfl, by decide, by decide, by decide, by decide, f1, hn, f3, ntsGot.2.1, ntsVerified.2, stampOf ntsVerified.2 true,
    stamped ntsVerified.2 274, x, ntsSealed.2, ⟨ntsGot.2.2, [], ?_, ?_⟩, ?_, ?_, ?_, ?_⟩
  · exact (show ntsGot = (0, ntsGot.2) from pair_eq g1)
  · exact (show ntsVerified = (some [], ntsVerified.2) from pair_eq g2)
  · have e := stamps_resp g3 (reqOf ntsHeld) 274 1 (by decide) ⟨g5, g6⟩ g4 ⟨f4, f5, f6, f7⟩
    simp only [f9, f10, g7, Bool.false_eq_true, ↓reduceIte]
    rw [g9]
    exact e
  · rw [f6, g8, f10, hb, List.append_nil]
    exact (show ntsSealed = (some x, ntsSealed.2) from pair_eq hx)
  · rw [h2]
    exact Nat.zero_le _
  · rw [hb, List.append_nil, f5]
    have hh := ntpHeader_len ntsVerified.2 (reqOf ntsHeld) (stampOf ntsVerified.2 true) f8
    have ht : (ntpHeader ntsVerified.2 (reqOf ntsHeld) (stampOf ntsVerified.2 true) ++ ntsFieldsOf.uid ++ x).length = 232 := by
      simp [hh, f9, hl]
    exact served_emit _ _ _ _ 274 g10 g11 (by rw [ht, g9]) (by rw [ht]; decide)
      ⟨y, hy, congrArg Prod.fst hp, congrArg Prod.snd hp⟩

/-! ### Witnesses: helper calls -/

/-- A running pick, in a device with a session store of one record, whose operand block names that record. -/
def caller (p : PickSt) (rec : List Nat) (reqs : List ShReq) : State :=
  { served with
    cfg := { served.cfg with
      str := { served.cfg.str with sessEn := true }
      seams := { served.cfg.seams with seams := [(15, { configured := true, limit := 1600, recCount := 1, laneMask := 1 })] } }
    sess := { trained := 15, trainedOnce := true, recs := [(0, rec)], dir := [(0, { valid := true })] }
    picks := [(511, { p with phase := .running, loc := [(3, 2)] })], shaft := { reqs := reqs, nextReq := 1 } }

/-- A request of the last pick. -/
def request (k : ReqKind) : ShReq := { id := 0, pick := 511, gal := 15, seam := 15, kind := k, slot := 1 }

/-- A CRYPTO operation that the lanes serve: random bytes. -/
def opRandom : CryptoOp := { code := 0xE, segs := [(1, [1])], outLim := 64 }

theorem witness_SessionAndCryptoCalls :
    (pickSt served 511).phase ≠ .running ∧
    issueWaits (caller {} [] [request .get, { request .get with id := 1 }]) 511 .get 2 64 = true ∧
    (let s := caller {} [] []
     (pickSt s 511).phase = .running ∧ issueWaits s 511 .get 2 64 = false ∧ issueWaits s 511 .put 2 64 = false ∧
     issueWaits s 511 .crypto 1 32 = false) ∧
    (let r := { request .get with denied := true }
     let s := caller {} [] [r]
     s.shaft.reqs.find? (fun r => r.pick == 511 && r.kind == .get && r.slot == 1) = some r ∧ r.stale = false ∧
     r.denied = true) ∧
    (let r := { request .get with doneTick := some 5 }
     r.denied = false ∧ r.doneTick ≠ none ∧ r.budgetWait = false ∧ r.addr = none) ∧
    (let r := { request .get with doneTick := some 5, addr := some 0 }
     let s := caller {} (List.replicate 64 255) [r]
     s.shaft.reqs.find? (fun r => r.pick == 511 && r.kind == .get && r.slot == 1) = some r ∧ r.addr = some 0 ∧
     r.data = [] ∧ inboundTurn s r = true ∧ (rawRecord s 0).length = 64 ∧ (∀ x ∈ rawRecord s 0, x < 256) ∧
     (rawRecord s 0).all (· == 0) = false ∧ inboundTurn { s with shaft := { s.shaft with reqs :=
       [{ r with addr := some 3 }, { r with id := 1, pick := 510, addr := some 2 }] } } { r with addr := some 3 } = false) ∧
    (let r := { request .get with doneTick := some 5, addr := some 0, data := List.replicate 64 255 }
     r.data ≠ [] ∧ r.data.length = 64 ∧ ∀ x ∈ r.data, x < 256) ∧
    (request .get).doneTick = none ∧
    (let s := caller {} [] []
     let b := blockAt (pickSt s 511) 0 22
     resolve s 15 (beAt b 1 1) (slice 4 18 b) = .entry 0 ∧ (dirEnt s 0).valid = true ∧ (sessSlot (pickSt s 511) (beAt b 0 1 % 2)).all (· == 0) = true) ∧
    (sessSlot (pickSt (caller { result := [(0, 1)] } [] []) 511) 0).all (· == 0) = false ∧
    resolve served 15 0 (List.replicate 18 0) = .denied ∧
    (dirEnt { caller {} [] [] with sess := { trained := 15, trainedOnce := true } } 0).valid = false ∧
    (let r := { request .put with addr := some 0, data := List.replicate 64 1, doneTick := some 5 }
     let s := caller {} [] [r]
     s.shaft.reqs.find? (putReady s 511) = some r ∧
     r.addr = some 0 ∧ r.data.length = 64) ∧
    (let r := { request .crypto with denied := true }
     let s := caller {} [] [r]
     s.shaft.reqs.find? (fun r => r.pick == 511 && r.kind == .crypto) = some r ∧ r.stale = false ∧ r.denied = true) ∧
    (let r := { request .crypto with doneTick := some 5, lane := some 0, op := opRandom }
     let s := caller {} [] [r]
     s.shaft.reqs.find? (fun r => r.pick == 511 && r.kind == .crypto) = some r ∧ r.denied = false ∧ r.doneTick ≠ none ∧
     r.lane = some 0 ∧ 1 ≤ r.op.code ∧ r.op.code < 0xF ∧ (laneCfg s 0).fixed = false) ∧
    (let r := { request .crypto with doneTick := some 5, lane := some 0, op := opRandom }
     let s := caller {} [] [r, { r with id := 1, pick := 510, doneTick := some 4 }]
     let s := { s with cfg := { s.cfg with seams := { s.cfg.seams with lanes := [(0, { fixed := true })] } } }
     (laneCfg s 0).fixed = true ∧ fixedBefore s 0 r = true ∧ fixedBefore s 0 { r with id := 1, doneTick := some 4 } = false) := by
  decide

/-- Draws 16 random bytes. -/
def drawBlock : List Nat := [0x0F, 1] ++ List.replicate 28 0 ++ [0, 16]

/-- The bytes of a list as the nibbles of LOCAL, from byte 0. -/
def localBytes (l : List Nat) : Sparse Nat :=
  ((List.range (2 * l.length)).map fun k => (k, if k % 2 = 0 then (l[k / 2]?).getD 0 / 16 else (l[k / 2]?).getD 0 % 16)).filter
    fun e => e.2 != 0

theorem witness_SessionAndCryptoCalls_draw :
    (let s := caller {} [] []
     (cryptoCall s (pickSt s 511) 15 drawBlock).isSome = true ∧ (cryptoCall s (pickSt s 511) 15 []).isNone = true) := by
  decide

/-- A running pick that emits: 60 bytes of RESP to a port, best-effort, final or not. -/
def emitter (port : Nat) (final : Bool) : PickSt :=
  { phase := .running, loc := localBytes [0, 60, port, final.toNat, 0, 0], item := some { cls := 1, hdr := List.replicate 32 0 } }

/-- The served device with a module and a pick. -/
def withModule (id : Nat) (p : PickSt) : State := { serving 0 id [] with picks := [(511, p)] }

theorem witness_StampGranted :
    ∃ st u, stampCall 511 63 0 0 60 0 0 (issued 511 (withModule 0 { phase := .running })) = (some st, u) := by
  obtain ⟨h, _⟩ := stamps_stamp (show stampsOk (issued 511 (withModule 0 { phase := .running })) = true by decide) 60 0
    (by decide) (by decide)
  exact ⟨_, _, h⟩

theorem witness_StampEmitDropCountAndInbox :
    (pickSt (pickAt { phase := .running }) 511).phase = .running ∧
    (let s := { pickAt { phase := .running } with lode := { state := .locked } }
     s.lode.svc = false ∧ chanOf s 15 = 0 ∧ chanOf { s with shaft := { s.shaft with chan := [(15, 1)] } } 15 ≠ 0) ∧
    ({ pickAt { phase := .running } with tally := { hold := true } }).tally.hold = true ∧
    (let s := withModule 8 (emitter 63 true)
     let e := emitOf (pickSt s 511) (blockAt (pickSt s 511) 0 16)
     e.final = true ∧ e.port ≠ 0x80 ∧ emitOk s 511 e = true) ∧
    (let s := withModule 8 (emitter 0x41 false)
     let e := emitOf (pickSt s 511) (blockAt (pickSt s 511) 0 16)
     e.final = false ∧ emitOk s 511 e = false) ∧
    (let s := withModule 8 (emitter 0x80 true)
     let e := emitOf (pickSt s 511) (blockAt (pickSt s 511) 0 16)
     e.port = 0x80 ∧ emitOk s 511 e = true ∧ (galSt s 15).ctrlIn.length < 64 ∧ chanOf s 15 = 0 ∧
       64 ≤ (galSt (galAt { ctrlIn := List.replicate 64 [] }) 15).ctrlIn.length) ∧
    (let x : TxFrame := { seq := 1, pick := 511, bytes := List.replicate 60 0, final := true, arrived := 60 }
     let s := portAt { tx := [x] }
     (List.range 64).find? (fun p => (portSt s p).tx.any fun x => x.pick == 511 && !x.released && !txMoving x) = some 63 ∧
     (portSt s 63).tx.find? (fun x => x.pick == 511 && !x.released && !txMoving x) = some x ∧ x.final = true) ∧
    (List.range 64).find? (fun p => (portSt served p).tx.any fun x => x.pick == 511 && !x.released && !txMoving x) = none ∧
    (let s := pickAt { phase := .running, loc := localBytes [15, 0, 8, 0, 0, 0] }
     let b := blockAt (pickSt s 511) 0 8
     let d := beAt b 0 1
     let n := beAt b 2 2
     issueWaits s 511 .inbox 1 32 = false ∧
     ¬ (16 ≤ d ∨ n = 0 ∨ 2048 < n ∨ 2048 < beAt b 4 2 + n ∨ ((galCfg s d).used = true ∧ galSeam s d ≠ galSeam s 15)) ∧
     (galSt s d).phase = .active ∧ inboxRoom s d ≠ 0 ∧ findCells s d (ceilDiv n 128) = some 0) ∧
    (let r := { request .inbox with dest := 15 }
     let s := { served with shaft := { reqs := [r] } }
     s.shaft.reqs.find? (fun r => r.pick == 511 && r.kind == .inbox) = some r ∧ r.stale = false ∧ galRuns s r.dest = true ∧
     chanOf s r.gal = 0 ∧ inboxTurn s r = true ∧ r.beats ≤ r.sent + 16 ∧
     (let q := { r with beats := 128, sent := 96, granted := true }
      q.sent + 16 < q.beats ∧ inboxTurn { s with shaft := { reqs := [q] } } q = true) ∧
     inboxTurn { s with shaft := { reqs := [r, { r with id := 1, gal := 3 }] } } r = false) ∧
    (pickSt served 511).phase ≠ .running := by decide +kernel

/-! ### Witnesses: the Shaft, haulage and the twin -/

/-- A request for crypto lane 15. -/
def laneReq (id : Nat) : ShReq := { id := id, pick := 511, gal := 15, seam := 15, kind := .crypto, cls := 3, lanes := 2 ^ 15, beats := 4 }

/-- The served device with requests on the Shaft, and a holder of a target. -/
def shaftAt (reqs : List ShReq) (holders : Sparse (Option Holder)) : State := { served with shaft := { reqs := reqs, holders := holders } }

/-- A holder of lane 15 that belongs to a seam. -/
def laneHolder (p : Bool) : Holder := { req := 9, gal := 14, seam := 0, beats := 8, isProtected := p }

theorem witness_ShaftDrawsRevocationsAndCommits :
    (drawWinner 0 [15] { served with shaft := { tokens := [(30, 0x01010101), (31, 0x01010101)] } }).2.1 = false ∧
    (∃ g ∈ [15], 0 < tokensOf { served with shaft := { tokens := (List.range 32).map fun k => (k, 0x01010101) } } g 0) ∧
    (drawWinner 0 [3, 15] { served with shaft := { groups := [(0, { loss := [(15, 64)] })] } }).2.1 = true ∧
    (drawWinner 0 [3, 15] { served with shaft := { groups := [(0, { loss := [(15, 64)] })] } }).1 = 15 ∧
    (let s := shaftAt [] []
     holderOf s 20 = none ∧ eligible s 20 none [] (fun _ => true) = []) ∧
    (let s := shaftAt [laneReq 4] []
     holderOf s 15 = none ∧ (laneSt s 15).bound = 0 ∧ eligible s 15 none [] (fun _ => true) = [laneReq 4] ∧
     (laneReq 4).gal < 16 ∧ (laneReq 4).cls < 4) ∧
    (let h := laneHolder true
     guarded (shaftAt [] [(15, some h)]) 15 = some h ∧ h.isProtected = true) ∧ guarded served 15 = none ∧
    (let h := laneHolder false
     let s := shaftAt [{ laneReq 4 with lane := some 15 }] [(15, some h)]
     let s := { s with shaft := { s.shaft with groups := [(groupOf 15, { window := [(0, 4096)] })] }
                       cfg := { s.cfg with seams := { s.cfg.seams with
                         seams := [(0, { configured := true }), (15, { configured := true, quotas := [256, 256, 256] })] } } }
     guarded s 15 = some h ∧ h.isProtected = false ∧ overQuota s h.seam (groupOf 15) = true ∧ 0 + 1 < h.beats ∧
     (laneReq 4).gal < 16 ∧ (laneReq 4).cls < 4 ∧
     (eligible s 15 (some h.req) [] (fun seam => !overQuota s seam (groupOf 15))).filter (fun q => q.id != h.req) =
       [{ laneReq 4 with lane := some 15 }]) ∧
    (let s := shaftAt [{ laneReq 4 with lane := some 15 }] []
     let s := { s with cry := { lanes := [(15, { bound := 5 })] } }
     (guarded s 15).map (·.req) = some 4 ∧ holderOf s 15 = none) ∧
    ((laneHolder false).beats ≤ 7 + 1 ∧ overQuota served 0 (groupOf 15) = false) ∧
    (bitAt 2 0 = false ∧ bitAt 1 0 = true) ∧
    (let r : ShReq := { id := 2, pick := 511, gal := 15, seam := 15, kind := .get, addr := some 3, budgetWait := true }
     let s := shaftAt [r] []
     let s := { s with cfg := { s.cfg with seams := { s.cfg.seams with seams := [(15, { configured := true, beta := 1 })] } } }
     (waiters s 15 3).head? = some r ∧ 0 < (seamRec s 15).beta ∧
     (sget (0, 0) s.sess.bucket (16 * 3 + 15)).2 ≤ nsOfTicks s.clk.ticks ∧
     (sget (0, 0) s.sess.gate 3).2 ≤ nsOfTicks s.clk.ticks ∧ r.need ≤ 128) ∧
    (laneSt { served with cry := { lanes := [(15, { stuck := true })] } } 15).stuck = true ∧
    (laneSt served 15).stuck = false ∧ (laneSt served 15).testing = false ∧
    (laneSt { served with cry := { lanes := [(15, { testing := true, fenced := true, passes := 1 })] } } 15).testing = true := by
  decide

/-- The served device with haulage link `k`, both ways, up, and a haulage key of label 3. -/
def hauled (k : Nat) (l : HLinkSt) : State :=
  { served with
    cfg := { served.cfg with
      haul := { present := true, links := [(k, { tx := true, rx := true })], streamId := 5, senderId := 6 }
      twin := { present := true, links := [(k, { tx := true, rx := true })] } }
    cry := { mag := [(0, { device := true, bind := 1, loaded := true, label := 3, len32 := true })] }
    haul := { links := [(k, l)] } }

theorem witness_HaulageBodiesLaunchesAndRequests :
    (let s := served
     hTx s 0 = false) ∧
    (let s := hauled 15 { up := true, sentMax := [(1, 5000), (2, 5000)] }
     let slot := slotOf (nowFu s + fuMs / 2 + fuMs - 1)
     hTx s 15 = true ∧ linkSends s 15 = true ∧ slotFree s 15 (nextType s 15 slot) slot = false) ∧
    (let s := { hauled 15 { up := true } with lode := {} }
     hTx s 15 = true ∧ linkSends s 15 = false) ∧
    (let s := { hauled 15 { up := true } with cry := {} }
     linkSends s 15 = true ∧ (sendKey s 15).isNone = true) ∧
    (let s := hauled 15 { up := true }
     let slot := slotOf (nowFu s + fuMs / 2 + fuMs - 1)
     (hTx s 15 && linkSends s 15 && slotFree s 15 (nextType s 15 slot) slot && (sendKey s 15).isSome) = true) ∧
    (let b : HBody := { slot := 1 }
     (hlink (hauled 15 { up := true, body := some b }) 15).body = some b) ∧ (hlink served 0).body = none ∧
    unitsSend State.reset = false ∧
    (let s := hauled 0 { up := true }
     let slot := slotAhead s (fuMs / 2)
     hRx s 0 = true ∧ unitsSend s = true ∧ slotFree s 0 4 slot = true ∧ (sendKey s 0).isSome = true) ∧
    hRx served 0 = false ∧ (hlink served 0).held = [] ∧
    (let d : HDelta := { seq := 4, keySeq := 2 }
     let s := hauled 15 { up := true, held := [d] }
     (hlink s 15).held = d :: [] ∧ hRx s 15 = true ∧ unitsSend s = true ∧ (hlink s 15).up = true ∧
     (sendKey s 15).isSome = true ∧ sget 0 (hlink s 15).sentMax 5 = 0) ∧
    (hlink served 0).want = none ∧
    (let e : HSent := { seq := 8, frame := List.replicate 15 0 ++ [3], t1 := 0, key := 3 }
     let l : HLinkSt := { up := true, want := some (8, 0), sent := [e] }
     let s := hauled 15 l
     (hlink s 15).want = some (8, 0) ∧ l.sent.find? (fun e => e.seq == 8) = some e ∧
     (haulKeys s).find? (fun x => x.1 == e.key) = some (3, List.replicate 32 0) ∧ e.reps < 15 ∧
     (l.repTicks.filter fun x => decide (s.clk.ticks < x + ticksPerSec)).length < 100 ∧ hTx s 15 = true ∧
     linkSends s 15 = true ∧ l.up = true ∧ l.repBar < slotOf e.t1 + 1) ∧
    (let l : HLinkSt := { repTicks := List.replicate 100 0 }
     ¬ (l.repTicks.filter fun x => decide (served.clk.ticks < x + ticksPerSec)).length < 100) ∧
    (let l : HLinkSt := { want := some (8, 0) }
     (hlink (hauled 15 l) 15).want = some (8, 0) ∧ l.sent.find? (fun e => e.seq == 8) = none) ∧
    ((hauled 17 {}).surv.structureApplied = true ∧ hTx (hauled 17 {}) 17 = true) ∧
    (hTx served 0 = false ∧ hRx served 0 = false) := by decide +kernel

/-- A haulage frame of a type from sender 7 under key 3, sequence 9, without its tag. -/
def hPlain (k t : Nat) : List Nat :=
  List.replicate 12 0 ++ [0x88, 0xF7, 0x10 + t, 3] ++ beBytes 2 (haulLen t) ++ [0, 0, 0, 5, 0, 0, 0, 7, 0, 0, 0, 9, k, 0, 0, 0]
    ++ List.replicate (haulLen t - 36) 0

/-- Its nonce on arrival at `t2`. -/
def hNonce (k t t2 : Nat) : List Nat := haulNonce 7 (rxSlot t t2 (hPlain k t)) t 0 k

/-- That frame with its tag. -/
def hFrame (k t t2 : Nat) : List Nat := hPlain k t ++ fit 16 (gcmSeal (List.replicate 32 0) (hNonce k t t2) (hPlain k t) [])

theorem fit_length (n : Nat) (l : List Nat) : (fit n l).length = n := by
  simp [fit]

theorem beAt_append (p x : List Nat) (i n : Nat) (h : i + n ≤ p.length) : beAt (p ++ x) i n = beAt p i n := by
  unfold beAt slice
  rw [List.drop_append_of_le_length (by omega), List.take_append_of_le_length (by simp; omega)]

/-- The tag that `hFrame` carries verifies wherever key 3 is loaded, and the frame's own fields are read as they stand. -/
theorem hFrame_auth (s : State) (k t t2 : Nat) (hk : (3, List.replicate 32 0) ∈ haulKeys s) (hp : (hPlain k t).length = haulLen t - 2)
    (hl : 48 ≤ haulLen t) (h22 : beAt (hPlain k t) 22 4 = 7) (h31 : beAt (hPlain k t) 31 1 = 0) (h30 : beAt (hPlain k t) 30 1 = k)
    (h15 : beAt (hPlain k t) 15 1 = 3) : rxAuth s t t2 (hFrame k t t2) = true := by
  have e : ∀ i n, i + n ≤ haulLen t - 2 → beAt (hFrame k t t2) i n = beAt (hPlain k t) i n :=
    fun i n h => beAt_append _ _ i n (by omega)
  have hs : rxSlot t t2 (hFrame k t t2) = rxSlot t t2 (hPlain k t) := by
    unfold rxSlot
    rw [e 34 12 (by omega), e 26 4 (by omega)]
  have hlen : (hFrame k t t2).length - 16 = (hPlain k t).length := by simp [hFrame, fit_length]
  unfold rxAuth
  rw [List.any_eq_true]
  refine ⟨_, hk, ?_⟩
  rw [hs, e 22 4 (by omega), e 31 1 (by omega), e 30 1 (by omega), e 15 1 (by omega), h22, h31, h30, h15]
  simp only [haulTag, hlen]
  simp [hFrame, hNonce]

/-- What a frame of a type must be for its witness. -/
def hGood (k t t2 : Nat) : Prop :=
  rxType k (hFrame k t t2) = t ∧ rxAuth (hauled k { up := true }) t t2 (hFrame k t t2) = true ∧
  rxTimeBad t (hFrame k t t2) = false ∧ beAt (hFrame k t t2) 18 4 = 5 ∧ beAt (hFrame k t t2) 22 4 ≠ 6

theorem hGood_of (k t t2 : Nat) (hk : (3, List.replicate 32 0) ∈ haulKeys (hauled k { up := true })) (hp : (hPlain k t).length = haulLen t - 2)
    (hl : 48 ≤ haulLen t) (h8 : 110 ≤ haulLen t ∨ t = 4 ∨ t = 5 ∨ t = 2) (h22 : beAt (hPlain k t) 22 4 = 7) (h31 : beAt (hPlain k t) 31 1 = 0) (h30 : beAt (hPlain k t) 30 1 = k)
    (h15 : beAt (hPlain k t) 15 1 = 3) (h14 : beAt (hPlain k t) 14 1 = 0x10 + t) (ht : 0 < t ∧ t < 16 ∧ (t = 8 ↔ 16 ≤ k)) (h16 : beAt (hPlain k t) 16 2 = haulLen t)
    (h18 : beAt (hPlain k t) 18 4 = 5) (hb : rxTimeBad t (hPlain k t) = false) : hGood k t t2 := by
  have e : ∀ i n, i + n ≤ haulLen t - 2 → beAt (hFrame k t t2) i n = beAt (hPlain k t) i n :=
    fun i n h => beAt_append _ _ i n (by omega)
  have hlen : (hFrame k t t2).length = 14 + haulLen t := by simp [hFrame, fit_length]; omega
  refine ⟨?_, hFrame_auth _ k t t2 hk hp hl h22 h31 h30 h15, ?_, ?_, ?_⟩
  · unfold rxType
    have m : (16 + t) % 16 = t := by omega
    have d : (16 + t) / 16 = 1 := by omega
    simp only [e 14 1 (by omega), e 16 2 (by omega), h14, m, d, h16, hlen]
    rw [if_pos ⟨trivial, by omega, ht.2.2, trivial, trivial⟩]
  · rw [← hb]
    unfold rxTimeBad nsBad
    rcases h8 with h | h | h | h
    · simp only [e 94 4 (by omega), e (34 + 6) 4 (by omega), e (98 + 6) 4 (by omega), e 74 4 (by omega), e (78 + 6) 4 (by omega)]
    · subst h; rfl
    · subst h; rfl
    · subst h; rfl
  · rw [e 18 4 (by omega), h18]
  · rw [e 22 4 (by omega), h22]; decide

theorem witness_HaulageFramesReceivedAndTheTwin_frames (t2 : Nat) :
    (∀ e ∈ [(0, 1), (15, 2), (3, 3), (15, 4), (7, 5), (17, 8)], let s := hauled e.1 { up := true }
      hGood e.1 e.2 t2 ∧ ((hlink s e.1).up && s.lode.loOk && (if e.2 = 4 ∨ e.2 = 5 then hTx s e.1 else hRx s e.1)) = true ∧
      s.lode.seeded = true ∧ s.cfg.haul.streamId = 5 ∧ s.cfg.haul.senderId = 6 ∧ sget 0 (hlink s e.1).lastSeq (rxKind e.2) = 0 ∧
      (hlink s e.1).held.length ≤ 8 ∧ (hlink s e.1).keys.find? (fun x => x.seq == beAt (hFrame e.1 e.2 t2) 34 4) = none ∧
      (hlink s e.1).held.any (fun h => h.keySeq == 9) = false) := by
  intro e h
  simp only [List.mem_cons, List.not_mem_nil, or_false] at h
  rcases h with rfl | rfl | rfl | rfl | rfl | rfl <;>
  · refine ⟨hGood_of _ _ _ (by decide) ?_ ?_ ?_ ?_ ?_ ?_ ?_ ?_ ?_ ?_ ?_ ?_, ?_, ?_, ?_, ?_, ?_, ?_, rfl, ?_⟩ <;> decide +kernel

/-- The served gallery's last pick runs `haul` on a CONTROL frame of link 1. -/
def haulServing (time : Nat) (f : List Nat) : State :=
  { serving 11 7 f with
    cfg := { served.cfg with haul := { streamId := 5 } }
    picks := [(511, { phase := .running, item := some {
      cls := 11, hdr := List.replicate 11 0 ++ [time, 0, 0, 1] ++ List.replicate 17 0, frame := f, cell := 0, cells := 1 } })] }

/-- The served device in a state of the twin. -/
def twinAt (t : TwinSt) : State := { served with haul := { twin := t } }

theorem witness_HaulageFramesReceivedAndTheTwin :
    (let s := hauled 0 {}
     ((hlink s 0).up && s.lode.loOk && hRx s 0) = false) ∧
    (let s := hauled 3 { up := true, held := [{ seq := 10, keySeq := 9 }] }
     (hlink s 3).held.any (fun h => h.keySeq == 9) = true ∧ (hlink s 3).up = true ∧ hRx s 3 = true) ∧
    rxType 0 [] = 0 ∧ (let f := hPlain 0 5 ++ List.replicate 16 0
      rxType 0 f ≠ 0 ∧ rxType 0 f ≠ 1) ∧
    (let f := hPlain 15 1 ++ List.replicate 16 0
     rxType 15 f = 1 ∧ rxAuth { hauled 15 { up := true } with cry := {} } 1 0 f = false) ∧
    (let s := hauled 15 { up := true, lastSeq := [(0, 12)] }
     sget 0 (hlink s 15).lastSeq (rxKind 1) ≠ 0 ∧ seqAfter 9 (sget 0 (hlink s 15).lastSeq (rxKind 1) - 1) = false) ∧
    (let s := hauled 15 { up := true, lastSeq := [(0, 9)] }
     seqAfter 9 (sget 0 (hlink s 15).lastSeq (rxKind 1) - 1) = true) ∧
    haulItem served 511 = none ∧
    (∃ i, haulItem (haulServing 0 []) 511 = some i ∧ beAt i.hdr 0 12 = 0 ∧ (galSt (haulServing 0 []) 15).ctrlIn.length < 64) ∧
    (∃ i, haulItem (haulServing 1 (hPlain 1 1 ++ List.replicate 16 0)) 511 = some i ∧ beAt i.hdr 0 12 ≠ 0 ∧
      beAt i.frame 14 1 / 16 = 1 ∧ haulLen (beAt i.frame 14 1 % 16) ≠ 0 ∧ beAt i.frame 16 2 = haulLen (beAt i.frame 14 1 % 16) ∧
      i.frame.length = 14 + haulLen (beAt i.frame 14 1 % 16) ∧ beAt i.frame 18 4 = (haulServing 1 []).cfg.haul.streamId ∧
      beAt i.hdr 14 1 < 18 ∧ emitOk (haulServing 1 (hPlain 1 1 ++ List.replicate 16 0)) 511
        { n := 8, port := 0x80, final := true, timed := false, bytes := [1, 1, 0, 0] ++ slice 26 4 i.frame } = true) ∧
    (∃ i, haulItem (haulServing 1 []) 511 = some i ∧ beAt i.hdr 0 12 ≠ 0 ∧ ¬ beAt i.frame 14 1 / 16 = 1) ∧
    ((hlink (ctrlDrain served) 0).copies.find? (·.released) = none) ∧
    (let c : HCopy := { type := 3, seq := 9, released := true }
     (hlink (ctrlDrain (hauled 15 { copies := [{}, c] })) 15).copies.find? (·.released) = some c) ∧
    (let c : HCopy := { type := 1, seq := 9, released := true }
     let s := { hauled 0 { copies := [c], accepted := 16 } with haul := { links := [(0, { copies := [c], accepted := 16 })], feeds := [(16, { split := true })] } }
     let u := ctrlDrain s
     (hlink u 0).copies.find? (·.released) = some c ∧ c.type = 1 ∧ (hlink u 0).accepted = 16 ∧ feedOf u 0 = 16 ∧
     u.clk.ticks ≤ c.tick + feedValid u 16 ∧ (feedSt u 16).split = true ∧
     (feedSt u 16).applied.find? (fun a => a.copy.seq == c.seq) = none) ∧
    (let c : HCopy := { type := 8, seq := 9, released := true, lead := false }
     (hlink (ctrlDrain (hauled 17 { copies := [c] })) 17).copies.find? (·.released) = some c) ∧
    (feedSt served 31).wait = [] ∧
    (feedSt { served with haul := { feeds := [(31, { wait := [(9, 4, [])] })] } } 31).wait = (9, 4, []) :: [] ∧
    (twinAt { state := .claim }).haul.twin.state ≠ .join ∧ (twinAt { state := .join }).haul.twin.state = .join ∧
    (twinAt { state := .join }).haul.twin.okSince = none ∧
    (twinAt { state := .join, okSince := some 0 }).haul.twin.okSince ≠ none ∧
    (let t := (twinAt { state := .join, canary := true }).haul.twin
     t.state ≠ .none ∧ t.state ≠ .lead ∧ t.canary = true) ∧
    (let t := (twinAt { state := .follow }).haul.twin
     t.state ≠ .none ∧ t.state ≠ .lead ∧ t.canary = false ∧ t.peerSlot = none) ∧
    ((twinAt { state := .lead }).haul.twin.state = .lead) := by
  refine ⟨?_, ?_, ?_, ?_, ?_, ?_, ?_, ?_, ⟨_, rfl, ?_⟩, ⟨_, rfl, ?_⟩, ⟨_, rfl, ?_⟩, ?_⟩ <;> decide +kernel

/-! ### Witnesses: registers, faults, the Weighbridge and reset -/

/-- The served device, reachable from the host, with a VF for seam 15. -/
def hosted : State := { served with pcie := { inReset := false, busMaster := true, cfgRetry := false }, spi := { access := true } }

theorem witness_SpiAndRegisterAccesses :
    spiReaches State.reset = false ∧ spiReaches ready = true ∧
    (spiFormOk 0x600 64 = true ∧ spiFormOk 0 1 = true ∧ spiFormOk 0x600 65 = false ∧ spiFormOk 0x601 1 = false ∧ spiFormOk 0 0 = false) ∧
    (0x340 < 0x344 ∧ 0x340 % 4 = 0 ∧ 0x300 ≤ 0x340) ∧
    (0xFF ≠ 0x0B ∧ 0xFF ≠ 0x02 ∧ 0xFF ≠ 0x0C) ∧
    hostReaches State.reset = false ∧ hostReaches hosted = true ∧
    homeAddr hosted .pf 0x04000000 = none ∧ homeAddr hosted (.vf 15) 0x30000 = none ∧
    homeAddr hosted (.vf 15) 0x10000 = some 0x00600000 ∧ homeAddr hosted .pf 0x020 = some 0x020 ∧ (regMask 0x020).rc = 0xFF00 ∧
    homeAddr hosted .pf 0x003FFFFC = some 0x003FFFFC ∧
    writeHome hosted .pf 0x04000000 = none ∧ writeHome hosted (.vf 15) 0x10000 = none ∧ writeHome ready .pf 0x0C = some 0x0C ∧
    (writeHome hosted .pf (irqAddr 0) = some (irqAddr 0) ∧ irqPlace (irqAddr 0) = some (0, false) ∧ irqAddr 0 ≠ cfgCommand) ∧
    (writeHome hosted .pf (irqAddr 14 + 4) = some (irqAddr 14 + 4) ∧ irqPlace (irqAddr 14 + 4) = some (14, true) ∧ irqAddr 14 + 4 ≠ cfgCommand) ∧
    (writeHome hosted (.vf 15) 0x104 = some (irqAddr 111 + 4) ∧ irqPlace (irqAddr 111 + 4) = some (111, true)) ∧
    (writeHome hosted .pf 0x240 = some 0x240 ∧ 0x240 ≠ cfgCommand) := by
  decide +kernel

theorem witness_AcknowledgementOnlyAcknowledges :
    Accepts .pf ready ∧ Accepts .spi ready ∧ 319 < 320 ∧ 320 < 2 ^ 32 ∧
    classUnack State.reset (classOf 319) = false ∧
    (let s := { State.reset with fault := { srcs := [(319, { active := true, level := 2 })] } }
     classUnack s (classOf 288) = true) :=
  ⟨ready_accepts.1, ready_accepts.2, by decide, by decide, by decide, by decide⟩

/-- A device whose one fault source is in a state. -/
def srcAt (i : Nat) (x : FaultSrcSt) : State := { State.reset with fault := { srcs := [(i, x)] } }

theorem witness_FaultEventsRecoveryAndCanary :
    isHeld 0 1 = true ∧ (srcSt (srcAt 80 {}) 80).lastRec = none ∧ 3 ≤ baseLevel State.reset 18 1 ∧
    (srcSt (srcAt 303 {}) 303).held.contains 1 = false ∧ (srcSt (srcAt 303 { held := [1] }) 303).held.contains 1 = true ∧
    (srcSt (srcAt 0 {}) 0).winOpen = false ∧ (srcSt (srcAt 319 { winOpen := true }) 319).winOpen = true ∧
    (((classSrcs State.reset 14).any fun e => e.2.active) && !classHeld State.reset 14) = false ∧
    (let s := srcAt 319 { active := true, level := 2 }
     ((classSrcs s 14).any (fun e => e.2.active) && !classHeld s 14) = true) ∧
    (({ State.reset with fault := { stall := true } }).fault.stall = true) ∧ State.reset.fault.stall = false ∧
    canaryMayRun State.reset = false ∧ canaryMayRun served = true := by decide

theorem witness_WeighbridgeSamplesCommitsAndSnapshots :
    (lodeAt .free).lode.coarse = false ∧ ({ State.reset with lode := { coarse := true } }).lode.coarse = true ∧
    (served.wbr.commit = false ∧ ({ served with wbr := { commit := true } }).wbr.commit = true) ∧
    (let s := { served with wbr := { evts := [(15, { sel := 0x00100227 })] } }
     isOccupancy (evtEvent (sget ({} : EvtSt) s.wbr.evts 15).sel) = true ∧ evtMode (sget ({} : EvtSt) s.wbr.evts 15).sel = 2) ∧
    isOccupancy (evtEvent (sget ({} : EvtSt) served.wbr.evts 0).sel) = false ∧
    (let s := { served with wbr := { evts := [(0, { sel := 5 })] } }
     (sget ({} : EvtSt) s.wbr.evts 0).sel ≠ rfGet s (evtSelAddr 0)) ∧
    (bitAt 0 31 = false ∧ bitAt (2 ^ 31) 31 = true) ∧
    (served.wbr.asmSecLo + 2 ^ 32 * (2 ^ 31 % 65536)) * oneSec + served.wbr.asmNs * 65536 < nowFu served + fuOfNs 1000 ∧
    (let s := { served with wbr := { asmSecLo := 2 ^ 32 - 1 } }
     nowFu s + fuOfNs 1000 ≤ (s.wbr.asmSecLo + 2 ^ 32 * ((2 ^ 31 + 65535) % 65536)) * oneSec + s.wbr.asmNs * 65536) ∧
    (served.wbr.oneShot = none ∧ wbrPeriod served = 0) ∧ ({ served with wbr := { oneShot := some 9 } }).wbr.oneShot = some 9 ∧
    (wbrPeriod { served with rf := [(wbrBase + 8, 0x1FFFF)] } ≠ 0) ∧
    wbrCounter served 0xFFFFC = none ∧ (wbrCounter served 0x20).isSome = true ∧ (wbrCounter served 0x2030).isSome = true ∧
    (wbrCounter served 0x1FE8).isSome = false ∧ (wbrCounter served 0x1F28).isSome = true := by decide +kernel

/-- In the reset state every stored register is its reset word. -/
theorem witness_RegistersStayWithin32Bits : Words32 State.reset ∧ ∃ t, step State.reset = .next t := by
  refine ⟨fun a => ?_, _, rfl⟩
  rw [show rfGet State.reset a = rfReset a from Nat.zero_xor _]
  unfold rfReset
  repeat' split
  all_goals decide


/-! ### Witnesses: the clauses on hold-off, stamps, selection, gates of the Dial, sentences and resets -/

theorem witness_LodeTimersEndTheirStates_holdoff :
    (let s := refAt 3 .qualified
     let s := { s with lode := { s.lode with state := .acquire, settleTick := some 0 } }
     s.lode.state = .acquire ∧ s.lode.settleTick = some 0 ∧ s.lode.seeded = true ∧ s.lode.coarse = false ∧ s.lode.loOk = true ∧
     (refSt s s.assay.selRef).q ≠ .holdoff) ∧
    (refSt (refAt 3 .holdoff) (refAt 3 .holdoff).assay.selRef).q = .holdoff := by decide

theorem witness_GoodMeasurementDrivesTheServo_stamps :
    (let s := { measured .locked with lode := { (measured .locked).lode with coarseStart := 4, coarseTick := 6 } }
     let s := { s with clk := { s.clk with ticks := 7 } }
     refOff s 3 = false ∧ stampInvalid s (s.clk.ticks - 3) = true ∧ stampInvalid s (s.clk.ticks - 2) = true ∧
     stampInvalid s (s.clk.ticks - 4) = false ∧ stampInvalid s (s.clk.ticks - 1) = false ∧
     (2 : Nat) ≤ ticksOfNs ((refRec s 3).validUs * 1000)) := by decide

/-- `twoRefs` with monitors of its references and the selected one. -/
def selecting (sel : Nat) (a b : QState) : State :=
  { twoRefs with assay := { started := true, selRef := sel
                            refs := [(3, { q := a, active := true }), (4, { q := b, active := true })] } }

theorem witness_SelectionFollowsTheListOrder_rules :
    (let s := { twoRefs with surv := { state := 3 } }
     s.surv.state = 3 ∧ selectRef (refsEval (tickBegins (elapseTo (nextDecision s) s))) = some (1, 4)) ∧
    (let s := { selecting 4 .absent .rejected with surv := { state := 3 } }
     let u := refsEval (tickBegins (elapseTo (nextDecision s) s))
     selectRef u = none ∧ u.assay.selRef ≠ 63 ∧ u.lode.state = .locked) ∧
    (let s := selecting 4 .soak .holdoff
     selectRef s = some (1, 4) ∧ isUsable s 4 = true ∧
     ∀ x ∈ timeList s, x.1 < 1 → x.2.revertive = true → ¬ (isQualified s x.2.id = true ∧
       (s.assay.started = false ∨ wtrExpired s x.2.id = true))) ∧
    (let s := selecting 5 .qualified .qualified
     (timeList s).find? (fun x => x.2.id == s.assay.selRef) = none ∧ selectRef s = some (0, 3) ∧
     isQualified s 3 = true ∧ wtrExpired s 3 = true) ∧
    (let s := selecting 3 .rejected .qualified
     (timeList s).find? (fun x => x.2.id == s.assay.selRef) = some (0, { id := 3, revertive := true }) ∧
     isUsable s 3 = false ∧ selectRef s = some (1, 4) ∧ wtrExpired s 4 = false) := by decide +kernel

theorem witness_SyncEAndPtpReferenceInputs_loss :
    (let s := refAt 12 .qualified
     isUsable s 12 = true ∧ (refRec s 12).holdoffDs ≠ 0 ∧ (refSt s 12).returning = false) ∧
    isUsable (refAt 12 .soak) 12 = false ∧
    (let s := lodeAt .locked
     let s := { s with clk := { s.clk with ticks := 9 }, lode := { s.lode with fwRef := 8, fwHist := [(9, 7)] }
                       assay := { s.assay with blockTick := 8, blockOk := true } }
     s.lode.state = .locked ∧ s.assay.blockOk = true ∧ blockAverage s 9 = some 7) := by decide

/-- A USER channel in FREQUENCY mode, with or without CONT. -/
def dialFreq (c : DialChSt) : State := { dialAt 23 3 c with rf := [(dialBase 23, 2 ^ 21 + 2 * 2 ^ 7)] }

theorem witness_DialTriggersRunHoldAndCount_frequency :
    (let s := dialFreq {}
     (dialCfg s 23).role = 3 ∧ dialEn s 23 = true ∧ dialMode s 23 = 2 ∧ dialCont s 23 = false ∧ (dialCh s 23).running = none) ∧
    (let s := dialFreq { running := some 4, held := true }
     dialMode s 23 = 2 ∧ dialCont s 23 = false ∧ (dialCh s 23).running.isSome = true ∧ (dialCh s 23).held = true) ∧
    (let g : DialGate := { pts := [(1, 70), (0, 5)] }
     gateFull (dialAt 23 3 { gate := some g }) 23 g = false) := by decide

theorem witness_TimeOfDaySentences_applied :
    State.reset.surv.structureApplied = false ∧ served.surv.structureApplied = true := by decide

theorem witness_DaylightChannels_applied :
    (skyAt {}).surv.structureApplied = false ∧
    (let s := skyAt { anchor := some (1, -2, 3), us := [4] }
     (antSt s 1).anchor = some (1, -2, 3) ∧ s.assay.fwOk = false) ∧
    (let s := skyAt { anchor := some (1, -2, 3), alarm := true }
     (antSt s 1).anchor = some (1, -2, 3) ∧ (antSt s 1).alarm = true ∧ (antSt s 1).us = []) ∧
    (let s := { lodeAt .locked with
       cfg := { str := { dial := [(0, { source := 8, role := 1 })] }, refs := { refs := [{ id := 7 }] } }
       surv := { structureApplied := true }, dial := { ch := [(0, { block := smpBlock })] } }
     s.surv.structureApplied = true ∧ s.lode.coarse = false ∧
     (blockOf (elapseTo (nextMultiple (10 * ticksPerMs) s) s) 1).isSome = true) := by decide +kernel

theorem witness_EndpointResets_whileInReset :
    (let s := { State.reset with power := { phase := .inReset }, pcie := { inReset := false } }
     s.power.phase ≠ .running ∧ s.pcie.inReset = false) := by decide

theorem witness_PowerStatesAndWake_retry :
    hostUp.pcie.cfgRetry = true ∧
    (let s := { hostUp with pcie := { inReset := false, cfgRetry := false, d3hot := true } }
     s.pcie.inReset = false ∧ s.pcie.cfgRetry = false ∧ s.pcie.d3hot = true) := by decide

theorem witness_DoorbellsWhileBusyAreRefused_together :
    (let s := { ready with pending := [.nopCommand .spi] }
     setReachable s .pf = true ∧ spiTogether s = true ∧ engineBusy s = false) ∧
    gateRefuses .pf ready = false ∧ mailboxOf (.nopCommand .pf) = some (.pf, 0, 0, []) := by decide

theorem witness_ServiceCommands_sourcesAndSaves :
    (galRuns ready 15 = false ∧ galRuns { ready with gals := [(15, { phase := .ramping })] } 15 = true ∧
     (pickSt { ready with gals := [(15, { phase := .active })], picks := [(511, { phase := .fenced })] } 511).phase = .fenced) ∧
    (let v : SaveSt := { half := 1, snap := {} }
     ({ ready with haul := { snap := { save := some v } } }).haul.snap.save = some v) ∧
    canWriteHost ready = true ∧ canWriteHost { ready with pcie := { ready.pcie with d3hot := true } } = false ∧
    setReachable { ready with pcie := { ready.pcie with d3hot := true } } .pf = true ∧
    restoreDenied ready {} = true := by decide +kernel

/-- A device with the snapshot key. -/
def withSnapKey : State :=
  { ready with cry := { mag := [(4095, { device := true, loaded := true, usage := 1, label := 0x534E4150 })] } }

theorem witness_ServiceCommands_restore :
    restoreDenied withSnapKey { ({} : Snap) with key := List.replicate 16 0, digest := imageDigest withSnapKey } = false := by
  have hk : (snapKey withSnapKey).map (fun k => magKey k.2) = some (List.replicate 16 0) := by decide
  simp [restoreDenied, hk]
  decide

theorem witness_BootReadsVerifiesAndApplies_straps :
    (let s : State := { lodeAt .free with power := { phase := .running, bootSrc := 3 } }
     s.power.phase = .running ∧ s.power.selftestDone = false ∧ s.power.bootSrc = 3) ∧
    canSend ready = true ∧ canSend { ready with pcie := { ready.pcie with d3hot := true } } = false := by decide

theorem witness_SnapshotsAreSaved_joined :
    (let v : SaveSt := { half := 1, snap := {} }
     let s := { ready with cfg := { haul := { present := true } }, surv := { state := 3 }, haul := { snap := { save := some v } } }
     s.cfg.haul.present = true ∧ s.cfg.haul.snapS ≠ 0 ∧ s.surv.state = 3 ∧ s.haul.snap.save = some v) ∧
    (let v : SaveSt := { half := 1, mailbox := true, forSpi := true, snap := {} }
     let k : MagSlot := { device := true, loaded := true, usage := 1, label := 0x534E4150 }
     let s := { ready with cry := { mag := [(4095, k)] }, haul := { snap := { save := some v } }
                           pcie := { ready.pcie with busMaster := false } }
     s.haul.snap.save = some v ∧ v.spi = false ∧ v.forSpi = true ∧ v.mailbox = true ∧ snapKey s = some (4095, k) ∧
     canWriteHost s = false) ∧
    (let v : SaveSt := { half := 1, snap := {} }
     let s := { ready with haul := { snap := { save := some v } }, pcie := { ready.pcie with busMaster := false } }
     s.haul.snap.save = some v ∧ v.spi = false ∧ v.forSpi = false ∧ canWriteHost s = false) := by decide

theorem witness_DispatchAndPickFences_third :
    (let p : PickSt := { phase := .running, item := some { cls := 0, hdr := [] }, steps := 4096, fences := [2, 1] }
     let s := { pickAt p with clk := { ticks := 3 } }
     (pickSt s 511).item.isSome = true ∧ (pickSt s 511).phase ≠ .fenced ∧
     2 ≤ ((pickSt s 511).fences.filter fun f => decide (s.clk.ticks < f + 3600 * ticksPerSec)).length) ∧
    (let p : PickSt := { phase := .running, fences := [2] }
     ¬ 2 ≤ ((pickSt (pickAt p) 511).fences.filter fun f => decide (0 < f + 3600 * ticksPerSec)).length) ∧
    (let p : PickSt := { phase := .fenced, testing := true, held := true, reload := true }
     (pickSt (pickAt p) 511).phase = .fenced ∧ (pickSt (pickAt p) 511).testing = true ∧ (pickSt (pickAt p) 511).reload = true) ∧
    (let p : PickSt := { phase := .fenced, testing := true, held := true }
     (pickSt (pickAt p) 511).held = true ∧ (pickSt (pickAt p) 511).reload = false) ∧
    (let p : PickSt := { phase := .fenced, testing := true }
     (pickSt (pickAt p) 511).phase = .fenced ∧ (pickSt (pickAt p) 511).held = false) := by decide

theorem witness_ReadmissionSwapsAndStepRate_failed :
    (galSt (galAt { phase := .bist }) 15).phase = .bist ∧ (galAt { phase := .bist }).surv.check = none := by decide

/-- The served device with an NTP request whose gate to the Tally holds no more. -/
def ntpWaiting : State := { ntpState with gals := [(15, { galSt ntpState 15 with ctrlIn := List.replicate 64 [] })] }

/-- An item's header for port 63 and seam 15 with the descriptor's flags. -/
def rxHdr (flags : Nat) : List Nat := List.replicate 14 0 ++ [63, 15, 0, flags] ++ List.replicate 14 0

/-- A state with another header of its item. -/
def withHdr (h : List Nat) (s : State) : State := pickMod 511 (fun p => { p with item := p.item.map fun i => { i with hdr := h } }) s

theorem witness_StandardPrograms_gates :
    gateWaits ntpState 15 = false ∧ gateWaits ntpWaiting 15 = true ∧ (reqOf ntpWaiting).invalid = false ∧
    (rxReq ntpWaiting 511).isSome = true ∧
    (let s := withHdr (rxHdr 32) (ntsState 1)
     (rxReq s 511).isSome = true ∧ (reqOf s).invalid = true ∧ ntpCheck (reqOf s) = none ∧ (ntsReq (reqOf s)).isSome = true) ∧
    (let s := withHdr (rxHdr 32) ntpState
     (reqOf s).invalid = true ∧ ntpCheck (reqOf s) = none) := by decide +kernel

theorem witness_NtsNak :
    (let s := ntsState 1
     issueWaits s 511 .get 2 64 = false ∧ (seamRec s 15).smear = false ∧ inInsertedSecond s (reqOf s).tRx = false ∧
     inInsertedSecond s (nowFu s) = false ∧ (seamSt s 15).nakSec = nowFu s / oneSec ∧ (seamSt s 15).nakN < (seamRec s 15).nakRate) ∧
    (let s := { ntsState 1 with leap := { pending := 1, instant := 1 } }
     (seamRec s 15).smear = false ∧ inInsertedSecond s (reqOf s).tRx = true) ∧
    (let s := { ntsState 1 with seam := [(15, { nakN := 1 })] }
     (seamRec s 15).nakRate ≤ (seamSt s 15).nakN ∧ (seamSt s 15).nakSec = nowFu s / oneSec) ∧
    (let s := { ntsState 1 with seam := [(15, { nakSec := 1, nakN := 1 })] }
     (seamSt s 15).nakSec ≠ nowFu s / oneSec) := by decide +kernel

/-- A NAK of 84 bytes keeps the rules of EMIT. -/
theorem witness_NtsNak_sent :
    emitOk (ntsState 1) 511 ((replyWire (ntsState 1) (reqOf (ntsState 1))).emit (ntsState 1) 63 false 0 (List.replicate 84 0)) = true ∧
    ((ntsReq (reqOf (ntsState 1))).map fun n => n.uid.length) = some 36 ∧ (reqOf (ntsState 1)).port = 63 := by decide +kernel

theorem witness_EsmcPdus :
    (let s := { synceState 5 0xF with cfg := { (synceState 5 0xF).cfg with str := { (synceState 5 0xF).cfg.str with ports := [(63, { en := true, speed := 1 })] } } }
     (portCfg s 63).synceTx = false) ∧
    portEn served 0 = false ∧
    (let s := { synceState 5 0xF with prt := { ports := [(63, { link := true, esmcTicks := List.replicate 10 1562500000 })] } }
     10 ≤ (esmcRecent (elapseTo (nextMultiple ticksPerSec s) s) 63).length) ∧
    (let s := { synceState 5 0xF with prt := { ports := [(63, { link := true, esmcTicks := List.replicate 10 0, qlSent := 0xF })] } }
     ¬ (esmcRecent s 63).length < 10 ∧ esmcGal s 63 = some 15 ∧ portEn s 63 = true ∧ (portCfg s 63).synceTx = true ∧
     txQl s 63 ≠ (portSt s 63).qlSent ∧ (galSt s 15).qCtrl.length < 64) ∧
    (portSt { synceState 5 0xF with prt := { ports := [(63, { link := true, esmcEvent := true })] } } 63).esmcEvent = true ∧
    (portSt (synceState 5 0xF) 63).esmcEvent = false ∧
    (let s := serving 9 5 (esmcFrame 0x0019A7)
     gateWaits s 15 = false ∧ gateWaits { s with shaft := { s.shaft with chan := [(15, 1)] } } 15 = true) := by decide +kernel

/-- The Delay_Req of a domain whose clients need grants, with a session store that holds none for this one. -/
def ungranted : State :=
  let s := delayState 44
  { s with cfg := { s.cfg with
      str := { s.cfg.str with sessEn := true }
      seams := { s.cfg.seams with seams := [(15, { (seamRec s 15) with recCount := 8 })] } } }

theorem witness_PtpGrantNotHeld :
    (let s := ungranted
     let r := reqOf s
     let get := sessGetNow 511 r.seam (ptpKey r).1 (ptpKey r).2 (memErrors r.seam [] s)
     (rxReq s 511).isSome = true ∧ sessEnabled s = true ∧ get.1 ≠ 0 ∧ get.2.2.shaft.reqs.length ≤ s.shaft.reqs.length ∧
     beAt r.ptp 1 1 % 16 = 2 ∧ beAt r.ptp 0 1 = 1 ∧ ptpFormOk r.ptp = true ∧ r.invalid = false) ∧
    (let s := delayState 44
     let r := reqOf s
     let get := sessGetNow 511 r.seam (ptpKey r).1 (ptpKey r).2 (memErrors r.seam [] s)
     sessEnabled s = false ∧ get.1 ≠ 0 ∧ get.2.2.shaft.reqs.length ≤ s.shaft.reqs.length) ∧
    (gateWaits refState 15 = false ∧ gateWaits { refState with shaft := { refState.shaft with chan := [(15, 1)] } } 15 = true) := by
  decide +kernel

/-- A second PUT of the pick that releases a grant has to wait; the first does not. -/
theorem witness_GrantRelease :
    (let u := elapseTo (tickOfLode (nowFu grantState / oneSec * oneSec) grantState) { grantState with shaft := { grantState.shaft with tokens := [(15, 0)] } }
     (sessPutNow 480 15 2 (beBytes 3 0) (List.replicate 64 0) u).shaft.reqs.length ≤ u.shaft.reqs.length) ∧
    (let s := { grantState with shaft := { grantState.shaft with reqs := [{ request .put with pick := 480 }, { request .put with id := 1, pick := 480 }] } }
     let u := elapseTo (tickOfLode (nowFu s / oneSec * oneSec) s) s
     u.shaft.reqs.length < (sessPutNow 480 15 2 (beBytes 3 0) (List.replicate 64 0) u).shaft.reqs.length) := by decide +kernel

/-- A CRYPTO operation with an output of 1,024 bytes: that many random ones. -/
def opLong : CryptoOp := { code := 0xF, outLim := 1024 }

theorem witness_SessionCalls_lookups :
    (let s := caller {} [] []
     let b := blockAt (pickSt s 511) 0 22
     0 ∈ lookupSet s 15 (beAt b 1 1) (slice 4 18 b)) ∧
    (let r := { request .put with addr := some 0, data := List.replicate 64 1, doneTick := some 5 }
     let s := caller {} [] [r]
     s.shaft.reqs.find? (putReady s 511) = some r ∧ (dirEnt s 0).valid = true) ∧
    (caller {} [] []).shaft.reqs.find? (putReady (caller {} [] []) 511) = none ∧
    (let r := { request .put with addr := some 0, data := List.replicate 64 1, doneTick := some 5, id := 1 }
     let s := caller {} [] [{ r with id := 0, doneTick := none }, r]
     s.shaft.reqs.find? (putReady s 511) = none) ∧
    (let r := { request .crypto with doneTick := some 5, lane := some 0, op := opRandom }
     let s := caller {} [] [r, { r with id := 1, pick := 510, lane := some 3 }]
     inboundTurn s r = true ∧ inboundTurn { s with shaft := { s.shaft with rrIn := [(15, 1)] } } r = false ∧
     backTransfers true r s ≤ r.back + 1 ∧ backTransfers false r s = 1) := by decide

theorem witness_CryptoCalls_transfers :
    (let r := { request .crypto with doneTick := some 5, lane := some 0, op := opLong }
     let s := caller {} [] [r]
     inboundTurn s r = true ∧ r.back + 1 < backTransfers true r s) := by decide +kernel

/-- A running pick whose seam's limit is below every bound, with a STAMP's operand block. -/
def limited : State :=
  let s := withModule 0 { phase := .running, loc := localBytes [63, 0, 0, 60] }
  { s with cfg := { s.cfg with seams := { s.cfg.seams with seams := [(15, { configured := true, limit := 8 })] } } }

theorem witness_StampStopsItsSeam :
    (let b := blockAt (pickSt limited 511) 0 28
     gateWaits limited 15 = false ∧ beAt b 0 1 = 63 ∧ beAt b 1 1 % 16 ≤ 1 ∧ bitAt (beAt b 1 1) 7 = false ∧ ofLodeBits (beAt b 4 12) = 0 ∧
     beAt b 2 2 = 60 ∧ (homeOf limited 63 15).isSome = true ∧ sget none (pickSt limited 511).resv 0 = none ∧
     limited.lode.svc = true ∧ (seamGate limited 15).stopped = false ∧ limited.tally.hold = false) ∧
    ∃ l, grantSlot limited 63 60 0 (nowFu limited) = some l ∧
      (seamRec limited 15).limit < boundCode limited l (termDpt limited 63) (carrierAllowance false) := by
  have h : stampsOk limited = true := by decide
  have hg : grantsOk limited = true := by decide
  refine ⟨by decide, firstSlot, ?_, ?_⟩
  · rw [show nowFu limited = 0 by decide]
    exact grants_slot hg 60
  · rw [(stamps_bound h).1]
    decide

/-- A device whose pick has handed a frame of 64 beats to the control gate. -/
def emitting (sent : Nat) : ShReq := { request .emit with slot := 1, beats := 64, sent := sent, data := List.replicate 2048 0 }

theorem witness_EmitsInTransfers :
    (let s := withModule 8 { emitter 0x80 true with loc := localBytes [2, 1, 0x80, 1, 0, 0] }
     let e := emitOf (pickSt s 511) (blockAt (pickSt s 511) 0 16)
     e.port = 0x80 ∧ emitOk s 511 e = true ∧ 512 < e.n ∧ gateWaits s 15 = false ∧
     gateWaits { s with shaft := { s.shaft with chan := [(15, 1)] } } 15 = true) ∧
    (let e := emitOf (pickSt (withModule 8 (emitter 0x80 true)) 511) (blockAt (pickSt (withModule 8 (emitter 0x80 true)) 511) 0 16)
     e.n ≤ 512) ∧
    (let s := shaftAt [emitting 16] []
     (List.range 64).find? (fun p => (portSt s p).tx.any fun x => x.pick == 511 && !x.released && !txMoving x) = none ∧
     s.shaft.reqs.find? (fun r => r.pick == 511 && r.kind == .emit) = some (emitting 16) ∧ chanOf s 15 = 0 ∧
     (emitting 16).sent + 16 < (emitting 16).beats ∧ (emitting 48).beats ≤ (emitting 48).sent + 16 ∧ ctrlFull s 15 = false ∧
     chanOf { s with shaft := { s.shaft with chan := [(15, 1)] } } 15 ≠ 0) ∧
    ctrlFull (galAt { ctrlIn := List.replicate 64 [] }) 15 = true ∧
    served.shaft.reqs.find? (fun r => r.pick == 511 && r.kind == .emit) = none := by decide +kernel

theorem witness_InboxTurns :
    (let s := pickAt { phase := .running, loc := localBytes [14, 0, 8, 0, 0, 0] }
     let s := { s with cfg := { s.cfg with str := { s.cfg.str with gals := [(14, { used := true, seam := 3 }), (15, { used := true, seam := 15 })] } } }
     beAt (blockAt (pickSt s 511) 0 8) 0 1 = 14 ∧ (galCfg s 14).used = true ∧ galSeam s 14 ≠ galSeam s 15) ∧
    (let s := pickAt { phase := .running, loc := localBytes [14, 0, 8, 0, 0, 0] }
     (galCfg s 14).used = false ∧ (galSt s 14).phase ≠ .active) ∧
    (let r := { request .inbox with dest := 15 }
     let s := { served with shaft := { reqs := [r] } }
     inboundTurn s r = true ∧ chanOf { s with shaft := { s.shaft with chan := [(15, 1)] } } r.gal ≠ 0 ∧
     inboundTurn { s with shaft := { reqs := [r, { request .get with id := 1, pick := 510, doneTick := some 5, addr := some 0 }], rrIn := [(15, 10)] } } r = false) := by
  decide +kernel

theorem witness_ShaftDraws_accessesAndLanes :
    (let r : ShReq := { id := 2, pick := 511, gal := 15, seam := 15, kind := .get, addr := some 3, budgetWait := true }
     let s := shaftAt [r] []
     let s := { s with cfg := { s.cfg with seams := { s.cfg.seams with seams := [(15, { configured := true, beta := 1 })] } } }
     (waiters s 15 3).head? = some r ∧ 0 < (seamRec s 15).beta) ∧
    (waiters served 15 3).head? = none ∧
    (let s := { served with cfg := { served.cfg with seams := { served.cfg.seams with lanes := [(15, { fixed := true })] } } }
     (laneSt s 15).stuck = false ∧ (laneCfg s 15).fixed = true) ∧
    ((laneSt served 15).stuck = false ∧ (laneCfg served 15).fixed = false ∧ (laneSt served 15).bound = 0) := by decide

theorem witness_Haulage_keysAndGates :
    (let s := { hauled 15 { up := true } with cry := {} }
     hTx s 15 = true ∧ sendKey s 15 = none) ∧
    (∃ i, haulItem { haulServing 0 [] with shaft := { chan := [(15, 1)] } } 511 = some i ∧ beAt i.hdr 0 12 = 0 ∧
      gateWaits { haulServing 0 [] with shaft := { chan := [(15, 1)] } } 15 = true) ∧
    gateWaits (haulServing 0 []) 15 = false := by
  refine ⟨by decide, ⟨_, rfl, by decide, by decide⟩, by decide⟩

theorem witness_SpiAndRegisterAccesses_forms :
    spiWriteOk 0x340 1 [5] (spiWriteCrc 0x340 1 [5]) = true ∧ spiWriteOk 0x340 2 [5] (spiWriteCrc 0x340 2 [5]) = false ∧
    spiWriteOk 0x340 1 [5] (spiWriteCrc 0x340 1 [5] + 1) = false ∧
    (hostReaches hostUp = true ∧ hostUp.pcie.cfgRetry = true ∧ isCfg cfgCommand = true ∧ isCfg (cfgBase - 4) = false) ∧
    (hostReaches hosted = true ∧ hosted.pcie.cfgRetry = false) := by decide +kernel

theorem witness_FaultEvents_causes :
    hasCause 319 1 = false ∧ hasCause 280 1 = true ∧ hasCause 272 1 = true ∧ hasCause 272 0xF = false ∧ hasCause 5 1 = false ∧
    (endsOutside 303 1 = true ∧ (srcSt (srcAt 303 { held := [1] }) 303).held.contains 1 = true) ∧ endsOutside 16 1 = false ∧
    (srcSt (srcAt 303 {}) 303).held.contains 1 = false ∧
    ((∀ e ∈ ({ State.reset with lode := { loOk := true } }).fault.oscRuns, e.2 ≤ 0) ∧
     ({ State.reset with fault := { State.reset.fault with oscRuns := [(1, 4)], heartbeatTick := 4 } }).fault.oscRuns = [(1, 4)]) := by
  decide

/-! ### Worked examples of the manual -/

/-- A list of 64 good values of (e - r) with a mean and a deviation. -/
def spread (m d : Int) : List Int := (List.replicate 32 [m + d, m - d]).flatten

/-- The Headframe's entry for GNSS antenna A. -/
def gnssA : RefRec := { id := 6, uPs := some 2500, fn? := some 1000, fnAtomic := 1000, zeta := 16, interval? := some 1000000000 }

/-- Headframe A of the manual's example in chapter 7: antenna A selected, a rubidium flywheel, Lode time at t_g. -/
def headframeA : State :=
  { State.reset with
    power := { phase := .running }
    lode := { state := .locked, tbpllLock := true, loOk := true, seeded := true, svc := true, fwClass := 1, fwRef := 6 }
    cfg := {
      str := { role := .headframe, calEpoch := 7, loMHz := 100 }
      refs := {
        refs := [gnssA]
        fly := [{}, { y := 1000000, a := 20000000 }] } }
    assay := { selRef := 6, refs := [(6, { good := { ref := 6, entry := gnssA, fn := 1000, dual := true, er := spread 1966 32500, sigmaSol := 30802 } })] } }

/-- The record that its keyframe carries. -/
def keyRecord : RxRecord := { code := 60, growth := 2, hop := 1, trace := 0x01810007, instant := 0, origin := 0x01810007 }

/-- Face F1's entry for haulage link 0. -/
def feed0 : RefRec := { id := 16, fn? := some 100000, fnAtomic := 100000, zeta := 16, interval? := some 1000000 }

/-- Face F1 of that example: the H0 copy of a record of code 60, 40 ms before its last good measurement. -/
def faceF1 : State :=
  { State.reset with
    power := { phase := .running }
    lode := { state := .locked, tbpllLock := true, loOk := true, seeded := true, svc := true, goodTime := fuOfNs 40000000 }
    cfg := {
      str := { role := .face, calEpoch := 7, loMHz := 100 }
      refs := {
        refs := [feed0]
        fly := [{ y := 1000000000, a := 2000000000 }] }
      haul := { links := [(0, { rx := true, aLinkPs := 500 })] } }
    assay := { selRef := 16, refs := [(16, {
      good := { ref := 16, entry := feed0, fn := 100000, er := spread 1311 26214, link := 0, rx := some keyRecord }, rx := some keyRecord })] } }

/-- Steps 6, 8 to 10 of the example in chapter 7: the bound at a client port, the keyframe's code, growth and origin word. -/
theorem test_headframe_bound :
    boundCode headframeA 0 (termDpt headframeA 5) 0 = 68 ∧ boundCode headframeA (fuOfNs 500000000) 0 0 = 0x3C ∧
    (boundRecord headframeA (fuOfNs 500000000) 0x3C false (hopSent headframeA)).take 12 =
      [0, 0, 0, 0x3C, 0, 2, 0, 1, 0x01, 0x81, 0x00, 0x07] := by decide +kernel

/-- Steps 17 to 20: what the Face serves over NTS. -/
theorem test_face_bound :
    boundCode faceF1 (fuOfNs 40800000) (termDpt faceF1 5) 0 = 100 ∧
    (boundRecord faceF1 (fuOfNs 40800000) (boundCode faceF1 (fuOfNs 40800000) (termDpt faceF1 5) 2) false (hopServed faceF1)).take 12 =
      [0, 0, 0, 0x66, 3, 0xE9, 0, 1, 0x44, 0, 0, 7] := by decide +kernel

/-- The pending leap of the example in chapter 2. -/
def leaping : State := { State.reset with leap := { offset := 37, pending := 1, instant := 1924992038 } }

/-- Steps 2 to 7 of that example: one instant as smeared and as true UTC, and the flag of the smeared seam. -/
theorem test_leap_day :
    ntpOfUtc (smearedUtc leaping (1924927238 * oneSec)) = 0xF6668D60C0000000 ∧
    ntpOfUtc (trueUtc leaping (1924927238 * oneSec)) = 0xF6668D6100000000 ∧
    inLeapWindow leaping (1924905638 * oneSec) = true ∧ inLeapWindow leaping (1924905638 * oneSec - 1) = false ∧
    flagsAt leaping (1924927238 * oneSec) true % 64 / 8 = 3 ∧ flagsAt leaping (1924927238 * oneSec) false % 64 / 8 = 1 := by decide

/-- Step 9: 1,234 ps are 20 codes. -/
theorem test_code_of_ps : codeOfPs 1234 = 20 ∧ codeOfFu (fuOfPs 1234) = 20 := by decide

/-- The draw of the example in chapter 13: x[15:0] = 29,157 and tokens 64 and 128 give v = 85, so G6 wins. -/
theorem test_draw_example : 29157 * (64 + 128) / 2 ^ 16 = 85 ∧ tokenWinner 85 [(4, 64), (6, 128)] 6 = 6 ∧
    tokenWinner 63 [(4, 64), (6, 128)] 6 = 4 := by decide

/-- The published test value of SipHash-2-4: key bytes 00 to 0F, message 00 to 0E. -/
theorem test_siphash_vector : sipHash 0x000102030405060708090A0B0C0D0E0F (List.range 15) = 0xA129CA6149BE45E5 := by decide +kernel

/-- The published check values of CRC-32C and of the frame check sequence, over the digits 1 to 9. -/
theorem test_crc_check : crc32c [49, 50, 51, 52, 53, 54, 55, 56, 57] = 0xE3069283 ∧
    crc32 [49, 50, 51, 52, 53, 54, 55, 56, 57] = 0xCBF43926 := by decide +kernel

/-- The feedback ratio of the example in chapter 8: 100 times 2^56, less 6. -/
theorem test_syn_ratio :
    synN { State.reset with
      clk := { State.reset.clk with inc := nominalInc }
      cfg := { str := { loMHz := 100 }, outs := { syn := [(0, { fVco := 10000000000 })] } } } 0 = 100 * 2 ^ 56 - 6 := by decide

/-- The key write of the example in chapter 18: a lane key of seam S2 in slot 0x410 reads back with LOADED. -/
theorem test_key_attributes :
    (match exec (.keyWrite .pf 0x410 0x00F000A2 7 (List.replicate 8 1)) { ready with cfg := { seams := { seams := [(2, {
        configured := true, magBase := 1024, magCount := 256 })] } } } with
     | .next t => magAttr (magSlot t 0x410) == 0x00F004A2 && (magSlot t 0x410).label == 7 && mbxResult t == some 0
     | _ => false) = true := by decide

/-! ### Words of the ICMP program of chapter 12, and of its encoding tables -/

theorem test_words_pointers : ∀ p : PickNo,
    decodePick p 0x9091 = some (.fset p 0 1 17) ∧ decodePick p 0x8604 = some (.faddi p 3 4) ∧ decodePick p 0xA068 = some (.fcpy p 3 2) ∧
    decodePick p 0xA344 = some (.faddb p 2 1) ∧ decodePick p 0x9C00 = some (.fset p 6 0 0) := by
  intro p
  repeat' apply And.intro
  all_goals rfl

theorem test_words_nibbles : ∀ p : PickNo,
    decodePick p 0x1646 = some (.or p 4 6) ∧ decodePick p 0x2858 = some (.cmpi p 5 8) ∧ decodePick p 0x290D = some (.tsti p 0 13) ∧
    decodePick p 0x2070 = some (.movi p 7 0) := by
  intro p
  repeat' apply And.intro
  all_goals rfl

theorem test_words_memory : ∀ p : PickNo,
    decodePick p 0x4642 = some (.ldn p 6 2 2) ∧ decodePick p 0x5741 = some (.stn p 7 2 1) := by
  intro p
  repeat' apply And.intro
  all_goals rfl

theorem test_words_fields : ∀ p : PickNo,
    decodePick p 0x7168 = some (.faddn p 3 false 8) ∧ decodePick p 0x7268 = some (.fadcn p 3 false 8) ∧
    decodePick p 0x60D0 = some (.fmov p 6 4 false false) ∧ decodePick p 0x050B = some (.flen p 11) := by
  intro p
  repeat' apply And.intro
  all_goals rfl

theorem test_words_branches : ∀ p : PickNo,
    decodePick p 0xB431 = some (.bne p 49) ∧ decodePick p 0xC001 = some (.call p 1) ∧ decodePick p 0xF5FE = some (.djnz p 5 254) := by
  intro p
  repeat' apply And.intro
  all_goals rfl

theorem test_words_helpers : ∀ p : PickNo,
    decodePick p 0xE4E0 = some (.emit p 7) ∧ decodePick p 0xE640 = some (.count p 16) ∧ decodePick p 0xE500 = some (.drop p) ∧
    decodePick p 0xE800 = none ∧ decodePick p 0x0001 = none := by
  intro p
  repeat' apply And.intro
  all_goals rfl

/-! ### Ill-formed commands are refused -/

theorem test_illformed_words :
    (Instr.lodeTimeLatch (2 ^ 32)).wellFormed = false ∧ (Instr.tallyLatch (2 ^ 32)).wellFormed = false ∧
    (Instr.bellEnqueue 0 (2 ^ 32)).wellFormed = false ∧ (Instr.shaftCommit (2 ^ 32)).wellFormed = false ∧
    (Instr.wbrCommit (2 ^ 32)).wellFormed = false ∧ (Instr.wbrSnapshotArm (2 ^ 32)).wellFormed = false ∧
    (Instr.faultForce 10 0).wellFormed = false ∧ (Instr.faultForce 0 (2 ^ 32)).wellFormed = false := by decide

theorem test_illformed_events :
    (Instr.bootSelftestDone true [24]).wellFormed = false ∧ (Instr.esmcQlDelivered 0 16).wellFormed = false ∧
    (Instr.portPcsFault 0 7).wellFormed = false ∧ (Instr.grantExpiry 0 2097152).wellFormed = false ∧
    (Instr.storeUncorrectable 0 4096).wellFormed = false ∧ (Instr.galleryFaultFence 0 6).wellFormed = false ∧
    (Instr.galleryFaultFence 0 0).wellFormed = false ∧ (Instr.stepRateMeasure 0 0 [(32, 0, 0)]).wellFormed = false ∧
    (Instr.lotteryDraw 0 [17]).wellFormed = false ∧ (Instr.quotaRevoke 0 (17, [])).wellFormed = false ∧ (Instr.quotaRevoke 0 (0, [17])).wellFormed = false ∧
    (Instr.patrolScrub 0 0 [2097152] 0 []).wellFormed = false ∧ (Instr.sessionGet (0, [2097152]) 0 false).wellFormed = false ∧
    (Instr.sessionPut (0, [2097152]) 0).wellFormed = false ∧ (Instr.ntsRequest (0, [(2097152, 0)])).wellFormed = false ∧
    (Instr.ptpMessage (0, [(2097152, 0)])).wellFormed = false ∧ (Instr.galleryTick (0, [(2097152, 0)]) 0).wellFormed = false ∧ (Instr.faultEvent 0 16 0).wellFormed = false ∧
    (Instr.faultEvent 0 0 1024).wellFormed = false ∧ (Instr.railOutOfLimits 7 true).wellFormed = false ∧
    (Instr.thermalThreshold 16 true true).wellFormed = false ∧ (Instr.heldCauseEnd 0 16).wellFormed = false ∧
    (Instr.pcsFaultClear 0 7).wellFormed = false ∧ (Instr.msixUnmask 128).wellFormed = false := by decide

theorem test_illformed_frames :
    (Instr.todinSentence 0 [256] 0).wellFormed = false ∧ (Instr.frameReceived 0 [256] true false {}).wellFormed = false ∧
    (Instr.haulKeyRx 0 [256] {}).wellFormed = false ∧ (Instr.haulDeltaRx 0 [256] {}).wellFormed = false ∧
    (Instr.haulKeyRepeatRx 0 [256] {}).wellFormed = false ∧ (Instr.haulDelayReqRx 0 [256] {}).wellFormed = false ∧
    (Instr.haulKeyReqRx 0 [256] {}).wellFormed = false ∧ (Instr.twinFrameRx 16 [256] {}).wellFormed = false := by decide

theorem test_illformed_mailbox :
    (Instr.surveyLoad .pf (2 ^ 64) 0 true).wellFormed = false ∧ (Instr.surveyAmend .pf 0 (2 ^ 32) true).wellFormed = false ∧
    (Instr.keyWrite .pf 0 0 0 [0]).wellFormed = false ∧ (Instr.keyErase .pf (2 ^ 32)).wellFormed = false ∧
    (Instr.attest .pf [] 0).wellFormed = false ∧ (Instr.lifecycleAdvance .pf (2 ^ 32)).wellFormed = false ∧
    (Instr.selftest .pf (2 ^ 32)).wellFormed = false ∧ (Instr.galleryFence .pf (2 ^ 32)).wellFormed = false ∧
    (Instr.galleryReadmit .pf (2 ^ 32)).wellFormed = false ∧ (Instr.pickReadmit .pf (2 ^ 32)).wellFormed = false ∧
    (Instr.faultAck .pf 0 (2 ^ 32)).wellFormed = false ∧ (Instr.deviceReset .pf (2 ^ 32)).wellFormed = false ∧
    (Instr.unknownCommand .pf 0x30).wellFormed = false ∧ (Instr.unknownCommand .pf 256).wellFormed = false ∧
    (Instr.vfMailboxCommand 0 256).wellFormed = false := by decide

theorem test_illformed_accesses :
    (Instr.spiRead 2 1).wellFormed = false ∧ (Instr.spiRead 0 65).wellFormed = false ∧ (Instr.spiWrite 0 [] (0, 0)).wellFormed = false ∧
    (Instr.spiWrite 1 [0] (1, 0)).wellFormed = false ∧ (Instr.snapRead 0 0).wellFormed = false ∧
    (Instr.spiUnknownOpcode 0x0B).wellFormed = false ∧ (Instr.w1cWrite .pf 1 0).wellFormed = false ∧
    (Instr.readClear .pf 2).wellFormed = false ∧ (Instr.registerWrite .pf 0 (2 ^ 32)).wellFormed = false ∧
    (Instr.wbrCounterRead 4).wellFormed = false := by decide

/-! ### Published test values of the algorithms that the manual names (log entry 6) -/

/-- FIPS 180-4: SHA-256 of "abc". -/
theorem test_sha256 : beVal (Sha.s256.digest [97, 98, 99]) =
    0xba7816bf8f01cfea414140de5dae2223b00361a396177a9cb410ff61f20015ad := by decide +kernel

/-- FIPS 180-4: SHA-384 of "abc". -/
theorem test_sha384 : beVal (Sha.s384.digest [97, 98, 99]) =
    0xcb00753f45a35e8bb5a03d699ac65007272c32ab0eded1631a8b605a43ff5bed8086072ba1e7cc2358baeca134c825a7 := by decide +kernel

/-- RFC 4231, case 1: HMAC-SHA-256. -/
theorem test_hmac : beVal (Sha.s256.hmac (List.replicate 20 0x0b) [72, 105, 32, 84, 104, 101, 114, 101]) =
    0xb0344c61d8db38535ca8afceaf0bf12b881dc200c9833da726e9376c2e32cff7 := by decide +kernel

/-- FIPS 197, appendix C.3: AES-256. -/
theorem test_aes256 : beVal (aesBlock (List.range 32) (beBytes 16 0x00112233445566778899aabbccddeeff)) =
    0x8ea2b7ca516745bfeafc49904b496089 := by decide +kernel

/-- RFC 4493, example 3: AES-CMAC of 40 bytes. -/
theorem test_cmac : beVal (aesCmac (beBytes 16 0x2b7e151628aed2a6abf7158809cf4f3c)
    (beBytes 40 0x6bc1bee22e409f96e93d7e117393172aae2d8a571e03ac9c9eb76fac45af8e5130c81c46a35ce411)) =
    0xdfa66747de9ae63030ca32611497c827 := by decide +kernel

/-- RFC 5297, A.1: AES-SIV. -/
theorem test_siv : beVal (sivSeal (beBytes 32 0xfffefdfcfbfaf9f8f7f6f5f4f3f2f1f0f0f1f2f3f4f5f6f7f8f9fafbfcfdfeff)
    [beBytes 24 0x101112131415161718191a1b1c1d1e1f2021222324252627] (beBytes 14 0x112233445566778899aabbccddee)) =
    0x85632d07c6e8f37f950acd320a2ecc9340c02b9690c4dc04daef7f6afe5c := by decide +kernel

/-- The GCM specification's test case 2: AES-128-GCM of sixteen zero bytes. -/
theorem test_gcm : beVal (gcmSeal (List.replicate 16 0) (List.replicate 12 0) [] (List.replicate 16 0)) =
    0x0388dace60b6a392f328c2b971b2fe78ab6e47d42cec13bdf53a67b21257bddf := by decide +kernel

end Sys2Proof.Tests
end

section
/-! SUPPORT. The register file: what a register reads after each write, and the fields of a counter. -/

namespace Sys2Proof.Machine

/-! ### Words -/

theorem rfGet_rfSet (a v b : Nat) (s : State) : rfGet (rfSet a v s) b = if b = a then v % 2 ^ 32 else rfGet s b := by
  unfold rfGet rfSet
  rw [sget_sput]
  split
  · rename_i h
    rw [h, Nat.xor_assoc, Nat.xor_self, Nat.xor_zero]
  · rfl

@[simp] theorem rfGet_rfSet_same (a v : Nat) (s : State) : rfGet (rfSet a v s) a = v % 2 ^ 32 := by
  simp [rfGet_rfSet]

@[simp] theorem rfGet_rfSet_ne {a b : Nat} (h : b ≠ a) (v : Nat) (s : State) : rfGet (rfSet a v s) b = rfGet s b := by
  simp [rfGet_rfSet, h]

@[simp] theorem rfGet_rfOr_ne {a b : Nat} (h : b ≠ a) (m : Nat) (s : State) : rfGet (rfOr a m s) b = rfGet s b :=
  rfGet_rfSet_ne h _ s

@[simp] theorem rfGet_rfBump_ne {a b : Nat} (h : b ≠ a) (hi lo n : Nat) (s : State) :
    rfGet (rfBump a hi lo n s) b = rfGet s b := rfGet_rfSet_ne h _ s

theorem rfGet_rfClear_same {a m : Nat} (h : m < 2 ^ 32) (s : State) :
    rfGet (rfClear a m s) a = rfGet s a &&& (0xFFFFFFFF - m) := by
  unfold rfClear
  rw [rfGet_rfSet_same, Nat.mod_eq_of_lt h]
  exact Nat.mod_eq_of_lt (Nat.and_lt_two_pow _ (by omega))

@[simp] theorem rfGet_rfClear_ne {a b : Nat} (h : b ≠ a) (m : Nat) (s : State) : rfGet (rfClear a m s) b = rfGet s b :=
  rfGet_rfSet_ne h _ s

theorem bitAt_eq_testBit (n k : Nat) : bitAt n k = n.testBit k := by
  rw [Nat.testBit_eq_decide_div_mod_eq]
  rfl

theorem bitAt_mod {k : Nat} (hk : k < 32) (n : Nat) : bitAt (n % 2 ^ 32) k = bitAt n k := by
  simp only [bitAt_eq_testBit, Nat.testBit_mod_two_pow, hk, decide_true, Bool.true_and]

theorem bitAt_rfGet_rfOr {k : Nat} (hk : k < 32) (a m : Nat) (s : State) :
    bitAt (rfGet (rfOr a m s) a) k = (bitAt (rfGet s a) k || bitAt m k) := by
  unfold rfOr
  rw [rfGet_rfSet_same, bitAt_mod hk]
  simp only [bitAt_eq_testBit, Nat.testBit_or]

/-! ### Fields -/

/-- A number with a field replaced is what stands above the field, the new value, and what stands below it. -/
theorem setBits_eq {hi lo : Nat} (h : lo ≤ hi) (v n : Nat) :
    setBits hi lo v n = (n / 2 ^ (hi + 1) * 2 ^ (hi + 1 - lo) + v % 2 ^ (hi + 1 - lo)) * 2 ^ lo + n % 2 ^ lo := by
  have above : n / 2 ^ (hi + 1) = n / 2 ^ lo / 2 ^ (hi + 1 - lo) := by
    rw [Nat.div_div_eq_div_mul, ← Nat.pow_add, show lo + (hi + 1 - lo) = hi + 1 by omega]
  have parts : n = (n / 2 ^ (hi + 1) * 2 ^ (hi + 1 - lo) + bitsOf hi lo n) * 2 ^ lo + n % 2 ^ lo := by
    rw [above, bitsOf, Nat.div_add_mod', Nat.div_add_mod']
  unfold setBits
  rw [Nat.add_mul] at *
  omega

/-- The field that was replaced reads the new value. -/
theorem bitsOf_setBits_same {hi lo : Nat} (h : lo ≤ hi) (v n : Nat) :
    bitsOf hi lo (setBits hi lo v n) = v % 2 ^ (hi + 1 - lo) := by
  rw [setBits_eq h, bitsOf, Nat.add_comm, Nat.add_mul_div_right _ _ (Nat.two_pow_pos lo),
    Nat.div_eq_of_lt (Nat.mod_lt n (Nat.two_pow_pos lo)), Nat.zero_add, Nat.mul_add_mod_self_right, Nat.mod_mod]

/-- A field above the one that was replaced reads as before. -/
theorem bitsOf_setBits_above {hi lo hi' lo' : Nat} (h : lo' ≤ hi') (above : hi' < lo) (v n : Nat) :
    bitsOf hi lo (setBits hi' lo' v n) = bitsOf hi lo n := by
  have top : setBits hi' lo' v n / 2 ^ (hi' + 1) = n / 2 ^ (hi' + 1) := by
    rw [setBits_eq h, show hi' + 1 = lo' + (hi' + 1 - lo') by omega, Nat.pow_add, ← Nat.div_div_eq_div_mul,
      Nat.add_comm, Nat.add_mul_div_right _ _ (Nat.two_pow_pos lo'),
      Nat.div_eq_of_lt (Nat.mod_lt n (Nat.two_pow_pos lo')), Nat.zero_add, ← Nat.pow_add,
      show lo' + (hi' + 1 - lo') - lo' = hi' + 1 - lo' by omega, Nat.add_comm, Nat.add_mul_div_right _ _ (Nat.two_pow_pos _),
      Nat.div_eq_of_lt (Nat.mod_lt v (Nat.two_pow_pos _)), Nat.zero_add]
  unfold bitsOf
  rw [show lo = hi' + 1 + (lo - (hi' + 1)) by omega, Nat.pow_add, ← Nat.div_div_eq_div_mul, ← Nat.div_div_eq_div_mul, top]

/-- The fields of a register lie in its 32 bits. -/
theorem bitsOf_mod {hi lo : Nat} (h : hi < 32) (n : Nat) : bitsOf hi lo (n % 2 ^ 32) = bitsOf hi lo n := by
  unfold bitsOf
  refine Nat.eq_of_testBit_eq fun i => ?_
  simp only [Nat.testBit_mod_two_pow, Nat.testBit_div_two_pow]
  by_cases hi' : i < hi + 1 - lo
  · simp [show i + lo < 32 by omega]
  · simp [hi']

/-- A saturating counter that is bumped reads its sum. -/
theorem rfField_rfBump_same {hi lo : Nat} (h : lo ≤ hi) (h32 : hi < 32) (a n : Nat) (s : State) :
    rfField (rfBump a hi lo n s) a hi lo = satAdd (hi + 1 - lo) (rfField s a hi lo) n := by
  have fits : satAdd (hi + 1 - lo) (rfField s a hi lo) n < 2 ^ (hi + 1 - lo) := by
    have := Nat.two_pow_pos (hi + 1 - lo)
    unfold satAdd
    omega
  unfold rfBump
  rw [rfField, rfGet_rfSet_same, bitsOf_mod h32, bitsOf_setBits_same h, Nat.mod_eq_of_lt fits]

/-- A counter that is bumped leaves the fields above it. -/
theorem rfField_rfBump_above {hi lo hi' lo' : Nat} (h : lo' ≤ hi') (above : hi' < lo) (h32 : hi < 32) (a n : Nat)
    (s : State) : rfField (rfBump a hi' lo' n s) a hi lo = rfField s a hi lo := by
  unfold rfBump
  rw [rfField, rfGet_rfSet_same, bitsOf_mod h32, bitsOf_setBits_above h above, rfField]

end Sys2Proof.Machine
end

section
/-! SUPPORT. Interrupt messages and fault events as the register file sees them: a message changes the endpoint alone, and an event writes its counter and the words that report it. -/

namespace Sys2Proof.Machine

/-! ### Messages (R368) -/

/-- Only the endpoint differs: its messages and what they bring with them. -/
def OnlyPcie (s t : State) : Prop := t = { s with pcie := t.pcie }

theorem OnlyPcie.refl (s : State) : OnlyPcie s s := rfl

theorem OnlyPcie.trans {s t u : State} (a : OnlyPcie s t) (b : OnlyPcie t u) : OnlyPcie s u := by
  unfold OnlyPcie at *
  rw [b, a]

theorem OnlyPcie.rfGet {s t : State} (h : OnlyPcie s t) (a : Nat) : rfGet t a = rfGet s a := by
  rw [h]
  rfl

/-- What follows a register write as messages leaves the frame of that write. -/
theorem OnlyPcie.registers {s t u : State} (write : t = { s with pcie := t.pcie, rf := t.rf }) (h : OnlyPcie t u) :
    u = { s with pcie := u.pcie, rf := u.rf } := by
  rw [h, write]

theorem foldl_onlyPcie {α : Type} {f : State → α → State} (h : ∀ s a, OnlyPcie s (f s a)) (l : List α) (s : State) :
    OnlyPcie s (l.foldl f s) := by
  induction l generalizing s with
  | nil => exact .refl s
  | cons a r ih => exact (h s a).trans (ih (f s a))

theorem msixSend_onlyPcie (v : Nat) (s : State) : OnlyPcie s (msixSend v s) := by
  unfold msixSend
  split <;> rfl

theorem vectorEdge_onlyPcie (before : State) (v : Nat) (s : State) : OnlyPcie s (vectorEdge before v s) := by
  unfold vectorEdge
  split
  · split
    · exact .refl s
    · exact msixSend_onlyPcie v s
  · split <;> rfl

theorem irqEdges_onlyPcie (before : State) (i : Nat) (s : State) : OnlyPcie s (irqEdges before i s) :=
  foldl_onlyPcie (fun t v => vectorEdge_onlyPcie before v t) _ s

theorem flushVectors_onlyPcie (s : State) : OnlyPcie s (flushVectors s) := by
  unfold flushVectors
  split
  · refine foldl_onlyPcie (fun t e => ?_) _ s
    split
    · exact msixSend_onlyPcie _ t
    · exact .refl t
  · exact .refl s

/-- A message leaves bus mastering as it is. -/
theorem msixSend_busMaster (v : Nat) (s : State) : (msixSend v s).pcie.busMaster = s.pcie.busMaster := by
  unfold msixSend
  split <;> rfl

theorem foldl_busMaster {α : Type} {f : State → α → State} (h : ∀ s a, (f s a).pcie.busMaster = s.pcie.busMaster)
    (l : List α) (s : State) : (l.foldl f s).pcie.busMaster = s.pcie.busMaster := by
  induction l generalizing s with
  | nil => rfl
  | cons a r ih => exact (ih (f s a)).trans (h s a)

theorem flushVectors_busMaster (s : State) : (flushVectors s).pcie.busMaster = s.pcie.busMaster := by
  unfold flushVectors
  split
  · refine foldl_busMaster (fun t e => ?_) _ s
    split
    · exact msixSend_busMaster e.1 t
    · rfl
  · rfl

/-- A cause that is raised writes the status register of its source and no other. -/
theorem rfGet_irqRaise_ne {i a : Nat} (h : a ≠ irqAddr i) (b : Nat) (s : State) :
    rfGet (irqRaise i b s) a = rfGet s a := by
  unfold irqRaise
  rw [(irqEdges_onlyPcie ..).rfGet, rfGet_rfOr_ne h]

/-- A write of an enable register is a register write, after which only the endpoint differs. -/
theorem irqWriteEnable_onlyPcie (i v : Nat) (s : State) : OnlyPcie (rfSet (irqAddr i + 4) v s) (irqWriteEnable i v s) :=
  irqEdges_onlyPcie s i _

/-- A write-1-to-clear clears its bits in the status register, after which only the endpoint differs. -/
theorem irqWriteClear_onlyPcie (i m : Nat) (s : State) : OnlyPcie (rfClear (irqAddr i) m s) (irqWriteClear i m s) := by
  unfold irqWriteClear
  refine foldl_onlyPcie (fun u v => ?_) _ _
  split
  · exact msixSend_onlyPcie v u
  · exact vectorEdge_onlyPcie s v u

/-! ### Reports (R378, R380, R385) -/

theorem rfGet_wakeRequest (s : State) (a : Nat) : rfGet (wakeRequest s) a = rfGet s a := by
  unfold wakeRequest
  split
  · rfl
  · split
    · exact (msixSend_onlyPcie 0 _).rfGet a
    · rfl

theorem rfGet_wakeSet_ne {a : Nat} (wake : a ≠ 0x600) (glb : a ≠ irqAddr 0) (b : Nat) (s : State) :
    rfGet (wakeSet b s) a = rfGet s a := by
  have raised : rfGet (irqRaise 0 2 (rfOr 0x600 (2 ^ b) s)) a = rfGet s a := by
    rw [rfGet_irqRaise_ne glb, rfGet_rfOr_ne wake]
  unfold wakeSet
  dsimp only
  split
  · rw [rfGet_wakeRequest, raised]
  · exact raised

/-- The registers in which a fault event of any source is reported: the interrupt status of the fault collector and of GLB,
the wake causes and the alert causes. -/
def reportWords : List Nat := [irqAddr 1, irqAddr 0, 0x600, 0x700]

theorem rfGet_levelEffects_ne {a : Nat} (h : a ∉ reportWords) (lvl : Nat) (s : State) :
    rfGet (levelEffects lvl s) a = rfGet s a := by
  simp only [reportWords, List.mem_cons, List.not_mem_nil, or_false, not_or] at h
  obtain ⟨flt, glb, wake, alert⟩ := h
  have raised : rfGet (irqRaise 1 lvl s) a = rfGet s a := rfGet_irqRaise_ne flt lvl s
  unfold levelEffects
  dsimp only
  split
  · rw [alertSet, rfGet_rfOr_ne alert, rfGet_wakeSet_ne wake glb, raised]
  · split
    · rw [alertSet, rfGet_rfOr_ne alert, rfGet_wakeSet_ne wake glb, raised]
    · exact raised

theorem bitAt_alertSet {k : Nat} (hk : k < 32) (b : Nat) (s : State) :
    bitAt (rfGet (alertSet b s) 0x700) k = (bitAt (rfGet s 0x700) k || bitAt (2 ^ b) k) := bitAt_rfGet_rfOr hk ..

/-- An alert that is set stays set while an event's level is acted on. -/
theorem alert_levelEffects {k : Nat} (hk : k < 32) {s : State} (h : bitAt (rfGet s 0x700) k = true) (lvl : Nat) :
    bitAt (rfGet (levelEffects lvl s) 0x700) k = true := by
  have raised : bitAt (rfGet (irqRaise 1 lvl s) 0x700) k = true := by
    rwa [rfGet_irqRaise_ne (by decide)]
  have woken : bitAt (rfGet (wakeSet 1 (irqRaise 1 lvl s)) 0x700) k = true := by
    rwa [rfGet_wakeSet_ne (by decide) (by decide)]
  unfold levelEffects
  dsimp only
  split
  · simp [bitAt_alertSet hk, woken]
  · split
    · simp [bitAt_alertSet hk, woken]
    · exact raised

theorem rfGet_ite {c : Prop} [Decidable c] {s t : State} {a w : Nat} (hs : rfGet s a = w) (ht : rfGet t a = w) :
    rfGet (if c then s else t) a = w := by
  split
  · exact hs
  · exact ht

theorem rfGet_logAppend_ne {a : Nat} (h : a ≠ irqAddr 1) (w : Nat) (s : State) :
    rfGet (logAppend w s) a = rfGet s a := by
  unfold logAppend
  dsimp only
  split
  · rfl
  · exact rfGet_irqRaise_ne h 5 _

/-- What an event at source `i` has recorded before its level is acted on: of the registers, its counter and the interrupt
status of the fault collector alone are written. -/
theorem faultEventWith_recorded (i c d base : Nat) (forced : Bool) (s : State) :
    ∃ lvl u, faultEventWith i c d base forced s = canaryUpdate (levelEffects lvl u) ∧
      ∀ a, a ≠ 0x00102000 + 4 * i → a ≠ irqAddr 1 → rfGet u a = rfGet s a := by
  refine ⟨_, _, rfl, fun a counter flt => ?_⟩
  refine rfGet_ite (rfGet_rfBump_ne counter ..) ?_
  rw [rfGet_logAppend_ne flt, rfGet_rfBump_ne counter]
  rfl

/-- A fault event writes its source's counter and the words that report it, and no other register. -/
theorem rfGet_faultEvent_ne {i a : Nat} (counter : a ≠ 0x00102000 + 4 * i) (words : a ∉ reportWords)
    (c d : Nat) (s : State) : rfGet (faultEvent i c d s) a = rfGet s a := by
  obtain ⟨lvl, u, eq, keeps⟩ := faultEventWith_recorded i c d (baseLevel s i c) false s
  rw [faultEvent, eq]
  exact (rfGet_levelEffects_ne words lvl u).trans
    (keeps a counter fun h => words (by simp [reportWords, h]))

/-- A fault event leaves an alert that is set. -/
theorem alert_faultEvent {k : Nat} (hk : k < 32) {s : State} (h : bitAt (rfGet s 0x700) k = true) (i c d : Nat) :
    bitAt (rfGet (faultEvent i c d s) 0x700) k = true := by
  obtain ⟨lvl, u, eq, keeps⟩ := faultEventWith_recorded i c d (baseLevel s i c) false s
  rw [faultEvent, eq]
  exact alert_levelEffects hk (by rwa [keeps 0x700 (by omega) (by decide)]) lvl

end Sys2Proof.Machine
end

section
/-! SUPPORT. The SPI port and the register accesses of the masters: what each changes, under conditions on state and operands (R6, R366, R376 to R378). -/

namespace Sys2Proof.Machine

/-! ### The SPI port -/

theorem length_beBytes (n v : Nat) : (beBytes n v).length = n := by
  induction n with
  | zero => rfl
  | succ n ih => simp [beBytes, ih]

/-- Four bytes for each word, and the four of the CRC. -/
theorem length_spiAnswer (op addr n : Nat) (words : List Nat) :
    (spiAnswer op addr n words).length = 4 * words.length + 4 := by
  have data : ((words.map (beBytes 4)).flatten).length = 4 * words.length := by
    induction words with
    | nil => rfl
    | cons w r ih => simp [length_beBytes, ih, Nat.mul_add, Nat.add_comm]
  simp [spiAnswer, data, length_beBytes]

/-- A transaction counts itself in XACT. -/
theorem rfField_spiDone (out : List Nat) (s : State) :
    rfField (spiDone out s) 0x708 15 0 = satAdd 16 (rfField s 0x708 15 0) 1 :=
  rfField_rfBump_same (by decide) (by decide) ..

/-- The error counters stand above that count. -/
theorem rfField_spiDone_above {hi lo : Nat} (above : 15 < lo) (h : hi < 32) (out : List Nat) (s : State) :
    rfField (spiDone out s) 0x708 hi lo = rfField s 0x708 hi lo :=
  rfField_rfBump_above (by decide) above h ..

theorem rfGet_spiDone_ne {a : Nat} (h : a ≠ 0x708) (out : List Nat) (s : State) : rfGet (spiDone out s) a = rfGet s a :=
  rfGet_rfBump_ne h ..

/-- A port that does not answer leaves every transaction without effect. -/
theorem spi_silent {s : State} (h : spiReaches s = false) {c : Instr} {a n op crc : Nat} {w : List Nat}
    (hc : c ∈ [Instr.spiRead a n, .snapRead a n, .spiWrite a w (n, crc), .spiUnknownOpcode op]) : exec c s = .next s := by
  simp only [List.mem_cons, List.not_mem_nil, or_false] at hc
  rcases hc with rfl | rfl | rfl | rfl
  · exact if_pos (by rw [h]; rfl)
  · exact if_pos (by rw [h]; rfl)
  · exact if_pos (by rw [h]; rfl)
  · exact if_pos (by rw [h]; rfl)

theorem exec_spiRead {s : State} (reach : spiReaches s = true) {a n : Nat} (form : spiFormOk a n = true) :
    exec (.spiRead a n) s = .next (spiDone (spiAnswer 0x0B a n ((List.range n).map fun k => spiReg s (a + 4 * k))) s) := by
  show execSpiRead a n s = _
  simp [execSpiRead, reach, form]

theorem exec_snapRead {s : State} (reach : spiReaches s = true) {a n : Nat} (form : spiFormOk a n = true) :
    exec (.snapRead a n) s = .next (spiDone (spiAnswer 0x0C a n ((List.range n).map fun k => stagedWord s (a + 4 * k))) s) := by
  show execSnapRead a n s = _
  simp [execSnapRead, reach, form]

/-- A read whose form R376 does not have is answered with open bytes. -/
theorem exec_read_open {s : State} (reach : spiReaches s = true) {a n : Nat} (form : spiFormOk a n = false) {c : Instr}
    (hc : c ∈ [Instr.spiRead a n, .snapRead a n]) : exec c s = .next (spiOpenAnswer s) := by
  simp only [List.mem_cons, List.not_mem_nil, or_false] at hc
  rcases hc with rfl | rfl
  · show execSpiRead a n s = _
    simp [execSpiRead, reach, form]
  · show execSnapRead a n s = _
    simp [execSnapRead, reach, form]

theorem exec_spiWrite_bad {s : State} (reach : spiReaches s = true) {a n crc : Nat} {ws : List Nat}
    (bad : spiWriteOk a n ws crc = false) :
    exec (.spiWrite a ws (n, crc)) s = .next (faultEvent 243 1 0 (alertSet 3 (rfBump 0x708 31 24 1 (spiDone [] s)))) := by
  show execSpiWrite a ws (n, crc) s = _
  simp [execSpiWrite, reach, bad]

/-- A WRITE of one word with its CRC writes that word. -/
theorem exec_spiWrite_word {s : State} (reach : spiReaches s = true) (a w : Nat) :
    exec (.spiWrite a [w] (1, spiWriteCrc a 1 [w])) s = .next (spiWriteWord a (w % 2 ^ 32) (spiDone [] s)) := by
  show execSpiWrite a [w] (1, spiWriteCrc a 1 [w]) s = _
  simp [execSpiWrite, reach, spiWriteOk, spiWriteWords]

theorem exec_spiUnknownOpcode {s : State} (reach : spiReaches s = true) {op : Nat} (read : op ≠ 0x0B) (write : op ≠ 0x02)
    (snap : op ≠ 0x0C) : exec (.spiUnknownOpcode op) s = .next (rfBump 0x708 23 16 1 (spiDone [] s)) := by
  show execSpiUnknownOpcode op s = _
  simp [execSpiUnknownOpcode, reach, read, write, snap]

/-- A WRITE that is not whole counts in BAD_CRC, alerts and reports its fault. -/
theorem badWrite_counts (s : State) :
    let t := faultEvent 243 1 0 (alertSet 3 (rfBump 0x708 31 24 1 (spiDone [] s)))
    rfField t 0x708 31 24 = satAdd 8 (rfField s 0x708 31 24) 1 ∧ bitAt (rfGet t 0x700) 3 = true := by
  constructor
  · rw [rfField, rfGet_faultEvent_ne (by decide) (by decide), alertSet, rfGet_rfOr_ne (by decide), ← rfField,
      rfField_rfBump_same (by decide) (by decide), rfField_spiDone_above (by decide) (by decide)]
  · refine alert_faultEvent (by decide) ?_ 243 1 0
    rw [bitAt_alertSet (by decide), show bitAt (2 ^ 3) 3 = true from rfl, Bool.or_true]

/-- A word outside the SPI set and the alert registers is discarded. -/
theorem spiWriteWord_elsewhere {a : Nat} (h : a < 0x300 ∨ (0x348 < a ∧ a ≠ 0x700 ∧ a ≠ 0x704)) (v : Nat) (s : State) :
    spiWriteWord a v s = s := by
  unfold spiWriteWord
  rw [if_neg (by omega), if_neg (by omega), if_neg (by omega), if_neg (by omega), if_neg (by omega)]

theorem spiWriteWord_argument {a : Nat} (low : 0x300 ≤ a) (high : a < 0x344) (aligned : a % 4 = 0) (v : Nat) (s : State) :
    spiWriteWord a v s = putFields a v s := by
  unfold spiWriteWord
  rw [if_neg (by omega), if_neg (by omega), if_pos ⟨low, high, aligned⟩]

/-- A write takes the RW fields from its data and keeps the other bits of the word. -/
theorem rfGet_putFields_same {v : Nat} (h : v < 2 ^ 32) (a : Nat) (s : State) :
    rfGet (putFields a v s) a = (v &&& (regMask a).rw) ||| (rfGet s a &&& (all32 - (regMask a).rw)) := by
  unfold putFields
  rw [rfGet_rfSet_same]
  refine Nat.mod_eq_of_lt (Nat.or_lt_two_pow (Nat.lt_of_le_of_lt Nat.and_le_left h) (Nat.and_lt_two_pow _ ?_))
  unfold all32
  omega

theorem rfGet_putFields_ne {a b : Nat} (h : b ≠ a) (v : Nat) (s : State) : rfGet (putFields a v s) b = rfGet s b :=
  rfGet_rfSet_ne h ..

/-! ### Where a register lies -/

/-- The GLB block has the lowest status register, and every other source has its own above it. -/
theorem irqAddr_cases (i : Nat) : irqAddr i = 0x100 ∨ 0x100100 ≤ irqAddr i := by
  have blocks : ∀ k < 16, irqAddr k = 0x100 ∨ 0x100100 ≤ irqAddr k := by decide
  by_cases h : i < 16
  · exact blocks i h
  · right
    unfold irqAddr
    iterate 16 rw [if_neg (by omega)]
    split
    · omega
    · split <;> omega

/-- No interrupt register lies at an address that differs from every source's pair. -/
theorem irqPlace_eq_none {h : Nat} (away : ∀ i, irqAddr i ≠ h ∧ irqAddr i + 4 ≠ h) : irqPlace h = none := by
  unfold irqPlace
  rw [List.find?_eq_none.2 fun i _ => by simp [away i]]
  rfl

theorem irqWidth_le (i : Nat) : irqWidth i ≤ 32 := by
  have low : ∀ k < 16, irqWidth k ≤ 32 := by decide
  by_cases h : i < 16
  · exact low i h
  · unfold irqWidth
    split
    · omega
    · split
      · omega
      · rw [if_pos (by omega)]
        omega

/-- No command or argument word of the PF's set is an interrupt register. -/
theorem irqPlace_argument {h : Nat} (low : 0x200 ≤ h) (high : h < 0x244) : irqPlace h = none :=
  irqPlace_eq_none fun i => by
    have := irqAddr_cases i
    omega

/-- The command and argument words of the PF's set have no W1C bits. -/
theorem w1c_argument {h : Nat} (low : 0x200 ≤ h) (high : h < 0x244) : (regMask h).w1c = 0 := by
  have listed : ∀ k < 0x44, (glbMask (0x200 + k)).w1c = 0 := by decide
  have glb : blockMask h = glbMask h := if_pos (by omega)
  rw [regMask, irqPlace_argument low high]
  dsimp only
  rw [glb, show h = 0x200 + (h - 0x200) by omega]
  exact listed _ (by omega)

theorem vfSetPlace_low {h : Nat} (low : h < 0x02000000) : vfSetPlace h = none := if_neg (by omega)

/-- A register write to a command or argument word of the PF's set. -/
theorem writeAt_argument {h : Nat} (low : 0x200 ≤ h) (high : h < 0x244) (v : Nat) (s : State) :
    writeAt h v (w1cAt h v s) = putFields h v (rfClear h 0 s) := by
  have clear : w1cAt h v s = rfClear h 0 s := by
    unfold w1cAt
    rw [irqPlace_argument low high]
    dsimp only
    rw [if_neg (by omega), vfSetPlace_low (by omega)]
    dsimp only
    rw [w1c_argument low high, Nat.and_zero]
  have cfg : isCfg h = false := decide_eq_false (by unfold cfgBase; omega)
  rw [clear]
  unfold writeAt
  rw [irqPlace_argument low high]
  dsimp only
  unfold wbrBase
  rw [if_neg (by omega), cfg, if_neg Bool.false_ne_true, if_neg (by omega), if_neg (by omega), if_neg (by omega),
    if_neg (by omega), if_neg (by omega), if_neg (by omega), if_neg (by omega), if_neg (by omega), if_neg (by omega),
    if_neg (by omega), if_neg (by omega), vfSetPlace_low (by omega)]

/-- A register write of such a word takes its RW bits from the data and keeps the others. -/
theorem rfGet_writeAt_argument {h : Nat} (low : 0x200 ≤ h) (high : h < 0x244) {v : Nat} (word : v < 2 ^ 32) (s : State) :
    rfGet (writeAt h v (w1cAt h v s)) h = (v &&& (regMask h).rw) ||| (rfGet s h &&& (all32 - (regMask h).rw)) := by
  have mask : all32 &&& (all32 - (regMask h).rw) = all32 - (regMask h).rw := by
    rw [Nat.and_comm]
    exact Nat.and_two_pow_sub_one_of_lt_two_pow (n := 32) (by unfold all32; omega)
  rw [writeAt_argument low high, rfGet_putFields_same word, rfGet_rfClear_same (by decide), Nat.and_assoc]
  exact congrArg (fun x => (v &&& (regMask h).rw) ||| (rfGet s h &&& x)) mask

/-! ### Register accesses -/

theorem exec_readClear_silent {s : State} (silent : hostReaches s = false) (m : Master) (a : Nat) :
    exec (.readClear m a) s = .next s := if_pos silent

theorem exec_readClear_unlisted {s : State} (reach : hostReaches s = true) {m : Master} {a : Nat}
    (unlisted : homeAddr s m a = none) : exec (.readClear m a) s = .next (setRead 0 s) := by
  show execReadClear m a s = _
  simp [execReadClear, reach, unlisted]

theorem exec_readClear_vf {s : State} (reach : hostReaches s = true) {n : SeamNo} {a h : Nat}
    (home : homeAddr s (.vf n) a = some h) : exec (.readClear (.vf n) a) s = .next (setRead (readReg s h) s) := by
  show execReadClear (.vf n) a s = _
  simp [execReadClear, reach, home]

theorem exec_readClear_pf {s : State} (reach : hostReaches s = true) {a h : Nat} (home : homeAddr s .pf a = some h) :
    exec (.readClear .pf a) s = .next (pfRead h s) := by
  show execReadClear .pf a s = _
  simp [execReadClear, reach, home]

/-- A register with no read effect of its own is read, and its RC bits clear. -/
theorem pfRead_plain {h : Nat} (low : h < 0x00400000) (aligned : h % 4 = 0) (s : State) :
    pfRead h s = setRead (readReg s h)
      (if (regMask h).rc = 0 then s else rfSet h (rfGet s h &&& (all32 - (regMask h).rc)) s) := by
  unfold pfRead wbrBase
  rw [if_neg (by omega), if_neg (by omega), if_neg (by omega), if_neg (by omega)]
  simp [aligned]

theorem rfGet_setRead (v a : Nat) (s : State) : rfGet (setRead v s) a = rfGet s a := rfl

/-- Such a read clears the RC bits of its own word. -/
theorem rfGet_pfRead_same {h : Nat} (low : h < 0x00400000) (aligned : h % 4 = 0) (s : State) :
    rfGet (pfRead h s) h = if (regMask h).rc = 0 then rfGet s h else rfGet s h &&& (all32 - (regMask h).rc) := by
  rw [pfRead_plain low aligned, rfGet_setRead]
  split
  · rfl
  · rw [rfGet_rfSet_same]
    exact Nat.mod_eq_of_lt (Nat.and_lt_two_pow _ (by unfold all32; omega))

theorem rfGet_pfRead_ne {h b : Nat} (low : h < 0x00400000) (aligned : h % 4 = 0) (other : b ≠ h) (s : State) :
    rfGet (pfRead h s) b = rfGet s b := by
  rw [pfRead_plain low aligned, rfGet_setRead]
  exact rfGet_ite rfl (rfGet_rfSet_ne other ..)

/-- It returns the word as it was, and nothing but the register file and the read data differs. -/
theorem pfRead_frame {h : Nat} (low : h < 0x00400000) (aligned : h % 4 = 0) (s : State) :
    (pfRead h s).pcie.readData = readReg s h ∧ pfRead h s = { s with pcie := (pfRead h s).pcie, rf := (pfRead h s).rf } := by
  rw [pfRead_plain low aligned]
  split <;> exact ⟨rfl, rfl⟩

theorem exec_w1cWrite {s : State} {m : Master} {a h : Nat} (home : writeHome s m a = some h) (v : Nat) :
    exec (.w1cWrite m a v) s = .next (w1cAt h v s) := by
  show execW1cWrite m a v s = _
  simp [execW1cWrite, home]

theorem exec_registerWrite {s : State} {m : Master} {a h : Nat} (home : writeHome s m a = some h) (v : Nat) :
    exec (.registerWrite m a v) s = .next (writeAt h (v % 2 ^ 32) (w1cAt h (v % 2 ^ 32) s)) := by
  show execRegisterWrite m a v s = _
  simp [execRegisterWrite, home]

/-- Where the master may not write, both writes are discarded. -/
theorem exec_write_discarded {s : State} {m : Master} {a : Nat} (away : writeHome s m a = none) (v : Nat) :
    exec (.w1cWrite m a v) s = .next s ∧ exec (.registerWrite m a v) s = .next s := by
  show execW1cWrite m a v s = _ ∧ execRegisterWrite m a v s = _
  simp [execW1cWrite, execRegisterWrite, away]

theorem w1cAt_status {h i : Nat} (place : irqPlace h = some (i, false)) (v : Nat) (s : State) :
    w1cAt h v s = irqWriteClear i (v % 2 ^ irqWidth i) s := by
  simp [w1cAt, place]

theorem w1cAt_enable {h i : Nat} (place : irqPlace h = some (i, true)) (v : Nat) (s : State) : w1cAt h v s = s := by
  simp [w1cAt, place]

theorem writeAt_enable {h i : Nat} (place : irqPlace h = some (i, true)) (v : Nat) (s : State) :
    writeAt h v s = irqWriteEnable i (v % 2 ^ irqWidth i) s := by
  simp [writeAt, place]

/-! ### The PF's configuration space -/

/-- A configuration request that gets retry status reaches no register. -/
theorem homeAddr_retry {s : State} {a : Nat} (retry : s.pcie.cfgRetry = true) (cfg : isCfg a = true) :
    homeAddr s .pf a = none := by
  have base : cfgBase ≤ a := (of_decide_eq_true cfg).1
  unfold cfgBase at base
  have closed : ¬ (a < 0x04000000 ∨ (isCfg a && !s.pcie.cfgRetry) = true) := by
    rintro (low | answers)
    · omega
    · simp [retry] at answers
  unfold homeAddr
  dsimp only
  rw [if_neg (by omega), if_neg (by omega), if_neg closed]

theorem writeHome_unlisted {s : State} {m : Master} {a : Nat} (unlisted : homeAddr s m a = none) :
    writeHome s m a = none := by
  unfold writeHome
  rw [unlisted]
  split <;> rfl

theorem writeHome_cfgCommand {s : State} (reach : hostReaches s = true) (answers : s.pcie.cfgRetry = false) :
    writeHome s .pf cfgCommand = some cfgCommand := by
  have home : homeAddr s .pf cfgCommand = some cfgCommand := by
    simp [homeAddr, cfgCommand, isCfg, cfgBase, answers]
  unfold writeHome
  rw [if_neg (by simp [reach, cfgCommand, cfgBase]), home]
  rfl

/-- A write of the command register sets bus mastering. -/
theorem writeAt_cfgCommand (v : Nat) (s : State) :
    writeAt cfgCommand v (w1cAt cfgCommand v s) =
      writeBusMaster (bitAt v 2) (rfClear cfgCommand (v &&& (regMask cfgCommand).w1c) s) := by
  have place : irqPlace cfgCommand = none := by decide +kernel
  have clear : w1cAt cfgCommand v s = rfClear cfgCommand (v &&& (regMask cfgCommand).w1c) s := by
    unfold w1cAt
    rw [place]
    rfl
  rw [clear]
  unfold writeAt
  rw [place]
  rfl

end Sys2Proof.Machine
end

section
/-! PROOFS. O60: a register file that lists an address twice, and the configuration reset that brings its second entry to light. -/

namespace Sys2Proof.Machine

open Safety

theorem rfReset_lt (a : Nat) : rfReset a < 2 ^ 32 := by
  unfold rfReset
  repeat' split
  all_goals decide

/-- A device that accepts the PF's commands and whose register file is not in the canonical form of `swf`: it lists the first
word of the MSI-X table twice. A read finds the first entry, so that 2^32 stands there unseen. -/
def hiddenEntry : State :=
  { State.reset with
    power := { phase := .running, selftestDone := true }
    pcie := { inReset := false }
    rf := [(0x03F00000, 0), (0x03F00000, 2 ^ 32)] }

/-- Every register of that device reads its reset word. -/
theorem rfGet_hiddenEntry (a : Nat) : rfGet hiddenEntry a = rfReset a := by
  have first : sget 0 hiddenEntry.rf a = 0 := by simp [hiddenEntry, sget]
  rw [rfGet, first, Nat.zero_xor]

/-- A configuration reset writes the endpoint's listed entries anew, each over the one before it (R415): the second entry of
an address is the one that reads afterwards. -/
theorem step_hiddenEntry : ∃ t, step { hiddenEntry with pending := [.deviceReset .pf 0x52455345] } = .next t ∧
    rfGet t 0x03F00000 = 2 ^ 32 :=
  ⟨_, rfl, rfl⟩

/-- Refutes O60: the statement speaks of every state, also of one whose register file lists an address twice. DEVICE_RESET
then lets the second entry, 2^32, be read, although every register read a 32-bit word before it. -/
theorem not_registersStayWithin32Bits : ¬ Obligations.RegistersStayWithin32Bits := by
  unfold Obligations.RegistersStayWithin32Bits
  intro keeps
  obtain ⟨t, run, reads⟩ := step_hiddenEntry
  have words : Words32 { hiddenEntry with pending := [.deviceReset .pf 0x52455345] } := fun a =>
    Nat.lt_of_le_of_lt (Nat.le_of_eq (rfGet_hiddenEntry a)) (rfReset_lt a)
  have small : rfGet t 0x03F00000 < 2 ^ 32 := keeps _ t words run _
  omega

end Sys2Proof.Machine
end

section
/-! PROOFS. O54: SPI transactions and register accesses. -/

namespace Sys2Proof.Machine

/-- Settles O54: each transaction and each access by the equation of its command, the registers it writes by the laws of the
register file, and all else by the frame of that write. -/
theorem spiAndRegisterAccesses : Obligations.SpiAndRegisterAccesses := by
  unfold Obligations.SpiAndRegisterAccesses
  refine ⟨?silent, ?reads, ?writes, ?unknown, ?readClear, ?registers⟩
  case silent => exact fun _ _ _ _ _ _ silent _ hc => spi_silent silent hc
  case reads =>
    refine fun a n s reach => ⟨fun form => ⟨⟨_, exec_spiRead reach form, rfl, ?_, rfField_spiDone .., rfl⟩,
      ⟨_, exec_snapRead reach form, rfl, ?_, rfl⟩⟩, fun form c hc => ⟨_, exec_read_open reach form hc, rfl, rfl⟩⟩
    · exact (length_spiAnswer ..).trans (by simp)
    · exact (length_spiAnswer ..).trans (by simp)
  case writes =>
    refine fun a w ws s reach => ⟨fun n crc bad => ?_, fun away => ?_, fun low high aligned => ?_⟩
    · have frame := faultEvent_onlyReports 243 1 0 (alertSet 3 (rfBump 0x708 31 24 1 (spiDone [] s)))
      exact ⟨_, exec_spiWrite_bad reach bad, frame.mbx, frame.lode, badWrite_counts s⟩
    · rw [exec_spiWrite_word reach, spiWriteWord_elsewhere away]
    · rw [exec_spiWrite_word reach, spiWriteWord_argument low high aligned]
      refine ⟨_, rfl, ?_, fun b other count => ?_, rfl⟩
      · rw [rfGet_putFields_same (Nat.mod_lt _ (by decide)), rfGet_spiDone_ne (by omega)]
      · rw [rfGet_putFields_ne other, rfGet_spiDone_ne count]
  case unknown =>
    refine fun op s reach read write snap => ⟨_, exec_spiUnknownOpcode reach read write snap, rfl, ?_, rfl⟩
    rw [rfField_rfBump_same (by decide) (by decide), rfField_spiDone_above (by decide) (by decide)]
  case readClear =>
    refine fun m a s => ⟨fun silent => exec_readClear_silent silent m a,
      fun reach unlisted => ⟨_, exec_readClear_unlisted reach unlisted, rfl, rfl⟩, fun h reach home => ⟨?_, ?_⟩⟩
    · rintro n rfl
      exact ⟨_, exec_readClear_vf reach home, rfl, rfl⟩
    · rintro rfl low aligned
      obtain ⟨data, frame⟩ := pfRead_frame low aligned s
      exact ⟨_, exec_readClear_pf reach home, data, rfGet_pfRead_same low aligned s,
        fun b other => rfGet_pfRead_ne low aligned other s, frame⟩
  case registers =>
    refine fun m a v s => ⟨fun away => exec_write_discarded away v, fun reach retry cfg => ?_, fun reach answers => ?_,
      fun h i home => ⟨fun place => ?_, fun place => ?_⟩, fun h home low high => ?_⟩
    · have unlisted := homeAddr_retry retry cfg
      exact ⟨(exec_write_discarded (writeHome_unlisted unlisted) v).2, _, exec_readClear_unlisted reach unlisted, rfl, rfl⟩
    · refine ⟨_, exec_registerWrite (writeHome_cfgCommand reach answers) v, ?_⟩
      rw [writeAt_cfgCommand]
      exact ⟨(flushVectors_busMaster _).trans (bitAt_mod (by decide) v), (flushVectors_onlyPcie _).registers rfl⟩
    · refine ⟨(exec_w1cWrite home v).trans (by rw [w1cAt_enable place]), _, exec_registerWrite home v, ?_⟩
      rw [w1cAt_enable place, writeAt_enable place]
      have messages := irqWriteEnable_onlyPcie i (v % 2 ^ 32 % 2 ^ irqWidth i) s
      have word : v % 2 ^ 32 % 2 ^ irqWidth i < 2 ^ 32 :=
        Nat.lt_of_le_of_lt (Nat.mod_le _ _) (Nat.mod_lt v (by decide))
      exact ⟨by rw [messages.rfGet, rfGet_rfSet_same, Nat.mod_eq_of_lt word], messages.registers rfl⟩
    · refine ⟨_, exec_w1cWrite home v, ?_⟩
      rw [w1cAt_status place]
      have messages := irqWriteClear_onlyPcie i (v % 2 ^ irqWidth i) s
      have word : v % 2 ^ irqWidth i < 2 ^ 32 :=
        Nat.lt_of_lt_of_le (Nat.mod_lt v (Nat.two_pow_pos _)) (Nat.pow_le_pow_right (by decide) (irqWidth_le i))
      exact ⟨by rw [messages.rfGet, rfGet_rfClear_same word], messages.registers rfl⟩
    · refine ⟨_, exec_registerWrite home v, rfGet_writeAt_argument low high (Nat.mod_lt v (by decide)) s, ?_⟩
      rw [writeAt_argument low high]
      exact ⟨fun b other => by rw [rfGet_putFields_ne other, rfGet_rfClear_ne other], rfl⟩

end Sys2Proof.Machine
end

section
/-! SUPPORT. The frame of the operations on synthesisers and outputs: the outputs and what is reported. -/

namespace Sys2Proof.Machine

open Safety

/-- Only the synthesisers, outputs and event pins may differ, and what is reported. -/
def OnlyOuts (s t : State) : Prop := t = { s with outs := t.outs, rf := t.rf, pcie := t.pcie, fault := t.fault }

theorem OnlyOuts.refl (s : State) : OnlyOuts s s := rfl

theorem OnlyOuts.trans {s t u : State} (a : OnlyOuts s t) (b : OnlyOuts t u) : OnlyOuts s u := by
  unfold OnlyOuts at *
  rw [b, a]

theorem OnlyOuts.upd (s : State) (x : OutsSt) : OnlyOuts s { s with outs := x } := rfl

theorem OnlyOuts.ofReports {s t : State} (a : OnlyReports s t) : OnlyOuts s t := by
  unfold OnlyOuts OnlyReports at *
  rw [a]

theorem OnlyOuts.clk {s t : State} (a : OnlyOuts s t) : t.clk = s.clk := by rw [a]
theorem OnlyOuts.lode {s t : State} (a : OnlyOuts s t) : t.lode = s.lode := by rw [a]
theorem OnlyOuts.prt {s t : State} (a : OnlyOuts s t) : t.prt = s.prt := by rw [a]
theorem OnlyOuts.gals {s t : State} (a : OnlyOuts s t) : t.gals = s.gals := by rw [a]
theorem OnlyOuts.picks {s t : State} (a : OnlyOuts s t) : t.picks = s.picks := by rw [a]
theorem OnlyOuts.cfg {s t : State} (a : OnlyOuts s t) : t.cfg = s.cfg := by rw [a]

theorem ite_onlyOuts {c : Prop} [Decidable c] {s t u : State} (a : OnlyOuts s t) (b : OnlyOuts s u) :
    OnlyOuts s (if c then t else u) := by
  split
  · exact a
  · exact b

theorem foldl_onlyOuts {α : Type} {f : State → α → State} (h : ∀ s a, OnlyOuts s (f s a)) (l : List α) (s : State) :
    OnlyOuts s (l.foldl f s) := by
  induction l generalizing s with
  | nil => exact OnlyOuts.refl s
  | cons a r ih => exact (h s a).trans (ih (f s a))

theorem outMod_onlyOuts (m : Nat) (f : OutSt → OutSt) (s : State) : OnlyOuts s (outMod m f s) := rfl
theorem synMod_onlyOuts (n : Nat) (f : SynSt → SynSt) (s : State) : OnlyOuts s (synMod n f s) := rfl
theorem outStopReq_onlyOuts (m : Nat) (dst : OutState) (b : Bool) (s : State) : OnlyOuts s (outStopReq m dst b s) := rfl

theorem outDown_onlyOuts (m : Nat) (dst : OutState) (s : State) : OnlyOuts s (outDown m dst s) :=
  (outMod_onlyOuts m _ s).trans (.ofReports ((irqRaise_onlyReports ..).trans (faultEvent_onlyReports ..)))

theorem outsStart_onlyOuts (s : State) : OnlyOuts s (outsStart s) :=
  foldl_onlyOuts (fun t m => ite_onlyOuts (outMod_onlyOuts m _ t) (outMod_onlyOuts m _ t)) _ s

theorem outsHold_onlyOuts (s : State) : OnlyOuts s (outsHold s) :=
  (foldl_onlyOuts (fun t n => ite_onlyOuts (OnlyOuts.refl t) (synMod_onlyOuts n _ t)) (List.range 4) s).trans (.upd _ _)

theorem outsRelease_onlyOuts (s : State) : OnlyOuts s (outsRelease s) :=
  (foldl_onlyOuts (fun t n => synMod_onlyOuts n _ t) (List.range 4) s).trans (.upd _ _)

theorem outsLockLoss_onlyOuts (s : State) : OnlyOuts s (outsLockLoss s) :=
  ((outsHold_onlyOuts s).trans (.upd _ _)).trans (foldl_onlyOuts (fun t m => ite_onlyOuts
    (ite_onlyOuts (outStopReq_onlyOuts m _ _ t) (outDown_onlyOuts m _ t)) (OnlyOuts.refl t)) _ _)

theorem outsRealigned_onlyOuts (s : State) : OnlyOuts s (outsRealigned s) :=
  ((outsRelease_onlyOuts s).trans (.upd _ _)).trans (foldl_onlyOuts
    (fun t m => ite_onlyOuts (outMod_onlyOuts m _ t) (OnlyOuts.refl t)) _ _)

theorem outsLoAbsent_onlyOuts (s : State) : OnlyOuts s (outsLoAbsent s) :=
  foldl_onlyOuts (fun t m => ite_onlyOuts (outStopReq_onlyOuts m _ _ t) (OnlyOuts.refl t)) _ s

end Sys2Proof.Machine
end

section
/-! SUPPORT. The Lode's part of a lock loss, a re-alignment, an LO absence and the LO's return: what each leaves in the Lode, said once (R62, R73 to R75). -/

namespace Sys2Proof.Machine

open Safety

/-- The states of the Lode with a reference or a flywheel behind them: those from which R74 and R75 take SVC. -/
abbrev Serves (x : LodeState) : Prop := x = .locked ∨ x = .pull ∨ x = .holdover

/-- The states in which the time loop follows the selected reference: those that R74 takes to PULL. -/
abbrev Steers (x : LodeState) : Prop := x = .locked ∨ x = .pull

theorem oscStart_onlyReports (s : State) : OnlyReports s (oscStart s) := ite_onlyReports rfl rfl

theorem oscStop_onlyReports (s : State) : OnlyReports s (oscStop s) := ite_onlyReports rfl rfl

/-! ### The first TBPLL lock -/

/-- The Lode and the clock once the TBPLL has locked for the first time, in FREE with STRUCTURE applied. -/
theorem lodeFirstLock_acquires {s : State} (free : s.lode.state = .free) (applied : s.surv.structureApplied = true) :
    (lodeFirstLock s).clk = { s.clk with inc := (incCal s).toNat } ∧
    ∃ w, (lodeFirstLock s).lode = { s.lode with
      loOk := true, tbpllLock := true, incFw := incCal s, settleTick := none, pullOn := false, rFrozen := 0
      state := .acquire, was := w } := by
  have enters : lodeFirstLock s = enterAcquire (calibrate (canaryUpdate
      { markTime s with lode := { s.lode with loOk := true, tbpllLock := true, incFw := incCal s } })) :=
    if_pos ⟨free, applied⟩
  rw [enters, (enterAcquire_onlyLode _).clk, enterAcquire_lode]
  exact ⟨rfl, _, rfl⟩

/-! ### Lock loss (R73) -/

/-- A lock loss is reported by its counter, its interrupt, the stamp epoch and fault source 16. -/
theorem lockLossReports_onlyTally (s : State) :
    OnlyTally s (tallyRefresh (faultEvent 16 1 0 (bumpEpoch (irqRaise 2 6 (rfBump 0x00200060 15 0 1 s))))) := by
  refine OnlyTally.trans ?_ (tallyRefresh_onlyTally _)
  refine OnlyTally.trans ?_ (faultEvent_onlyReports ..).tally'
  refine OnlyTally.trans ?_ (bumpEpoch_onlyTally _)
  exact ((rfBump_onlyReports ..).trans (irqRaise_onlyReports ..)).tally'

/-- Beside its reports a lock loss changes the Lode and the marks of the frequency gates. -/
theorem lodeLockLoss_frame (s : State) : ∃ l d, OnlyTally { s with lode := l, dial := d } (lodeLockLoss s) :=
  ⟨_, (gatesInvalid s).dial, lockLossReports_onlyTally _⟩

theorem lodeLockLoss_keeps (s : State) : let t := lodeLockLoss s
    t.clk = s.clk ∧ t.prt = s.prt ∧ t.gals = s.gals ∧ t.picks = s.picks ∧ t.cfg = s.cfg := by
  obtain ⟨l, d, frame⟩ := lodeLockLoss_frame s
  exact ⟨frame.clk, frame.prt, frame.gals, frame.picks, frame.cfg⟩

theorem lodeLockLoss_lode (s : State) : let l := (lodeLockLoss s).lode
    l.coarse = true ∧ l.tbpllLock = false ∧ l.ageValid = false ∧ l.loSamples = [] ∧ l.state = s.lode.state ∧
    l.svc = s.lode.svc := by
  unfold lodeLockLoss
  dsimp only
  rw [(lockLossReports_onlyTally _).lode]
  exact ⟨rfl, rfl, rfl, rfl, rfl, rfl⟩

/-! ### Re-alignment (R74) -/

/-- The Lode once the time counter is loaded from the coarse backup counter, with the error that was found. -/
def reloadedLode (theta : Option Int) (s : State) : LodeSt :=
  { s.lode with
    coarse := false, coarseTick := s.clk.ticks, lossState := none, realignErr := codeOfFu (coarseError s theta).1 }

/-- The device at that moment, the cause COARSE of fault source 16 ended. -/
def reloaded (fine : Nat) (theta : Option Int) (s : State) : State :=
  heldEnd 16 1 { loadFromCoarse fine s with lode := reloadedLode theta s }

theorem reloaded_lode (fine : Nat) (theta : Option Int) (s : State) :
    (reloaded fine theta s).lode = reloadedLode theta s := (heldEnd_onlyReports ..).lode

theorem reloaded_clk (fine : Nat) (theta : Option Int) (s : State) :
    (reloaded fine theta s).clk = (loadFromCoarse fine s).clk := (heldEnd_onlyReports ..).clk

/-- The coarse error becomes e_c. -/
def recordEc (ec : Nat) (s : State) : State := { s with lode := { s.lode with ec := ec } }

theorem recordEc_clk (ec : Nat) (s : State) : (recordEc ec s).clk = s.clk := rfl
theorem recordEc_lode (ec : Nat) (s : State) : (recordEc ec s).lode = { s.lode with ec := ec } := rfl

/-- A re-alignment within 5 ns: e_c and the interrupt. -/
def realigned (fine : Nat) (theta : Option Int) (s : State) : State :=
  irqRaise 2 7 (recordEc (coarseError s theta).1 (reloaded fine theta s))

/-- A re-alignment beyond 5 ns: the count, the interrupt and the fault. -/
def realignFailed (fine : Nat) (theta : Option Int) (s : State) : State :=
  faultEvent 18 1 0 (irqRaise 2 8 (rfBump 0x00200060 31 16 1 (reloaded fine theta s)))

theorem realigned_lode (fine : Nat) (theta : Option Int) (s : State) :
    (realigned fine theta s).lode = { reloadedLode theta s with ec := (coarseError s theta).1 } := by
  rw [realigned, (irqRaise_onlyReports ..).lode, recordEc_lode, reloaded_lode]

theorem realigned_clk (fine : Nat) (theta : Option Int) (s : State) :
    (realigned fine theta s).clk = (loadFromCoarse fine s).clk := by
  rw [realigned, (irqRaise_onlyReports ..).clk, recordEc_clk, reloaded_clk]

theorem realignFailed_lode (fine : Nat) (theta : Option Int) (s : State) :
    (realignFailed fine theta s).lode = reloadedLode theta s := by
  rw [realignFailed, (faultEvent_onlyReports ..).lode, (irqRaise_onlyReports ..).lode, rfBump_lode, reloaded_lode]

theorem realignFailed_clk (fine : Nat) (theta : Option Int) (s : State) :
    (realignFailed fine theta s).clk = (loadFromCoarse fine s).clk := by
  rw [realignFailed, (faultEvent_onlyReports ..).clk, (irqRaise_onlyReports ..).clk, rfBump_clk, reloaded_clk]

/-- Within 5 ns a Lode in LOCKED or PULL takes the flywheel's difference. -/
theorem lodeRealign_pulls {theta : Option Int} {s : State} (near : (coarseError s theta).1 ≤ realignLimit)
    (steers : Steers s.lode.state) {d : Int} (diff : (coarseError s theta).2 = some d)
    (fine : Nat) : lodeRealign fine theta s = startPull d (realigned fine theta s) := by
  unfold lodeRealign
  simp only [near, steers, diff, if_true]
  rfl

/-- Within 5 ns a Lode in another state, or without such a difference, keeps its state. -/
theorem lodeRealign_keeps {theta : Option Int} {s : State} (near : (coarseError s theta).1 ≤ realignLimit)
    (still : Steers s.lode.state → (coarseError s theta).2 = none) (fine : Nat) :
    lodeRealign fine theta s = tallyRefresh (realigned fine theta s) := by
  unfold lodeRealign
  by_cases steers : Steers s.lode.state
  · simp only [near, steers, still steers, if_true]
    rfl
  · simp only [near, steers, if_true, if_false]
    rfl

/-- Beyond 5 ns a Lode in LOCKED, PULL or HOLDOVER starts over. -/
theorem lodeRealign_restarts {theta : Option Int} {s : State} (far : realignLimit < (coarseError s theta).1)
    (served : Serves s.lode.state) (fine : Nat) :
    lodeRealign fine theta s = enterAcquire (enterInvalid (realignFailed fine theta s)) := by
  unfold lodeRealign
  simp only [Nat.not_le.2 far, served, if_true, if_false]
  rfl

/-- Beyond 5 ns a Lode in another state keeps it. -/
theorem lodeRealign_fails {theta : Option Int} {s : State} (far : realignLimit < (coarseError s theta).1)
    (idle : ¬ Serves s.lode.state) (fine : Nat) :
    lodeRealign fine theta s = tallyRefresh (realignFailed fine theta s) := by
  unfold lodeRealign
  simp only [Nat.not_le.2 far, idle, if_false]
  rfl

/-- What the decision leaves: the clock as it is loaded, and the Lode after one of its four outcomes. -/
theorem lodeRealign_cases (fine : Nat) (theta : Option Int) (s : State) :
    let e := coarseError s theta
    let l := reloadedLode theta s
    let t := lodeRealign fine theta s
    t.clk = (loadFromCoarse fine s).clk ∧
    ((e.1 ≤ realignLimit ∧ Steers s.lode.state ∧ ∃ d w, e.2 = some d ∧ t.lode = { l with
        ec := e.1, pullFrom := satSigned 64 d, pullTick := s.clk.ticks, pullOn := true, rFrozen := 0
        state := .pull, was := w }) ∨
     (e.1 ≤ realignLimit ∧ (Steers s.lode.state → e.2 = none) ∧
       t.lode = { l with ec := e.1 }) ∨
     (realignLimit < e.1 ∧ Serves s.lode.state ∧
       ∃ w, t.lode = { l with
         svc := false, settleTick := none, pullOn := false, rFrozen := 0, state := .acquire, was := w }) ∨
     (realignLimit < e.1 ∧ ¬ Serves s.lode.state ∧ t.lode = l)) := by
  intro e l t
  have keeps : ∀ u : State, (tallyRefresh u).clk = u.clk ∧ (tallyRefresh u).lode = u.lode := fun u =>
    ⟨(tallyRefresh_onlyTally u).clk, (tallyRefresh_onlyTally u).lode⟩
  rcases Nat.lt_or_ge realignLimit e.1 with far | near
  · by_cases served : Serves s.lode.state
    · have eq : t = _ := lodeRealign_restarts far served fine
      rw [eq, (enterAcquire_onlyLode _).clk, (enterInvalid_onlyLode _).clk, realignFailed_clk, enterAcquire_lode,
        enterInvalid_lode, realignFailed_lode]
      exact ⟨rfl, .inr (.inr (.inl ⟨far, served, _, rfl⟩))⟩
    · have eq : t = _ := lodeRealign_fails far served fine
      rw [eq, (keeps _).1, (keeps _).2, realignFailed_clk, realignFailed_lode]
      exact ⟨rfl, .inr (.inr (.inr ⟨far, served, rfl⟩))⟩
  · by_cases still : Steers s.lode.state → e.2 = none
    · have eq : t = _ := lodeRealign_keeps near still fine
      rw [eq, (keeps _).1, (keeps _).2, realigned_clk, realigned_lode]
      exact ⟨rfl, .inr (.inl ⟨near, still, rfl⟩)⟩
    · obtain ⟨steers, given⟩ := Classical.not_imp.1 still
      obtain ⟨d, diff⟩ := Option.ne_none_iff_exists'.1 given
      have eq : t = _ := lodeRealign_pulls near steers diff fine
      rw [eq, (startPull_onlyLode ..).clk, startPull_lode, realigned_clk, realigned_lode]
      exact ⟨rfl, .inl ⟨near, steers, d, _, diff, rfl⟩⟩

/-! ### LO absence and return (R75) -/

/-- An LO absence takes the LO and its lock, the seeding of Lode time, the LO samples with the ageing model, and the
settling. -/
def loseLo (s : State) : State :=
  { gatesInvalid (markTime s) with lode := { s.lode with
      loOk := false, tbpllLock := false, coarse := true, seeded := false, ageValid := false
      coarseStart := if s.lode.coarse then s.lode.coarseStart else s.clk.ticks
      coarseTick := if s.lode.coarse then s.lode.coarseTick else s.clk.ticks
      loOld := loPutAside s, loSamples := [], ageRate := 0, ageSlope := (0, 1), fitC := 0, fitN := 0
      settleTick := none, realignErr := 0xFFFFFFFF } }

/-- Daylight's pending time of day is gone. -/
def forgetTod (s : State) : State := { s with dayl := { s.dayl with tod := none } }

theorem forgetTod_clk (s : State) : (forgetTod s).clk = s.clk := rfl
theorem forgetTod_lode (s : State) : (forgetTod s).lode = s.lode := rfl

/-- The absence is counted and reported. -/
def reportLoAbsence (s : State) : State :=
  canaryUpdate (faultEvent 17 1 0
    (forgetTod (irqRaise 2 9 (rfBump 0x00200060 31 16 1 (rfBump 0x00200060 15 0 1 s)))))

theorem reportLoAbsence_clk (s : State) : (reportLoAbsence s).clk = s.clk := by
  rw [reportLoAbsence, (canaryUpdate_onlyReports _).clk, (faultEvent_onlyReports ..).clk, forgetTod_clk,
    (irqRaise_onlyReports ..).clk, rfBump_clk, rfBump_clk]

theorem reportLoAbsence_lode (s : State) : (reportLoAbsence s).lode = s.lode := by
  rw [reportLoAbsence, (canaryUpdate_onlyReports _).lode, (faultEvent_onlyReports ..).lode, forgetTod_lode,
    (irqRaise_onlyReports ..).lode, rfBump_lode, rfBump_lode]

/-- A Lode in LOCKED, PULL or HOLDOVER then enters INVALID. -/
theorem lodeLoAbsent_served {s : State} (served : Serves s.lode.state) :
    lodeLoAbsent s = enterInvalid (reportLoAbsence (loseLo s)) := by
  unfold lodeLoAbsent
  rcases served with h | h | h <;> rw [h] <;> rfl

/-- Another Lode keeps its state. -/
theorem lodeLoAbsent_idle {s : State} (idle : ¬ Serves s.lode.state) :
    lodeLoAbsent s = tallyRefresh (bumpEpoch (reportLoAbsence (loseLo s))) := by
  simp only [not_or] at idle
  obtain ⟨locked, pull, holdover⟩ := idle
  unfold lodeLoAbsent
  cases h : s.lode.state with
  | free => rfl
  | acquire => rfl
  | invalid => rfl
  | locked => exact absurd h locked
  | pull => exact absurd h pull
  | holdover => exact absurd h holdover

/-- What an LO absence leaves of the Lode. -/
theorem lodeLoAbsent_lode (s : State) : let l := (lodeLoAbsent s).lode
    l.loOk = false ∧ l.tbpllLock = false ∧ l.seeded = false ∧ l.ageValid = false ∧
    (Serves s.lode.state → l.state = .invalid ∧ l.svc = false) ∧
    (¬ Serves s.lode.state → l.state = s.lode.state ∧ l.svc = s.lode.svc) := by
  by_cases served : Serves s.lode.state
  · rw [lodeLoAbsent_served served, enterInvalid_lode, reportLoAbsence_lode]
    exact ⟨rfl, rfl, rfl, rfl, fun _ => ⟨rfl, rfl⟩, fun idle => absurd served idle⟩
  · rw [lodeLoAbsent_idle served, (tallyRefresh_onlyTally _).lode, (bumpEpoch_onlyTally _).lode, reportLoAbsence_lode]
    exact ⟨rfl, rfl, rfl, rfl, fun h => absurd h served, fun _ => ⟨rfl, rfl⟩⟩

/-- The clock is not touched. -/
theorem lodeLoAbsent_clk (s : State) : (lodeLoAbsent s).clk = s.clk := by
  by_cases served : Serves s.lode.state
  · rw [lodeLoAbsent_served served, (enterInvalid_onlyLode _).clk, reportLoAbsence_clk]
    rfl
  · rw [lodeLoAbsent_idle served, (tallyRefresh_onlyTally _).clk, (bumpEpoch_onlyTally _).clk, reportLoAbsence_clk]
    rfl

/-- The end of the causes of an LO absence and of COARSE is all that the collector learns of the LO's return. -/
theorem loReturnReports_onlyReports (s : State) : OnlyReports s (canaryUpdate (heldEnd 16 1 (heldEnd 17 1 s))) :=
  ((heldEnd_onlyReports ..).trans (heldEnd_onlyReports ..)).trans (canaryUpdate_onlyReports _)

/-- The LO and its lock are back and COARSE is clear, before the Lode's state follows. -/
theorem lodeLoReturn_marks (s : State) : ∃ u v, OnlyReports u v ∧
    lodeLoReturn s = (if v.lode.state = .invalid then enterAcquire v else tallyRefresh v) ∧
    u.clk.tc = s.clk.tc ∧ u.surv = s.surv ∧ u.lode.loOk = true ∧ u.lode.tbpllLock = true ∧ u.lode.coarse = false ∧
    u.lode.state = s.lode.state :=
  ⟨_, _, loReturnReports_onlyReports _, rfl, rfl, rfl, rfl, rfl, rfl, rfl⟩

/-- The LO's return restores the LO and its lock and clears COARSE; a Lode in INVALID enters ACQUIRE, another keeps its
state, and the time counter goes on from where it stopped. -/
theorem lodeLoReturn_restores (s : State) :
    (lodeLoReturn s).clk.tc = s.clk.tc ∧ (lodeLoReturn s).surv = s.surv ∧ (lodeLoReturn s).lode.loOk = true ∧
    (lodeLoReturn s).lode.tbpllLock = true ∧ (lodeLoReturn s).lode.coarse = false ∧
    (lodeLoReturn s).lode.state = if s.lode.state = .invalid then .acquire else s.lode.state := by
  obtain ⟨u, v, reports, eq, tc, surv, lo, lock, coarse, state⟩ := lodeLoReturn_marks s
  rw [eq, reports.lode, state]
  split
  · rw [(enterAcquire_onlyLode _).clk, (enterAcquire_onlyLode _).surv, enterAcquire_lode, reports.clk, reports.surv,
      reports.lode]
    exact ⟨tc, surv, lo, lock, coarse, rfl⟩
  · rw [(tallyRefresh_onlyTally _).clk, (tallyRefresh_onlyTally _).surv, (tallyRefresh_onlyTally _).lode, reports.clk,
      reports.surv, reports.lode]
    exact ⟨tc, surv, lo, lock, coarse, state⟩

/-- A Lode in FREE with STRUCTURE applied enters ACQUIRE on the calibrated increment (R62, R444). -/
def leaveFree (s : State) : State :=
  if s.lode.state = .free ∧ s.surv.structureApplied then enterAcquire (calibrate s) else s

theorem leaveFree_keeps (s : State) :
    (leaveFree s).clk.tc = s.clk.tc ∧ (leaveFree s).lode.loOk = s.lode.loOk ∧
    (leaveFree s).lode.tbpllLock = s.lode.tbpllLock ∧ (leaveFree s).lode.coarse = s.lode.coarse := by
  unfold leaveFree
  split
  · rw [(enterAcquire_onlyLode _).clk, enterAcquire_lode]
    exact ⟨rfl, rfl, rfl, rfl⟩
  · exact ⟨rfl, rfl, rfl, rfl⟩

theorem leaveFree_state (s : State) : (leaveFree s).lode.state =
    if s.lode.state = .free ∧ s.surv.structureApplied = true then .acquire else s.lode.state := by
  unfold leaveFree
  split
  · rw [enterAcquire_lode]
  · rfl

end Sys2Proof.Machine
end

section
/-! PROOFS. O3: the timers that end a state of the Lode, and the first TBPLL lock. -/

namespace Sys2Proof.Machine

open Safety

/-- A transition and what the Tally reports of it. -/
theorem lodeGo_refreshed (d : LodeState) (s : State) :
    (tallyRefresh (lodeGo d s)).lode = { s.lode with state := d, was := lodeLog s } ∧
    OnlyLode s (tallyRefresh (lodeGo d s)) := by
  have reports := tallyRefresh_onlyTally (lodeGo d s)
  exact ⟨reports.lode.trans (lodeGo_lode d s), (lodeGo_onlyLode d s).trans reports.lode'⟩

theorem mayLock_of {s : State} (seeded : s.lode.seeded = true) (fine : s.lode.coarse = false) (lo : s.lode.loOk = true)
    (ref : (refSt s s.assay.selRef).q ≠ .holdoff) : mayLock s = true := by
  simp [mayLock, seeded, fine, lo, ref]

theorem mayLock_eq_false {s : State} (bar : s.lode.seeded = false ∨ s.lode.coarse = true ∨ s.lode.loOk = false ∨
    (refSt s s.assay.selRef).q = .holdoff) : mayLock s = false := by
  rcases bar with h | h | h | h <;> simp [mayLock, h]

theorem exec_lockSettleExpiry {s : State} {t0 : Nat} (acquire : s.lode.state = .acquire)
    (settles : s.lode.settleTick = some t0) (may : mayLock s = true) :
    exec .lockSettleExpiry s =
      .next (tallyRefresh (lodeGo .locked (elapseTo (t0 + s.lode.lim.lockSettle * ticksPerSec) s))) := by
  show execLockSettleExpiry s = _
  simp [execLockSettleExpiry, acquire, settles, may]

theorem exec_lockSettleExpiry_barred {s : State} (may : mayLock s = false) : exec .lockSettleExpiry s = .next s := by
  show execLockSettleExpiry s = _
  unfold execLockSettleExpiry
  cases s.lode.state <;> simp [may]

theorem exec_pullEnd {s : State} (pull : s.lode.state = .pull) (on : s.lode.pullOn = true) :
    let u := elapseTo (pullDue s) s
    exec .pullEnd s =
      .next (tallyRefresh (irqRaise 2 3 (lodeGo .locked { u with lode := { u.lode with pullOn := false, rFrozen := 0 } }))) :=
  if_pos ⟨pull, on⟩

/-- At its end a pull leaves no offset, and the Lode is LOCKED. -/
theorem pull_ends (u : State) :
    let t := tallyRefresh (irqRaise 2 3 (lodeGo .locked { u with lode := { u.lode with pullOn := false, rFrozen := 0 } }))
    t.lode = { u.lode with state := .locked, was := lodeLog u, pullOn := false, rFrozen := 0 } ∧ OnlyLode u t := by
  intro t
  have reports := (irqRaise_onlyReports 2 3
    (lodeGo .locked { u with lode := { u.lode with pullOn := false, rFrozen := 0 } })).tally'.trans (tallyRefresh_onlyTally _)
  refine ⟨?_, ((OnlyLode.upd ..).trans (lodeGo_onlyLode ..)).trans reports.lode'⟩
  rw [reports.lode, lodeGo_lode]
  rfl

theorem exec_holdoverMaxExpiry {s : State} (holdover : s.lode.state = .holdover) (limited : s.lode.lim.holdMax ≠ 0) :
    exec .holdoverMaxExpiry s = .next (faultEvent 20 1 0 (enterInvalid
      (elapseTo (s.lode.goodTick.getD s.clk.ticks + s.lode.lim.holdMax * ticksPerSec) s))) :=
  if_pos ⟨holdover, limited⟩

/-- The first lock, whether the outputs start with it or not. -/
theorem exec_tbpllInitialLock (s : State) :
    ∃ t, exec .tbpllInitialLock s = .next t ∧ OnlyOuts (lodeFirstLock (oscStop s)) t :=
  ⟨_, rfl, ite_onlyOuts (outsStart_onlyOuts _) (OnlyOuts.refl _)⟩

/-- Settles O3: each timer by the equation of its command; time passes to its end, and the Lode then makes one transition. -/
theorem lodeTimersEndTheirStates : Obligations.LodeTimersEndTheirStates := by
  unfold Obligations.LodeTimersEndTheirStates
  refine ⟨?settle, ?barred, ?pullEnd, ?holdMax, ?firstLock⟩
  case settle =>
    intro s t0 acquire settles seeded fine lo ref
    obtain ⟨lode, frame⟩ := lodeGo_refreshed .locked (elapseTo (t0 + s.lode.lim.lockSettle * ticksPerSec) s)
    rw [(elapseTo_onlyTime ..).lode] at lode
    exact ⟨_, _, rfl, exec_lockSettleExpiry acquire settles (mayLock_of seeded fine lo ref), lode, frame⟩
  case barred => exact fun s bar => exec_lockSettleExpiry_barred (mayLock_eq_false bar)
  case pullEnd =>
    intro s pull on
    obtain ⟨lode, frame⟩ := pull_ends (elapseTo (pullDue s) s)
    refine ⟨_, _, rfl, exec_pullEnd pull on, lode.trans ?_, frame⟩
    rw [(elapseTo_onlyTime ..).lode]
  case holdMax =>
    intro s holdover limited
    refine ⟨_, _, rfl, exec_holdoverMaxExpiry holdover limited, ?_, ?_⟩
    · rw [(faultEvent_onlyReports ..).lode, enterInvalid_lode, (elapseTo_onlyTime ..).lode]
    · exact (enterInvalid_onlyLode _).trans (faultEvent_onlyReports ..).tally'.lode'
  case firstLock =>
    intro s free applied
    obtain ⟨t, run, outs⟩ := exec_tbpllInitialLock s
    have reports := oscStop_onlyReports s
    have free' : (oscStop s).lode.state = .free := by rw [reports.lode, free]
    have applied' : (oscStop s).surv.structureApplied = true := by rw [reports.surv, applied]
    obtain ⟨clk, w, lode⟩ := lodeFirstLock_acquires free' applied'
    rw [reports.clk, incCal, reports.cfg, ← incCal] at clk
    rw [reports.lode] at lode
    refine ⟨t, run, ?_⟩
    rw [outs.lode, outs.clk, lode, clk]
    exact ⟨rfl, rfl, rfl, rfl, rfl⟩

end Sys2Proof.Machine
end

section
/-! PROOFS. O4: TBPLL lock loss, relock and the re-alignment decision. -/

namespace Sys2Proof.Machine

open Safety

theorem exec_tbpllLockLoss {s : State} (locked : s.lode.tbpllLock = true) :
    exec .tbpllLockLoss s = .next (lodeLockLoss (outsLockLoss s)) := by
  show execTbpllLockLoss s = _
  simp [execTbpllLockLoss, locked]

theorem exec_tbpllRelock_keeps {s : State} (lo : s.lode.loOk = true)
    (away : s.lode.state ≠ .free ∨ s.surv.structureApplied = false) :
    exec .tbpllRelock s = .next { s with lode := { s.lode with tbpllLock := true } } := by
  show execTbpllRelock s = _
  rcases away with h | h <;> simp [execTbpllRelock, lo, h]

theorem exec_tbpllRelock_acquires {s : State} (lo : s.lode.loOk = true) (free : s.lode.state = .free)
    (applied : s.surv.structureApplied = true) :
    exec .tbpllRelock s = .next (enterAcquire { s with lode := { s.lode with tbpllLock := true } }) := by
  show execTbpllRelock s = _
  simp [execTbpllRelock, lo, free, applied]

/-- The outputs follow the decision, whatever it was. -/
theorem exec_realignDecision {s : State} (coarse : s.lode.coarse = true) (locked : s.lode.tbpllLock = true)
    (lo : s.lode.loOk = true) (fine : Nat) (theta : Option Int) :
    ∃ t, exec (.realignDecision fine theta) s = .next t ∧ OnlyOuts (lodeRealign fine theta s) t :=
  ⟨_, if_pos (by simp [coarse, locked, lo]), ite_onlyOuts (outsRealigned_onlyOuts _) (outsRelease_onlyOuts _)⟩

/-- Settles O4: the lock loss and the relock by what they mark, the decision by its four outcomes. -/
theorem tbpllLossAndRealignment : Obligations.TbpllLossAndRealignment := by
  unfold Obligations.TbpllLossAndRealignment
  refine ⟨?loss, fun s => exec_tbpllRelock_keeps, ?relock, ?decision⟩
  case loss =>
    intro s locked
    obtain ⟨coarse, lock, age, samples, state, svc⟩ := lodeLockLoss_lode (outsLockLoss s)
    obtain ⟨clk, prt, gals, picks, cfg⟩ := lodeLockLoss_keeps (outsLockLoss s)
    have outs := outsLockLoss_onlyOuts s
    rw [outs.lode] at state svc
    exact ⟨_, exec_tbpllLockLoss locked, coarse, lock, age, samples, state, svc, clk.trans outs.clk, prt.trans outs.prt,
      gals.trans outs.gals, picks.trans outs.picks, cfg.trans outs.cfg⟩
  case relock =>
    intro s lo free applied
    refine ⟨_, exec_tbpllRelock_acquires lo free applied, ?_⟩
    rw [enterAcquire_lode, (enterAcquire_onlyLode _).clk]
    exact ⟨rfl, rfl, rfl, rfl⟩
  case decision =>
    intro fine theta s coarse locked lo
    obtain ⟨t, run, outs⟩ := exec_realignDecision coarse locked lo fine theta
    refine ⟨t, run, ?_⟩
    obtain ⟨clk, outcome⟩ := lodeRealign_cases fine theta s
    rw [outs.lode, outs.clk, clk]
    have limit : realignLimit = 327680 := rfl
    rcases outcome with ⟨near, steers, d, w, diff, lode⟩ | ⟨near, still, lode⟩ | ⟨far, served, w, lode⟩ |
        ⟨far, idle, lode⟩
    · rw [lode]
      refine ⟨rfl, rfl, rfl, rfl, fun _ => by omega, fun _ =>
        ⟨rfl, rfl, fun other => ?_, fun _ => ⟨fun d' h => ?_, fun h => ?_⟩⟩⟩
      · rcases steers with h | h <;> simp [h] at other
      · obtain rfl : d = d' := Option.some.inj (diff.symm.trans h)
        exact ⟨rfl, rfl⟩
      · exact absurd (diff.symm.trans h) (Option.some_ne_none d)
    · rw [lode]
      refine ⟨rfl, rfl, rfl, rfl, fun _ => by omega, fun _ =>
        ⟨rfl, rfl, fun _ => rfl, fun steers => ⟨fun d h => ?_, fun _ => rfl⟩⟩⟩
      exact absurd (h.symm.trans (still steers)) (Option.some_ne_none d)
    · rw [lode]
      refine ⟨rfl, rfl, rfl, rfl, fun _ => ⟨fun _ => ⟨rfl, rfl⟩, fun other => ?_⟩, fun _ => by omega⟩
      rcases served with h | h | h <;> simp [h] at other
    · rw [lode]
      exact ⟨rfl, rfl, rfl, rfl, fun _ => ⟨fun h => absurd h idle, fun _ => ⟨rfl, rfl⟩⟩, fun _ => by omega⟩

end Sys2Proof.Machine
end

section
/-! PROOFS. O5: LO absence, the LO's return and the reload of the coarse backup counter. -/

namespace Sys2Proof.Machine

open Safety

theorem exec_loAbsenceDetected {s : State} (fresh : (srcSt s 17).held.contains 1 = false) :
    exec .loAbsenceDetected s = .next (outsLoAbsent (lodeLoAbsent (outsHold (oscStart s)))) := by
  show execLoAbsenceDetected s = _
  rw [execLoAbsenceDetected, fresh]
  rfl

theorem exec_loReturn {s : State} (absent : s.lode.loOk = false) :
    exec .loReturn s = .next (outsStart (outsRelease (leaveFree (lodeLoReturn (oscStop s))))) := by
  show execLoReturn s = _
  rw [execLoReturn, absent]
  rfl

theorem exec_coarseReload {s : State} (locked : s.lode.tbpllLock = true) (fine : s.lode.coarse = false) :
    exec .coarseReload s = .next (let u := elapseTo (nextMultiple ticksPerMs s) s
      { u with clk := { u.clk with coarse := u.clk.tc * 16, coarseRem := 0 } }) := by
  have lode := (elapseTo_onlyTime (nextMultiple ticksPerMs s) s).lode
  show execCoarseReload s = _
  simp [execCoarseReload, lode, locked, fine]

/-- Settles O5: each command by its equation; the outputs, which stop, start or hold with it, leave the clock and the Lode. -/
theorem loAbsenceAndReturn : Obligations.LoAbsenceAndReturn := by
  unfold Obligations.LoAbsenceAndReturn
  refine ⟨?absence, ?comeback, ?reload⟩
  case absence =>
    intro s fresh
    have before : OnlyOuts s (outsHold (oscStart s)) :=
      (OnlyOuts.ofReports (oscStart_onlyReports s)).trans (outsHold_onlyOuts _)
    have after := outsLoAbsent_onlyOuts (lodeLoAbsent (outsHold (oscStart s)))
    obtain ⟨lo, lock, seeded, age, served, idle⟩ := lodeLoAbsent_lode (outsHold (oscStart s))
    rw [before.lode] at served idle
    refine ⟨_, exec_loAbsenceDetected fresh, ?_⟩
    rw [after.lode, after.clk, lodeLoAbsent_clk, before.clk]
    exact ⟨lo, lock, seeded, age, rfl, served, fun h => idle (by rcases h with h | h <;> simp [h])⟩
  case comeback =>
    intro s absent
    have after := (outsRelease_onlyOuts (leaveFree (lodeLoReturn (oscStop s)))).trans (outsStart_onlyOuts _)
    have before := oscStop_onlyReports s
    obtain ⟨tc, surv, lo, lock, coarse, state⟩ := lodeLoReturn_restores (oscStop s)
    obtain ⟨tc', lo', lock', coarse'⟩ := leaveFree_keeps (lodeLoReturn (oscStop s))
    rw [before.clk] at tc
    rw [before.surv] at surv
    rw [before.lode] at state
    refine ⟨_, exec_loReturn absent, ?_⟩
    rw [after.lode, after.clk, lo', lock', coarse', tc', leaveFree_state, state, surv]
    exact ⟨lo, lock, coarse, tc, fun invalid => by simp [invalid], fun free applied => by simp [free, applied]⟩
  case reload =>
    intro s locked fine
    exact ⟨_, exec_coarseReload locked fine, rfl, rfl, rfl, (elapseTo_onlyTime ..).lode⟩

end Sys2Proof.Machine
end

section
/-! SUPPORT. One Dial channel at a time: what each shared operation leaves in it, and what it may change beside (R104, R105, R110 to R112). -/

namespace Sys2Proof.Safety

open Machine

theorem OnlyTally.dialCh {s t : State} (a : OnlyTally s t) (n : Nat) : dialCh t n = dialCh s n := by
  rw [a]
  rfl

/-- A channel's update and its reports. -/
theorem OnlyReports.ofDialMod {n : Nat} {f : DialChSt → DialChSt} {s t : State} (a : OnlyReports (dialMod n f s) t) :
    OnlyReports { s with dial := t.dial } t := by
  rw [a.dial]
  exact a

/-! A channel's settings are registers and STRUCTURE: time does not change them. -/

theorem OnlyTime.dialTb {s t : State} (a : OnlyTime s t) (n : Nat) : dialTb t n = dialTb s n := by
  rw [a]
  rfl

theorem OnlyTime.dialCfg {s t : State} (a : OnlyTime s t) (n : Nat) : dialCfg t n = dialCfg s n := by
  rw [a]
  rfl

theorem OnlyTime.gateFreq {s t : State} (a : OnlyTime s t) (n : Nat) (g : DialGate) : gateFreq t n g = gateFreq s n g := by
  rw [a]
  rfl

theorem OnlyTime.dialCh {s t : State} (a : OnlyTime s t) (n : Nat) : dialCh t n = dialCh s n := by
  rw [a]
  rfl

end Sys2Proof.Safety

namespace Sys2Proof.Machine

open Safety

@[simp] theorem dialCh_dialMod_same (n : Nat) (f : DialChSt → DialChSt) (s : State) :
    dialCh (dialMod n f s) n = f (dialCh s n) := sget_smod_same ..

theorem dialCh_dialMod_ne {m n : Nat} (h : m ≠ n) (f : DialChSt → DialChSt) (s : State) :
    dialCh (dialMod n f s) m = dialCh s m := sget_smod_ne _ h f

/-- Channel `n` comes to be `c`; beside it only the Tally and what is reported may differ. -/
structure ChannelBecomes (n : Nat) (c : DialChSt) (s t : State) : Prop where
  frame : OnlyTally { s with dial := t.dial } t
  here : dialCh t n = c
  others : ∀ m, m ≠ n → dialCh t m = dialCh s m

theorem ChannelBecomes.clk {n : Nat} {c : DialChSt} {s t : State} (a : ChannelBecomes n c s t) : t.clk = s.clk := a.frame.clk
theorem ChannelBecomes.lode {n : Nat} {c : DialChSt} {s t : State} (a : ChannelBecomes n c s t) : t.lode = s.lode :=
  a.frame.lode

theorem ChannelBecomes.dialMod (n : Nat) (f : DialChSt → DialChSt) (s : State) :
    ChannelBecomes n (f (dialCh s n)) s (dialMod n f s) :=
  ⟨rfl, dialCh_dialMod_same n f s, fun _ h => dialCh_dialMod_ne h f s⟩

/-- What does not touch the Dial does not touch the channel. -/
theorem ChannelBecomes.ofTally (n : Nat) {s t : State} (a : OnlyTally s t) : ChannelBecomes n (dialCh s n) s t :=
  ⟨by rw [a.dial]; exact a, a.dialCh n, fun m _ => a.dialCh m⟩

theorem ChannelBecomes.trans {n : Nat} {c d : DialChSt} {s t u : State} (a : ChannelBecomes n c s t)
    (b : ChannelBecomes n d t u) : ChannelBecomes n d s u where
  frame := by
    have first := a.frame
    have second := b.frame
    unfold OnlyTally at *
    rw [second, first]
  here := b.here
  others m h := (b.others m h).trans (a.others m h)

/-- A change of the channel, then what does not touch the Dial. -/
theorem ChannelBecomes.ofDialMod {n : Nat} {f : DialChSt → DialChSt} {s t : State} (a : OnlyTally (Machine.dialMod n f s) t) :
    ChannelBecomes n (f (dialCh s n)) s t := by
  have after := ChannelBecomes.ofTally n a
  rw [dialCh_dialMod_same] at after
  exact (ChannelBecomes.dialMod n f s).trans after

/-! ### The excess (R112) -/

theorem setExcess_becomes (n e : Nat) (s : State) :
    ChannelBecomes n { dialCh s n with excess := e } s (setExcess n e s) := by
  let u := dialMod n (fun c => { c with excess := e }) s
  have takes : OnlyTally u (if (dialCfg s n).role = 1
      then { u with tally := { u.tally with excess := sput 0 u.tally.excess n (ceilDiv e 1000) } } else u) :=
    ite_onlyTally rfl (OnlyTally.refl u)
  have reports := takes.trans (ite_onlyTally (c := (dialCh s n).excess < e)
    ((irqRaise_onlyReports 4 1 _).trans (faultEvent_onlyReports (80 + n) 2 0 _)).tally' (OnlyTally.refl _))
  refine .ofDialMod (f := fun c => { c with excess := e }) (OnlyTally.trans ?_ (tallyRefresh_onlyTally _))
  exact reports.trans (ite_onlyTally (bumpEpoch_onlyTally _) (OnlyTally.refl _))

/-- The excess after a complete check that gives `e`: a higher one at once, a lower one after three checks. -/
def judgedExcess (was e : Nat) (three : List Nat) : Nat :=
  if was < e then e else if three.length = 3 ∧ maxNat three < was then maxNat three else was

theorem judgedExcess_nil (was e : Nat) : judgedExcess was e [] = max was e := by
  rw [judgedExcess, if_neg (fun h : ([] : List Nat).length = 3 ∧ _ => absurd h.1 (by decide))]
  split <;> omega

theorem judgeExcess_becomes (n e : Nat) (three : List Nat) (s : State) :
    ChannelBecomes n { dialCh s n with excess := judgedExcess (dialCh s n).excess e three } s (judgeExcess n e three s) := by
  dsimp only [judgeExcess, judgedExcess]
  split
  · exact setExcess_becomes n e s
  · split
    · exact setExcess_becomes n (maxNat three) s
    · exact .ofTally n (OnlyTally.refl s)

theorem roundDone_onlyReports (s : State) : OnlyReports s (roundDone s) :=
  ite_onlyReports (irqRaise_onlyReports 4 0 s) (OnlyReports.refl s)

/-! ### A line's complete check (R110) -/

/-- The channel with the drift `d` of a line that was checked completely at tick `now`. -/
def lineChecked (line1 : Bool) (d now : Nat) (c : DialChSt) : DialChSt :=
  if line1 then { c with drift1 := d, check1 := now, stale1 := false, done1 := true }
  else { c with drift0 := d, check0 := now, stale0 := false, done0 := true }

/-- The channel once its check has ended. -/
def checkEnded (c : DialChSt) : DialChSt := { c with checking := none, done0 := false, done1 := false }

/-- The excess that a line's drift `d` gives beside the other line's drift and staleness. -/
def lineExcess (line1 : Bool) (d : Nat) (c : DialChSt) : Nat :=
  let w := max d (if line1 then c.drift0 else c.drift1)
  max (if (if line1 then c.stale0 else c.stale1) then 688128 else 0) (if 196608 < w then w + 32768 else 0)

/-- Staleness as a floor under the excess that the drifts give. -/
theorem excessOf_eq (c : DialChSt) : excessOf c = max (if c.stale0 || c.stale1 then 688128 else 0)
    (if 196608 < max c.drift0 c.drift1 then max c.drift0 c.drift1 + 32768 else 0) := by
  unfold excessOf ps3 psHalf ps10half
  dsimp only
  cases c.stale0 || c.stale1 with
  | true => rw [if_pos rfl, if_pos rfl]
  | false => rw [if_neg Bool.false_ne_true, if_neg Bool.false_ne_true, Nat.zero_max]

theorem excessOf_checkEnded (c : DialChSt) : excessOf (checkEnded c) = excessOf c := rfl

theorem excessOf_lineChecked (line1 : Bool) (d now : Nat) (c : DialChSt) :
    excessOf (lineChecked line1 d now c) = lineExcess line1 d c := by
  cases line1 with
  | true =>
    rw [excessOf_eq, lineExcess]
    simp only [lineChecked, if_true, Bool.or_false, Nat.max_comm d]
  | false =>
    rw [excessOf_eq, lineExcess]
    simp only [lineChecked, Bool.false_eq_true, if_false, Bool.false_or]

theorem lineChecked_keeps (line1 : Bool) (d now : Nat) (c : DialChSt) : let x := lineChecked line1 d now c
    x.checking = c.checking ∧ x.lastThree = c.lastThree ∧ x.excess = c.excess := by
  unfold lineChecked
  cases line1 <;> exact ⟨rfl, rfl, rfl⟩

theorem lineChecked_marks (line1 : Bool) (d now : Nat) (c : DialChSt) : let x := lineChecked line1 d now c
    if line1 then x.drift1 = d ∧ x.stale1 = false ∧ x.check1 = now
    else x.drift0 = d ∧ x.stale0 = false ∧ x.check0 = now := by
  unfold lineChecked
  cases line1 <;> exact ⟨rfl, rfl, rfl⟩

/-- Where the channel's other line is complete, the check of the channel ends and its excess is judged. -/
theorem checkComplete_second {n : Nat} {line1 : Bool} {s : State}
    (second : (if line1 then (dialCh s n).done0 else (dialCh s n).done1) = true) (mu : List Int) :
    let c := dialCh s n
    let d := lineDrift s.cfg.str.loMHz mu
    let e := lineExcess line1 d c
    let three := (e :: c.lastThree).take 3
    ChannelBecomes n { checkEnded (lineChecked line1 d s.clk.ticks c) with
      lastThree := three, excess := judgedExcess c.excess e three } s (checkComplete n line1 mu s) := by
  intro c d e three
  let u := dialMod n (fun c => checkEnded (lineChecked line1 d s.clk.ticks c)) s
  have here : dialCh u n = checkEnded (lineChecked line1 d s.clk.ticks c) := dialCh_dialMod_same ..
  obtain ⟨-, lastThree, excess⟩ := lineChecked_keeps line1 d s.clk.ticks c
  have gives : excessOf (dialCh u n) = e := by rw [here, excessOf_checkEnded, excessOf_lineChecked]
  have counts : (excessOf (dialCh u n) :: (dialCh u n).lastThree).take 3 = three := by
    rw [gives, here, checkEnded, lastThree]
  let v := dialMod n (fun c => { c with lastThree := three }) u
  have eq : checkComplete n line1 mu s = judgeExcess n e three (roundDone v) := by
    show _ = judgeExcess n e three (roundDone (dialMod n (fun c => { c with lastThree := three }) u))
    rw [← counts, ← gives]
    simp only [checkComplete, second, if_true]
    rfl
  have ends : ChannelBecomes n { dialCh u n with lastThree := three } u (roundDone v) :=
    .ofDialMod (f := fun c => { c with lastThree := three }) (roundDone_onlyReports v).tally'
  have judged := judgeExcess_becomes n e three (roundDone v)
  rw [ends.here, here, checkEnded, excess] at judged
  rw [eq]
  exact ((ChannelBecomes.dialMod n _ s).trans ends).trans judged

/-- While the channel's other line is not complete, a higher excess takes effect and a lower one does not count. -/
theorem checkComplete_first {n : Nat} {line1 : Bool} {s : State}
    (first : (if line1 then (dialCh s n).done0 else (dialCh s n).done1) = false) (mu : List Int) :
    let c := dialCh s n
    let d := lineDrift s.cfg.str.loMHz mu
    ChannelBecomes n { lineChecked line1 d s.clk.ticks c with excess := max c.excess (lineExcess line1 d c) } s
      (checkComplete n line1 mu s) := by
  intro c d
  let u := dialMod n (lineChecked line1 d s.clk.ticks) s
  have here : dialCh u n = lineChecked line1 d s.clk.ticks c := dialCh_dialMod_same ..
  obtain ⟨-, -, excess⟩ := lineChecked_keeps line1 d s.clk.ticks c
  have gives : excessOf (dialCh u n) = lineExcess line1 d c := by rw [here, excessOf_lineChecked]
  have eq : checkComplete n line1 mu s = judgeExcess n (lineExcess line1 d c) [] u := by
    rw [← gives]
    simp only [checkComplete, first, Bool.false_eq_true, if_false]
    rfl
  have judged := judgeExcess_becomes n (lineExcess line1 d c) [] u
  rw [here, judgedExcess_nil, excess] at judged
  rw [eq]
  exact (ChannelBecomes.dialMod n _ s).trans judged

/-! ### Staleness and the start of a check (R111) -/

/-- The channel with a line that has become stale. -/
def lineStaled (line1 : Bool) (c : DialChSt) : DialChSt :=
  { (if line1 then { c with stale1 := true } else { c with stale0 := true }) with lastThree := [] }

theorem lineStaled_stale (line1 : Bool) (c : DialChSt) :
    ((lineStaled line1 c).stale0 || (lineStaled line1 c).stale1) = true := by
  cases line1 with
  | true => exact Bool.or_true _
  | false => exact Bool.true_or _

/-- With a stale line the excess is at least 10.5 ps. -/
theorem le_excessOf_lineStaled (line1 : Bool) (c : DialChSt) : 688128 ≤ excessOf (lineStaled line1 c) := by
  rw [excessOf_eq, lineStaled_stale]
  exact Nat.le_max_left 688128 _

theorem lineStaled_excess (line1 : Bool) (c : DialChSt) : (lineStaled line1 c).excess = c.excess := by
  unfold lineStaled
  cases line1 <;> rfl

theorem lineStale_becomes (n : Nat) (line1 : Bool) (s : State) : let x := lineStaled line1 (dialCh s n)
    ChannelBecomes n { x with excess := max (dialCh s n).excess (excessOf x) } s (lineStale n line1 s) := by
  intro x
  let u := dialMod n (lineStaled line1) s
  have here : dialCh u n = x := dialCh_dialMod_same ..
  have reported : ChannelBecomes n x s (faultEvent (80 + n) 3 0 (irqRaise 4 3 u)) :=
    .ofDialMod (f := lineStaled line1) ((irqRaise_onlyReports ..).trans (faultEvent_onlyReports ..)).tally'
  have eq : lineStale n line1 s = if (dialCh s n).excess < excessOf x
      then setExcess n (excessOf x) (faultEvent (80 + n) 3 0 (irqRaise 4 3 u))
      else faultEvent (80 + n) 3 0 (irqRaise 4 3 u) := by
    rw [← here]
    rfl
  rw [eq]
  split
  · next rises =>
    have raised := setExcess_becomes n (excessOf x) (faultEvent (80 + n) 3 0 (irqRaise 4 3 u))
    rw [reported.here] at raised
    rw [Nat.max_eq_right (Nat.le_of_lt rises)]
    exact reported.trans raised
  · next stays =>
    rw [Nat.max_eq_left (Nat.not_lt.1 stays), ← lineStaled_excess line1]
    exact reported

/-- An abandoned check ends, and its round with it where it was the last. -/
theorem checkAbandon_onlyReports (n : Nat) (s : State) :
    OnlyReports (dialMod n (fun c => { c with checking := none, done0 := false, done1 := false, lastThree := [] }) s)
      (checkAbandon n s) := roundDone_onlyReports _

/-- Only the Dial may differ. -/
def OnlyDial (s t : State) : Prop := t = { s with dial := t.dial }

theorem OnlyDial.trans {s t u : State} (a : OnlyDial s t) (b : OnlyDial t u) : OnlyDial s u := by
  unfold OnlyDial at *
  rw [b, a]

theorem OnlyDial.clk {s t : State} (a : OnlyDial s t) : t.clk = s.clk := by rw [a]

/-- Time, then a change of the Dial, is time but for the Dial. -/
theorem OnlyDial.afterTime {s t u : State} (time : OnlyTime s u) (a : OnlyDial u t) : OnlyTime s { t with dial := s.dial } := by
  rw [a, ← time.dial]
  exact time

theorem checkStart_onlyDial (n : Nat) (s : State) : OnlyDial s (checkStart n s) := rfl

/-- A check of a channel runs once it is started, and goes on at the start of another's at the same tick. -/
theorem checkStart_checking {m n : Nat} {s : State} (h : m = n ∨ (dialCh s m).checking = some s.clk.ticks) :
    (dialCh (checkStart n s) m).checking = some s.clk.ticks := by
  unfold checkStart
  by_cases same : m = n
  · rw [same, dialCh_dialMod_same]
  · rw [dialCh_dialMod_ne same, h.resolve_left same]

/-- Checks of several channels start one after another at the same tick. -/
theorem foldl_checkStart (l : List Nat) (s : State) : let t := l.foldl (fun t n => checkStart n t) s
    OnlyDial s t ∧ ∀ m, m ∈ l ∨ (dialCh s m).checking = some s.clk.ticks → (dialCh t m).checking = some s.clk.ticks := by
  induction l generalizing s with
  | nil => exact ⟨rfl, fun m h => h.resolve_left List.not_mem_nil⟩
  | cons n r ih =>
    obtain ⟨frame, checking⟩ := ih (checkStart n s)
    refine ⟨(checkStart_onlyDial n s).trans frame, fun m h => checking m ?_⟩
    rw [List.mem_cons, or_assoc] at h
    by_cases later : m ∈ r
    · exact .inl later
    · exact .inr (checkStart_checking (h.imp_right fun h => h.resolve_left later))

end Sys2Proof.Machine
end

section
/-! PROOFS. O14: the Dial's temperature, its checks and the excess they set. -/

namespace Sys2Proof.Machine

open Safety

theorem exec_dialBackgroundCheck (s : State) : let u := elapseTo (nextMultiple (10 * ticksPerSec) s) s
    exec .dialBackgroundCheck s =
      .next (if s.dial.chkRun then u else (List.range 24).foldl (fun t n => checkStart n t) u) := by
  intro u
  rw [← (elapseTo_onlyTime (nextMultiple (10 * ticksPerSec) s) s).dial]
  rfl

theorem exec_dialCheckComplete {ch : DialCh} {line1 : Bool} {mu : List (List (Nat × Nat))} {s : State}
    (checking : (dialCh s ch).checking.isSome = true)
    (due : (if line1 then (dialCh s ch).done1 else (dialCh s ch).done0) = false) (collected : checkCollected s mu = true) :
    exec (.dialCheckComplete ch line1 mu) s =
      .next (checkComplete ch line1 (mu.map (checkMean ch line1 s.dial.temp)) s) := by
  show execDialCheckComplete ch line1 mu s = _
  simp only [execDialCheckComplete, checking, due, collected, Bool.not_false, Bool.and_self, if_true]

theorem exec_dialCheckComplete_idle {ch : DialCh} {line1 : Bool} {mu : List (List (Nat × Nat))} {s : State}
    (idle : (dialCh s ch).checking = none ∨ (if line1 then (dialCh s ch).done1 else (dialCh s ch).done0) = true ∨
      checkCollected s mu = false) : exec (.dialCheckComplete ch line1 mu) s = .next s := by
  show execDialCheckComplete ch line1 mu s = _
  have notDue : ((dialCh s ch).checking.isSome && !(if line1 then (dialCh s ch).done1 else (dialCh s ch).done0) &&
      checkCollected s mu) = false := by
    rcases idle with h | h | h
    · rw [h, Option.isSome_none, Bool.false_and, Bool.false_and]
    · rw [h, Bool.not_true, Bool.and_false, Bool.false_and]
    · rw [h, Bool.and_false]
  simp only [execDialCheckComplete, notDue, Bool.false_eq_true, if_false]

theorem exec_dialCheckAbandon {ch : DialCh} {s : State} {t0 : Nat} (checking : (dialCh s ch).checking = some t0) :
    exec (.dialCheckAbandon ch) s = .next (checkAbandon ch (elapseTo (t0 + ticksPerSec) s)) := by
  show execDialCheckAbandon ch s = _
  rw [execDialCheckAbandon, checking]

theorem exec_dialCheckAbandon_idle {ch : DialCh} {s : State} (idle : (dialCh s ch).checking = none) :
    exec (.dialCheckAbandon ch) s = .next s := by
  show execDialCheckAbandon ch s = _
  rw [execDialCheckAbandon, idle]

/-- What a line's staleness leaves, whichever line it is. -/
theorem exec_dialLineStale {ch : DialCh} {line1 : Bool} {s : State}
    (fresh : (if line1 then (dialCh s ch).stale1 else (dialCh s ch).stale0) = false) :
    let x := lineStaled line1 (dialCh s ch)
    ∃ t, exec (.dialLineStale ch line1) s = .next t ∧
      dialCh t ch = { x with excess := max (dialCh s ch).excess (excessOf x) } ∧
      688128 ≤ (dialCh t ch).excess ∧ (dialCh s ch).excess ≤ (dialCh t ch).excess ∧
      (∀ m, m ≠ ch.val → dialCh t m = dialCh s m) ∧ t.lode = s.lode := by
  intro x
  have time := elapseTo_onlyTime (lastCheck s ch line1 + 60 * ticksPerSec) s
  have stale := lineStale_becomes ch line1 (elapseTo (lastCheck s ch line1 + 60 * ticksPerSec) s)
  rw [time.dialCh] at stale
  refine ⟨_, if_neg (by rw [fresh]; decide), stale.here, ?_, ?_,
    fun m h => (stale.others m h).trans (time.dialCh m), stale.lode.trans time.lode⟩
  · rw [stale.here]
    exact Nat.le_trans (le_excessOf_lineStaled line1 _) (Nat.le_max_right ..)
  · rw [stale.here]
    exact Nat.le_max_left ..

/-- Settles O14: each command by its equation, a complete check by whether it is the channel's second line. -/
theorem dialSelfCheckSetsTheExcess : Obligations.DialSelfCheckSetsTheExcess := by
  unfold Obligations.DialSelfCheckSetsTheExcess
  refine ⟨?temp, ?background, ?complete, fun _ _ _ _ => exec_dialCheckComplete_idle, ?abandon, ?stale1, ?stale0,
    fun _ _ => exec_dialCheckAbandon_idle, fun _ _ h => if_pos h, fun _ _ h => if_pos h⟩
  case temp => exact fun temp s => ⟨_, elapseTo_onlyTime .., elapseTo_ticks .., rfl⟩
  case background =>
    intro s
    have time := elapseTo_onlyTime (nextMultiple (10 * ticksPerSec) s) s
    refine ⟨_, exec_dialBackgroundCheck s, ?_⟩
    cases running : s.dial.chkRun with
    | true => exact ⟨fun _ => time.dial, fun h => absurd h (by decide), by rw [← time.dial]; exact time⟩
    | false =>
      obtain ⟨frame, checking⟩ := foldl_checkStart (List.range 24) (elapseTo (nextMultiple (10 * ticksPerSec) s) s)
      refine ⟨fun h => absurd h (by decide), fun _ n below => ?_, frame.afterTime time⟩
      exact (checking n (.inl (List.mem_range.2 below))).trans (congrArg (some ·.ticks) frame.clk.symm)
  case complete =>
    intro ch line1 mu s running due collected
    let d := lineDrift s.cfg.str.loMHz (mu.map (checkMean ch line1 s.dial.temp))
    have marks := lineChecked_marks line1 d s.clk.ticks (dialCh s ch)
    obtain ⟨checking, lastThree, -⟩ := lineChecked_keeps line1 d s.clk.ticks (dialCh s ch)
    refine ⟨_, exec_dialCheckComplete running due collected, ?_⟩
    cases second : (if line1 then (dialCh s ch).done0 else (dialCh s ch).done1) with
    | true =>
      obtain ⟨frame, here, others⟩ := checkComplete_second second (mu.map (checkMean ch line1 s.dial.temp))
      refine ⟨frame, others, ?_⟩
      rw [here]
      exact ⟨marks, fun _ => ⟨rfl, rfl, rfl⟩, fun h => absurd (second.symm.trans h) (by decide)⟩
    | false =>
      obtain ⟨frame, here, others⟩ := checkComplete_first second (mu.map (checkMean ch line1 s.dial.temp))
      refine ⟨frame, others, ?_⟩
      rw [here]
      exact ⟨marks, fun h => absurd (second.symm.trans h) (by decide), fun _ => ⟨checking, lastThree, rfl⟩⟩
  case abandon =>
    intro ch t0 s checking
    have time := elapseTo_onlyTime (t0 + ticksPerSec) s
    have frame := checkAbandon_onlyReports ch (elapseTo (t0 + ticksPerSec) s)
    have after := ChannelBecomes.ofDialMod frame.tally'
    refine ⟨_, _, time, elapseTo_ticks .., exec_dialCheckAbandon checking, frame.ofDialMod, ?_,
      fun m h => (after.others m h).trans (time.dialCh m)⟩
    rw [after.here, time.dialCh]
  case stale1 =>
    intro ch s fresh
    obtain ⟨t, run, here, rest⟩ := exec_dialLineStale (line1 := true) fresh
    exact ⟨t, run, by rw [here]; rfl, by rw [here]; rfl, rest⟩
  case stale0 =>
    intro ch s fresh
    obtain ⟨t, run, here, rest⟩ := exec_dialLineStale (line1 := false) fresh
    exact ⟨t, run, by rw [here]; rfl, by rw [here]; rfl, rest⟩

end Sys2Proof.Machine
end

section
/-! SUPPORT. Triggers, results and gates of a USER channel (R104 to R106). -/

namespace Sys2Proof.Machine

open Safety

/-- A channel whose measurements a trigger starts: USER, enabled, in INTERVAL mode or in FREQUENCY mode without CONT. -/
abbrev TakesTriggers (s : State) (n : Nat) : Prop :=
  (dialCfg s n).role = 3 ∧ dialEn s n ∧ dialMode s n ≠ 0 ∧ (dialMode s n = 1 ∨ dialCont s n = false)

theorem dialTrigger_starts {n : Nat} {s : State} (takes : TakesTriggers s n) (idle : (dialCh s n).running = none) :
    dialTrigger n s = dialMod n (fun c => { c with
      running := some s.clk.ticks, startT := none
      gate := if dialMode s n = 2 then some (newGate s) else c.gate }) s := by
  rw [dialTrigger, if_pos takes]
  exact if_neg (by rw [idle]; decide)

theorem dialTrigger_holds {n : Nat} {s : State} (takes : TakesTriggers s n) (runs : (dialCh s n).running.isSome = true)
    (free : (dialCh s n).held = false) : dialTrigger n s = dialMod n (fun c => { c with held := true }) s := by
  rw [dialTrigger, if_pos takes]
  exact (if_pos runs).trans (if_neg (by rw [free]; decide))

theorem dialTrigger_loses {n : Nat} {s : State} (takes : TakesTriggers s n) (runs : (dialCh s n).running.isSome = true)
    (held : (dialCh s n).held = true) : dialTrigger n s = irqRaise 4 2 (rfBump (dialBase n + 0x34) 7 0 1 s) := by
  rw [dialTrigger, if_pos takes]
  exact (if_pos runs).trans (if_pos held)

/-- A lost trigger is counted in DIAL_CH_CNT.LOST and reported, and that is all. -/
theorem lostTrigger_counts (n : Nat) (s : State) : let t := irqRaise 4 2 (rfBump (dialBase n + 0x34) 7 0 1 s)
    OnlyReports s t ∧ rfField t (dialBase n + 0x34) 7 0 = satAdd 8 (rfField s (dialBase n + 0x34) 7 0) 1 := by
  intro t
  refine ⟨(rfBump_onlyReports ..).trans (irqRaise_onlyReports ..), ?_⟩
  have elsewhere : dialBase n + 0x34 ≠ irqAddr 4 := by
    have : irqAddr 4 = 0x00400100 := rfl
    unfold dialBase
    omega
  rw [← rfField_rfBump_same (hi := 7) (lo := 0) (by decide) (by decide), rfField, rfGet_irqRaise_ne elsewhere, rfField]

/-- A result as the channel takes it after the one with sequence number `seq`. -/
def stampedResult (s : State) (n : Nat) (r : DialResult) (seq : Nat) : DialResult :=
  { r with seq := (seq + 1) % 256, noAge := noAge s n, invalid := r.invalid || dialInvalid s n }

/-- The channel with a new result. -/
def withResult (s : State) (n : Nat) (r : DialResult) (c : DialChSt) : DialChSt :=
  { c with result := stampedResult s n r c.result.seq, isNew := true }

theorem dialResult_becomes (n : Nat) (r : DialResult) (s : State) :
    ChannelBecomes n (withResult s n r (dialCh s n)) s (dialResult n r s) := by
  let lost := if (dialCh s n).isNew then rfBump (dialBase n + 0x34) 15 8 1 s else s
  have counted := ChannelBecomes.ofTally n (t := lost) (ite_onlyReports (rfBump_onlyReports ..) (OnlyReports.refl s)).tally'
  have eq : dialResult n r s = if (dialCfg s n).role = 3
      then irqRaise 4 4 (rfOr 0x00400010 (2 ^ n) (dialMod n (withResult s n r) lost))
      else dialMod n (withResult s n r) lost := rfl
  have made := ChannelBecomes.ofDialMod (n := n) (f := withResult s n r) (s := lost) (t := dialResult n r s)
    (eq ▸ (ite_onlyReports ((rfOr_onlyReports ..).trans (irqRaise_onlyReports ..)) (OnlyReports.refl _)).tally')
  rw [counted.here] at made
  exact counted.trans made

/-- The channel at the end of a measurement: idle, or measuring again where a trigger is held. -/
def measurementEnded (s : State) (n : Nat) (c : DialChSt) : DialChSt :=
  { c with
    running := if c.held then some s.clk.ticks else none, held := false, startT := none
    gate := if c.held && decide (dialMode s n = 2) then some (newGate s) else none }

theorem dialEnd_becomes (n : Nat) (s : State) :
    ChannelBecomes n (measurementEnded s n (dialCh s n)) s (dialEnd n s) := .dialMod n (measurementEnded s n) s

/-- What a gate gives: its fractional frequency, less the ageing where TB takes it out, and no value where it is invalid. -/
def gateGives (s : State) (n : Nat) (g : DialGate) : DialResult :=
  let y := if dialTb s n = 2 ∧ s.lode.ageValid then gateFreq s n g - fitAt s ((g.startTick + s.clk.ticks) / 2)
    else gateFreq s n g
  { value := if g.invalid then 0 else twosComp 64 y, isTime := false, n := g.pts.length, pull := g.pull, invalid := g.invalid }

theorem gateGives_value {s : State} {n : Nat} {g : DialGate} (valid : g.invalid = false) (tb : dialTb s n ≠ 2) :
    (gateGives s n g).value = twosComp 64 (gateFreq s n g) := by
  have ageing : ¬ (dialTb s n = 2 ∧ s.lode.ageValid = true) := fun h => tb h.1
  simp only [gateGives, valid, ageing, Bool.false_eq_true, if_false]

/-- A USER channel's gate ends with its result; with CONT the next gate follows, without it the measurement has ended. -/
theorem gateEnd_user {n : Nat} {g : DialGate} {s : State} (user : (dialCfg s n).role = 3) (points : 2 ≤ g.pts.length) :
    ∃ next, gateEnd n g s =
      (let v := dialResult n (gateGives s n g) (dialMod n (fun c => { c with gate := next }) s)
       if dialCont s n then v else dialEnd n v) := by
  refine ⟨if dialCont s n && !(g.invalid && !s.lode.coarse) then some (newGate s) else none, ?_⟩
  simp only [gateEnd, user, points, decide_true, Bool.not_true, Bool.false_or, if_true]
  rfl

theorem gateEnd_becomes {n : Nat} {g : DialGate} {s : State} (user : (dialCfg s n).role = 3) (points : 2 ≤ g.pts.length) :
    ∃ c, ChannelBecomes n c s (gateEnd n g s) ∧ c.isNew = true ∧
      c.result = stampedResult s n (gateGives s n g) (dialCh s n).result.seq := by
  obtain ⟨next, eq⟩ := gateEnd_user user points
  let u := dialMod n (fun c => { c with gate := next }) s
  have result := (ChannelBecomes.dialMod n _ s).trans (dialResult_becomes n (gateGives s n g) u)
  have here : dialCh u n = { dialCh s n with gate := next } := dialCh_dialMod_same ..
  rw [here] at result
  rw [eq]
  by_cases cont : dialCont s n = true
  · rw [if_pos cont]
    exact ⟨_, result, rfl, rfl⟩
  · rw [if_neg cont]
    have ended := result.trans (dialEnd_becomes n _)
    rw [result.here] at ended
    exact ⟨_, ended, rfl, rfl⟩

end Sys2Proof.Machine
end

section
/-! PROOFS. O15: the Dial's triggers, results and gates. -/

namespace Sys2Proof.Machine

open Safety

theorem takesTriggers_interval {s : State} {n : Nat} (user : (dialCfg s n).role = 3) (on : dialEn s n = true)
    (interval : dialMode s n = 1) : TakesTriggers s n := ⟨user, on, by omega, .inl interval⟩

theorem takesTriggers_frequency {s : State} {n : Nat} (user : (dialCfg s n).role = 3) (on : dialEn s n = true)
    (frequency : dialMode s n = 2) (single : dialCont s n = false) : TakesTriggers s n := ⟨user, on, by omega, .inr single⟩

/-- ARM starts an idle channel's measurement. -/
theorem exec_dialArm_starts {ch : DialCh} {s : State} (takes : TakesTriggers s ch) (idle : (dialCh s ch).running = none) :
    ∃ t, exec (.dialArm ch) s = .next t ∧ OnlyReports { s with dial := t.dial } t ∧
      dialCh t ch = { dialCh s ch with
        running := some s.clk.ticks, startT := none
        gate := if dialMode s ch = 2 then some (newGate s) else (dialCh s ch).gate } ∧
      ∀ m, m ≠ ch.val → dialCh t m = dialCh s m :=
  ⟨_, congrArg Host.Outcome.next (dialTrigger_starts takes idle), rfl, dialCh_dialMod_same .., fun _ h => dialCh_dialMod_ne h ..⟩

/-- ARM on a channel that holds a trigger already loses it. -/
theorem exec_dialArm_loses {ch : DialCh} {s : State} (takes : TakesTriggers s ch)
    (runs : (dialCh s ch).running.isSome = true) (held : (dialCh s ch).held = true) :
    ∃ t, exec (.dialArm ch) s = .next t ∧ OnlyReports s t ∧
      rfField t (dialBase ch + 0x34) 7 0 = satAdd 8 (rfField s (dialBase ch + 0x34) 7 0) 1 :=
  ⟨_, congrArg Host.Outcome.next (dialTrigger_loses takes runs held), lostTrigger_counts ch s⟩

theorem exec_dialIntervalTimeout {ch : DialCh} {s : State} {t0 : Nat} (runs : (dialCh s ch).running = some t0)
    (interval : dialMode s ch = 1) : exec (.dialIntervalTimeout ch) s =
      .next (dialEnd ch (dialResult ch { isTime := false, timeout := true } (elapseTo (t0 + ticksOfNs (2 ^ 32)) s))) := by
  show execDialIntervalTimeout ch s = _
  simp only [execDialIntervalTimeout, runs, interval, if_true]

/-- A gate that is due ends at once when it is full, and otherwise after its time. -/
theorem exec_frequencyGateEnd {ch : DialCh} {g : DialGate} {s : State} (gate : (dialCh s ch).gate = some g)
    (due : gateFull s ch g = true ∨ dialSpacing s ch = 1 ∨ g.invalid = true) :
    ∃ u, OnlyTime s u ∧ exec (.frequencyGateEnd ch) s = .next (gateEnd ch g u) := by
  have eq : exec (.frequencyGateEnd ch) s = if gateFull s ch g then .next (gateEnd ch g s)
      else if 1 < dialSpacing s ch ∧ g.invalid = false then .next s
      else .next (gateEnd ch g (elapseTo (g.startTick + dialGateMs s ch * ticksPerMs) s)) := by
    show execFrequencyGateEnd ch s = _
    rw [execFrequencyGateEnd, gate]
  by_cases full : gateFull s ch g = true
  · exact ⟨s, OnlyTime.refl s, eq.trans (if_pos full)⟩
  · refine ⟨_, elapseTo_onlyTime .., (eq.trans (if_neg full)).trans (if_neg fun goesOn => ?_)⟩
    obtain ⟨spaced, valid⟩ := goesOn
    rcases due.resolve_left full with h | h
    · omega
    · exact absurd (valid.symm.trans h) (by decide)

theorem exec_frequencyGateEnd_goesOn {ch : DialCh} {g : DialGate} {s : State} (gate : (dialCh s ch).gate = some g)
    (short : gateFull s ch g = false) (spaced : 1 < dialSpacing s ch) (valid : g.invalid = false) :
    exec (.frequencyGateEnd ch) s = .next s := by
  show execFrequencyGateEnd ch s = _
  simp only [execFrequencyGateEnd, gate, short, spaced, valid, Bool.false_eq_true, if_false, and_self, if_true]

theorem exec_frequencyGateEnd_none {ch : DialCh} {s : State} (gate : (dialCh s ch).gate = none) :
    exec (.frequencyGateEnd ch) s = .next s := by
  show execFrequencyGateEnd ch s = _
  rw [execFrequencyGateEnd, gate]

/-- Settles O15: a trigger by what the channel does with it, a time-out and a gate's end by the result that they give. -/
theorem dialTriggersRunHoldAndCount : Obligations.DialTriggersRunHoldAndCount := by
  unfold Obligations.DialTriggersRunHoldAndCount
  refine ⟨?interval, ?frequency, ?others, ?disarm, ?timeout, fun _ _ => rfl, ?gateEnds,
    fun _ _ _ => exec_frequencyGateEnd_goesOn, fun _ _ => exec_frequencyGateEnd_none⟩
  case interval =>
    intro ch s user on mode
    have takes := takesTriggers_interval user on mode
    refine ⟨fun idle => ?_, fun runs free => ?_, fun runs held => ?_⟩
    · obtain ⟨t, run, frame, here, others⟩ := exec_dialArm_starts takes idle
      exact ⟨t, run, frame, by rw [here], by rw [here], others⟩
    · have eq := dialTrigger_holds takes runs free
      refine ⟨_, congrArg Host.Outcome.next eq, rfl, ?_⟩
      rw [dialCh_dialMod_same]
      exact ⟨rfl, rfl⟩
    · obtain ⟨t, run, frame, lost⟩ := exec_dialArm_loses takes runs held
      exact ⟨t, run, frame, frame.dial, lost⟩
  case frequency =>
    intro ch s user on mode single
    have takes := takesTriggers_frequency user on mode single
    refine ⟨fun idle => ?_, exec_dialArm_loses takes⟩
    obtain ⟨t, run, frame, here, others⟩ := exec_dialArm_starts takes idle
    exact ⟨t, run, frame, by rw [here], by rw [here]; exact if_pos mode, others⟩
  case others =>
    intro ch s fixed
    exact ⟨congrArg Host.Outcome.next (if_neg fun takes => fixed takes.1), congrArg Host.Outcome.next (if_neg fixed)⟩
  case disarm => exact fun ch s user => congrArg Host.Outcome.next (if_pos user)
  case timeout =>
    intro ch t0 s runs mode _
    have time := elapseTo_onlyTime (t0 + ticksOfNs (2 ^ 32)) s
    have result := dialResult_becomes ch { isTime := false, timeout := true } (elapseTo (t0 + ticksOfNs (2 ^ 32)) s)
    have ended := result.trans (dialEnd_becomes ch _)
    rw [result.here, time.dialCh] at ended
    refine ⟨_, exec_dialIntervalTimeout runs mode, ?_⟩
    rw [ended.here, ended.clk, ← result.clk]
    exact ⟨rfl, rfl, rfl, rfl, rfl, by rw [result.clk, elapseTo_ticks]⟩
  case gateEnds =>
    intro ch g s gate user points due
    obtain ⟨u, time, run⟩ := exec_frequencyGateEnd gate due
    obtain ⟨c, ends, isNew, result⟩ := gateEnd_becomes (g := g) ((congrArg (·.role) (time.dialCfg ch)).trans user) points
    refine ⟨_, run, ?_⟩
    rw [ends.here, ends.lode, result, time.dialCh]
    refine ⟨isNew, rfl, rfl, rfl, fun bad => ?_, fun good tb => ?_, time.lode⟩
    · rw [stampedResult, gateGives, bad]
      exact ⟨rfl, rfl⟩
    · rw [← time.dialTb] at tb
      rw [stampedResult, gateGives_value good tb, time.gateFreq]

end Sys2Proof.Machine
end

section
/-! SUPPORT. One antenna at a time: what an operation on an antenna may change, and how an antenna's alarm and the source check of its reference go together (R82, R130, R133). -/

namespace Sys2Proof.Safety

open Machine

theorem OnlyTally.antSt {s t : State} (a : OnlyTally s t) (n : Nat) : antSt t n = antSt s n := by
  unfold Machine.antSt
  rw [a.dayl]

theorem OnlyTime.antSt {s t : State} (a : OnlyTime s t) (n : Nat) : antSt t n = antSt s n := by
  unfold Machine.antSt
  rw [a.dayl]

theorem OnlyTally.refSt {s t : State} (a : OnlyTally s t) (n : Nat) : refSt t n = refSt s n := by
  unfold Machine.refSt
  rw [a.assay]

end Sys2Proof.Safety

namespace Sys2Proof.Machine

open Safety

@[simp] theorem antSt_antMod_same (a : Nat) (f : AntSt → AntSt) (s : State) : antSt (antMod a f s) a = f (antSt s a) :=
  sget_smod_same ..

theorem antSt_antMod_ne {a b : Nat} (h : b ≠ a) (f : AntSt → AntSt) (s : State) : antSt (antMod a f s) b = antSt s b :=
  sget_smod_ne _ h f

@[simp] theorem antSt_refMod (n : Nat) (f : RefSt → RefSt) (s : State) (a : Nat) : antSt (refMod n f s) a = antSt s a := rfl

@[simp] theorem refSt_refMod_same (n : Nat) (f : RefSt → RefSt) (s : State) : refSt (refMod n f s) n = f (refSt s n) :=
  sget_smod_same ..

theorem refSt_refMod_ne {m n : Nat} (h : m ≠ n) (f : RefSt → RefSt) (s : State) : refSt (refMod n f s) m = refSt s m :=
  sget_smod_ne _ h f

/-! ### Frames -/

/-- Only Daylight, the Assay's view of the references, the Tally and what is reported may differ. -/
def OnlyDaylight (s t : State) : Prop :=
  t = { s with
    dayl := t.dayl, assay := { s.assay with refs := t.assay.refs }
    tally := t.tally, rf := t.rf, pcie := t.pcie, fault := t.fault }

theorem OnlyDaylight.refl (s : State) : OnlyDaylight s s := rfl

theorem OnlyDaylight.trans {s t u : State} (a : OnlyDaylight s t) (b : OnlyDaylight t u) : OnlyDaylight s u := by
  unfold OnlyDaylight at *
  rw [b, a]

theorem OnlyDaylight.ofTally {s t : State} (a : OnlyTally s t) : OnlyDaylight s t := by
  unfold OnlyDaylight OnlyTally at *
  rw [a]

theorem OnlyDaylight.clk {s t : State} (a : OnlyDaylight s t) : t.clk = s.clk := by rw [a]
theorem OnlyDaylight.lode {s t : State} (a : OnlyDaylight s t) : t.lode = s.lode := by rw [a]
theorem OnlyDaylight.cfg {s t : State} (a : OnlyDaylight s t) : t.cfg = s.cfg := by rw [a]

/-- Whether an antenna is in use is read from REFERENCES alone. -/
theorem antUsed_of_cfg {s t : State} (cfg : t.cfg = s.cfg) (a : Nat) : antUsed t a = antUsed s a := by
  simp only [antUsed, antCfg, refRec, refRec?, cfg]

/-- Of the antennas and references only antenna `a` and its reference may differ. -/
structure OnlyAntenna (a : Nat) (s t : State) : Prop where
  frame : OnlyDaylight s t
  ants : ∀ b, b ≠ a → antSt t b = antSt s b
  refs : ∀ n, n ≠ 6 + a → refSt t n = refSt s n

namespace OnlyAntenna

variable {a : Nat} {s t u : State}

theorem refl (a : Nat) (s : State) : OnlyAntenna a s s := ⟨.refl s, fun _ _ => rfl, fun _ _ => rfl⟩

theorem trans (x : OnlyAntenna a s t) (y : OnlyAntenna a t u) : OnlyAntenna a s u :=
  ⟨x.frame.trans y.frame, fun b h => (y.ants b h).trans (x.ants b h), fun n h => (y.refs n h).trans (x.refs n h)⟩

theorem ofTally (x : OnlyTally s t) : OnlyAntenna a s t := ⟨.ofTally x, fun b _ => x.antSt b, fun n _ => x.refSt n⟩

theorem ofReports (x : OnlyReports s t) : OnlyAntenna a s t := ofTally x.tally'

/-- A change of Daylight outside the antennas. -/
theorem ofDayl (s : State) {d : DaylSt} (ants : d.ants = s.dayl.ants) : OnlyAntenna a s { s with dayl := d } :=
  ⟨rfl, fun b _ => congrArg (fun m => sget ({} : AntSt) m b) ants, fun _ _ => rfl⟩

theorem antMod (a : Nat) (f : AntSt → AntSt) (s : State) : OnlyAntenna a s (antMod a f s) :=
  ⟨rfl, fun _ h => antSt_antMod_ne h f s, fun _ _ => rfl⟩

theorem refMod (a : Nat) (f : RefSt → RefSt) (s : State) : OnlyAntenna a s (refMod (6 + a) f s) :=
  ⟨rfl, fun _ _ => rfl, fun _ h => refSt_refMod_ne h f s⟩

theorem ite {c : Prop} [Decidable c] (x : OnlyAntenna a s t) (y : OnlyAntenna a s u) :
    OnlyAntenna a s (if c then t else u) := by
  split
  · exact x
  · exact y

theorem foldl {α : Type} {f : State → α → State} (h : ∀ s x, OnlyAntenna a s (f s x)) (l : List α) (s : State) :
    OnlyAntenna a s (l.foldl f s) := by
  induction l generalizing s with
  | nil => exact refl a s
  | cons x r ih => exact (h s x).trans (ih (f s x))

end OnlyAntenna

/-! ### Alarms and the source check (R82, R133) -/

/-- Going to REJECTED changes the reference, and otherwise only what is reported. -/
theorem qualGo_rejected (n : Nat) (s : State) : qualGo n .rejected s = s ∨
    OnlyReports (refMod n (fun r => { r with q := .rejected, immediate := false, returning := false, qualMaster := none }) s)
      (qualGo n .rejected s) := by
  have marks := fun (k : Option Nat) (u : State) => show OnlyReports u (qualEvent n k u) from by
    cases k with
    | none => exact ite_onlyReports (rfOr_onlyReports ..) (rfOr_onlyReports ..)
    | some b => exact (ite_onlyReports (rfOr_onlyReports ..) (rfOr_onlyReports ..)).trans (irqRaise_onlyReports ..)
  by_cases was : (refSt s n).q = .rejected
  · exact .inl (if_pos was)
  · right
    rw [show qualGo n .rejected s = _ from if_neg was]
    exact ite_onlyReports (((marks _ _).trans (rfBump_onlyReports ..)).trans (faultEvent_onlyReports ..)) (marks _ _)

theorem rejectNow_onlyAntenna (a : Nat) (s : State) : OnlyAntenna a s (rejectNow (6 + a) s) := by
  unfold rejectNow
  split
  · refine .trans (.refMod a (fun r => { r with immediate := true }) s) ?_
    rcases qualGo_rejected (6 + a) (refMod (6 + a) (fun r => { r with immediate := true }) s) with same | reports
    · rw [same]
      exact .refl a _
    · exact .trans (.refMod a _ _) (.ofReports reports)
  · exact .refl a s

/-- An immediate rejection leaves the verdict of the source check as it was. -/
theorem rejectNow_srcAcc (n : Nat) (s : State) : (refSt (rejectNow n s) n).srcAcc = (refSt s n).srcAcc := by
  unfold rejectNow
  split
  · rcases qualGo_rejected n (refMod n (fun r => { r with immediate := true }) s) with same | reports
    · rw [same, refSt_refMod_same]
    · rw [reports.tally'.refSt, refSt_refMod_same, refSt_refMod_same]
  · rfl

/-- An alarmed antenna's reference is outside its accept limit. -/
def AlarmFails (a : Nat) (s : State) : Prop := (antSt s a).alarm = true → (refSt s (6 + a)).srcAcc = false

theorem AlarmFails.of_eq {a : Nat} {s t : State} (fails : AlarmFails a s) (alarm : (antSt t a).alarm = (antSt s a).alarm)
    (ref : refSt t (6 + a) = refSt s (6 + a)) : AlarmFails a t := by
  unfold AlarmFails
  rw [alarm, ref]
  exact fails

/-- What happens at one antenna leaves the other one's alarm and reference. -/
theorem OnlyAntenna.alarmFails {a b : Nat} {s t : State} (x : OnlyAntenna a s t) (other : b ≠ a) (fails : AlarmFails b s) :
    AlarmFails b t :=
  fails.of_eq (by rw [x.ants b other]) (x.refs (6 + b) (by omega))

theorem raiseAlarm_onlyAntenna (a b : Nat) (s : State) : OnlyAntenna a s (raiseAlarm a b s) := by
  by_cases was : (antSt s a).alarm = true
  · rw [show raiseAlarm a b s = _ from if_pos was]
    exact .antMod a _ s
  · rw [show raiseAlarm a b s = _ from if_neg was]
    refine .trans ?_ (rejectNow_onlyAntenna a _)
    refine .trans ?_ (.refMod a _ _)
    refine .trans ?_ (.ofReports (faultEvent_onlyReports ..))
    refine .trans ?_ (.ofReports (irqRaise_onlyReports ..))
    exact .trans (.antMod a _ s) (.ofReports (rfBump_onlyReports ..))

/-- An alarm that is raised puts the reference outside its accept limit; one that stands has done so. -/
theorem raiseAlarm_alarmFails (a b : Nat) {s : State} (fails : AlarmFails a s) : AlarmFails a (raiseAlarm a b s) := by
  intro _
  by_cases was : (antSt s a).alarm = true
  · rw [show raiseAlarm a b s = _ from if_pos was]
    exact fails was
  · rw [show raiseAlarm a b s = _ from if_neg was, rejectNow_srcAcc, refSt_refMod_same]

/-- Beside the frame of Daylight: whatever antenna's alarm had failed its source check, its alarm does so afterwards. -/
structure KeepsAlarms (s t : State) : Prop where
  frame : OnlyDaylight s t
  fails : ∀ c, AlarmFails c s → AlarmFails c t

theorem KeepsAlarms.refl (s : State) : KeepsAlarms s s := ⟨.refl s, fun _ h => h⟩

theorem KeepsAlarms.trans {s t u : State} (x : KeepsAlarms s t) (y : KeepsAlarms t u) : KeepsAlarms s u :=
  ⟨x.frame.trans y.frame, fun c h => y.fails c (x.fails c h)⟩

theorem KeepsAlarms.ofAntenna {a : Nat} {s t : State} (x : OnlyAntenna a s t) (here : AlarmFails a s → AlarmFails a t) :
    KeepsAlarms s t where
  frame := x.frame
  fails c h := by
    by_cases same : c = a
    · subst same
      exact here h
    · exact x.alarmFails same h

theorem KeepsAlarms.ofTally {s t : State} (x : OnlyTally s t) : KeepsAlarms s t :=
  ⟨.ofTally x, fun c h => h.of_eq (by rw [x.antSt]) (x.refSt _)⟩

theorem KeepsAlarms.ofDayl (s : State) {d : DaylSt} (ants : d.ants = s.dayl.ants) : KeepsAlarms s { s with dayl := d } :=
  ⟨rfl, fun c h => h.of_eq (congrArg (fun m => (sget ({} : AntSt) m c).alarm) ants) rfl⟩

theorem KeepsAlarms.ite {c : Prop} [Decidable c] {s t u : State} (x : KeepsAlarms s t) (y : KeepsAlarms s u) :
    KeepsAlarms s (if c then t else u) := by
  split
  · exact x
  · exact y

theorem KeepsAlarms.antMod (a : Nat) {f : AntSt → AntSt} (same : ∀ x, (f x).alarm = x.alarm) (s : State) :
    KeepsAlarms s (antMod a f s) :=
  .ofAntenna (.antMod a f s) fun h => h.of_eq (by rw [antSt_antMod_same, same]) rfl

theorem checkFailed_onlyAntenna (a : Nat) (s : State) : OnlyAntenna a s (checkFailed a s) := .antMod a _ s

theorem checkFailed_keepsAlarms (a : Nat) (s : State) : KeepsAlarms s (checkFailed a s) :=
  .antMod a (f := fun x => { x with lastFail := s.clk.ticks }) (fun _ => rfl) s

theorem raiseAlarm_keepsAlarms (a b : Nat) (s : State) : KeepsAlarms s (raiseAlarm a b s) :=
  .ofAntenna (raiseAlarm_onlyAntenna a b s) (raiseAlarm_alarmFails a b)

theorem antCheck_onlyAntenna (a b : Nat) (fails now : Bool) (s : State) : OnlyAntenna a s (antCheck a b fails now s) :=
  .trans (.ite (checkFailed_onlyAntenna a s) (.refl a s)) (.ite (raiseAlarm_onlyAntenna a b _) (.refl a _))

theorem antCheck_keepsAlarms (a b : Nat) (fails now : Bool) (s : State) : KeepsAlarms s (antCheck a b fails now s) :=
  .trans (.ite (checkFailed_keepsAlarms a s) (.refl s)) (.ite (raiseAlarm_keepsAlarms a b _) (.refl _))

end Sys2Proof.Machine
end

section
/-! PROOFS. O20: the second of a GNSS solution. -/

namespace Sys2Proof.Machine

open Safety

/-! ### The steps of one antenna's second -/

theorem statsStep_onlyAntenna (a : Nat) (o : AntObs) (s : State) : OnlyAntenna a s (statsStep a o s) :=
  .ite (.refl a s) (.trans (.antMod a _ s) (.ofReports (ite_onlyReports (irqRaise_onlyReports ..) (.refl _))))

theorem todStep_onlyAntenna (a : Nat) (o : AntObs) (s : State) : OnlyAntenna a s (todStep o s) :=
  .ite (.ofDayl s rfl) (.ite (.ofDayl s rfl) (.refl a s))

theorem rateStep_onlyAntenna (a : Nat) (o : AntObs) (s : State) : OnlyAntenna a s (rateStep a o s) := by
  unfold rateStep
  split
  · exact .antMod a _ s
  · exact .refl a s

theorem exclude_onlyAntenna (a : Nat) (ks : List Nat) (s : State) : OnlyAntenna a s (exclude a ks s) :=
  .ite (.refl a s) (.trans (.antMod a _ s) (.ofReports ((rfBump_onlyReports ..).trans (irqRaise_onlyReports ..))))

theorem chanStep_onlyAntenna (a : Nat) (o : AntObs) (out : List Nat) (s : State) : OnlyAntenna a s (chanStep a o out s) :=
  .foldl (fun t e => .ofDayl t (d := { t.dayl with chans := smod {} t.dayl.chans (e.n % 384) (chanReport t a out e) }) rfl) _ s

theorem setClass_onlyAntenna (a : Nat) (d : Bool) (s : State) : OnlyAntenna a s (setClass a d s) := by
  refine .trans ?_ (.ofTally (ite_onlyTally (bumpEpoch_onlyTally _) (.refl _)))
  exact .trans (.antMod a _ s) (.refMod a _ _)

theorem validStep_onlyAntenna (a : Nat) (o : AntObs) (v : Solve) (s : State) : OnlyAntenna a s (validStep a o v s) := by
  unfold validStep
  refine .trans ?_ (.ofReports (ite_onlyReports (irqRaise_onlyReports ..) (.refl _)))
  refine .trans ?_ (.refMod a _ _)
  refine .trans ?_ (.antMod a _ _)
  refine .trans ?_ (.ite (.antMod a _ _) (.refl a _))
  refine .trans ?_ (.antMod a _ _)
  exact .trans (.antMod a _ s) (setClass_onlyAntenna a v.dual _)

theorem invalidStep_onlyAntenna (a : Nat) (v : Solve) (s : State) : OnlyAntenna a s (invalidStep a v s) := by
  unfold invalidStep
  refine .trans ?_ (.ofReports (ite_onlyReports (irqRaise_onlyReports ..) (.refl _)))
  exact .trans (.antMod a _ s) (.trans (.ofReports (rfBump_onlyReports ..)) (.refMod a _ _))

/-- The inter-system check excludes a system (R130). -/
theorem sysExclude_onlyAntenna (a y : Nat) (s : State) : OnlyAntenna a s
    (irqRaise 7 6 (rfBump (antCntAddr a) 15 0 1 (antMod a (fun x => { x with sysExcl := x.sysExcl ||| 2 ^ y }) s))) :=
  .trans (.antMod a _ s) (.ofReports ((rfBump_onlyReports ..).trans (irqRaise_onlyReports ..)))

theorem antChecks_onlyAntenna (a : Nat) (o : AntObs) (v : Solve) (s : State) : OnlyAntenna a s (antChecks a o v s) := by
  unfold antChecks
  have power : ∀ (c p : Bool) (f : AntSt → AntSt),
      OnlyAntenna a s (antMod a f (antCheck a 0 p true (if c then checkFailed a s else s))) := fun c p f =>
    .trans (.trans (.ite (checkFailed_onlyAntenna a s) (.refl a s)) (antCheck_onlyAntenna a 0 p true _)) (.antMod a f _)
  have phase : ∀ (u : State) (r p n : Bool) (f : AntSt → AntSt),
      OnlyAntenna a u (antCheck a 5 p n (antMod a f (antCheck a 4 r true u))) := fun u r p n f =>
    .trans (.trans (antCheck_onlyAntenna a 4 r true u) (.antMod a f _)) (antCheck_onlyAntenna a 5 p n _)
  refine .trans ?_ (.ite (.antMod a _ _) (phase _ _ _ _ _))
  refine .trans ?_ (antCheck_onlyAntenna a 6 _ _ _)
  split
  · exact .trans (power _ _ _) (.ite (sysExclude_onlyAntenna a _ _) (.refl a _))
  · exact .trans (power _ _ _) (.ite (.ite (antCheck_onlyAntenna a 1 _ _ _) (.refl a _)) (.antMod a _ _))

theorem surveyStep_onlyAntenna (a : Nat) (p : Int × Int × Int) (s : State) : OnlyAntenna a s (surveyStep a p s) :=
  .trans (.antMod a _ s) (.ofReports (ite_onlyReports (irqRaise_onlyReports ..) (.refl _)))

/-- At the end of its second an antenna in use has the source check judged by its solution and its alarm. -/
theorem antSecond_judges {a : Nat} {s : State} (used : antUsed s a = true) (x : Option AntObs) :
    ∃ valid u, OnlyAntenna a s u ∧
      antSecond a x s = refMod (6 + a) (fun r => { r with srcAcc := valid && !(antSt u a).alarm }) u := by
  have observed : ∀ (o : AntObs) (f : AntSt → AntSt) (ks out : List Nat), OnlyAntenna a s
      (chanStep a o out (exclude a ks (rateStep a o (todStep o (antMod a f (statsStep a o s)))))) := fun o f ks out =>
    .trans (.trans (.trans (statsStep_onlyAntenna a o s) (.antMod a f _)) (.trans (todStep_onlyAntenna a o _)
      (rateStep_onlyAntenna a o _))) (.trans (exclude_onlyAntenna a ks _) (chanStep_onlyAntenna a o out _))
  have solved : ∀ (o : AntObs) (v : Solve) (u : State), OnlyAntenna a u
      (antChecks a o v (if v.valid then validStep a o v u else invalidStep a v u)) := fun o v u =>
    .trans (.ite (validStep_onlyAntenna a o v u) (invalidStep_onlyAntenna a v u)) (antChecks_onlyAntenna a o v _)
  refine ⟨_, _, ?_, if_neg (by simp [used])⟩
  split
  · exact .trans (.trans (observed _ _ _ _) (solved _ _ _)) (.ite (surveyStep_onlyAntenna a _ _) (.refl a _))
  · exact .trans (observed _ _ _ _) (solved _ _ _)

theorem antSecond_onlyAntenna {a : Nat} {s : State} (used : antUsed s a = true) (x : Option AntObs) :
    OnlyAntenna a s (antSecond a x s) := by
  obtain ⟨valid, u, frame, eq⟩ := antSecond_judges used x
  rw [eq]
  exact frame.trans (.refMod a _ u)

theorem antSecond_alarmFails {a : Nat} {s : State} (used : antUsed s a = true) (x : Option AntObs) :
    AlarmFails a (antSecond a x s) := by
  obtain ⟨valid, u, _, eq⟩ := antSecond_judges used x
  rw [eq]
  intro alarm
  rw [antSt_refMod] at alarm
  rw [refSt_refMod_same, alarm]
  exact Bool.and_false valid

/-! ### The pair checks (R130) -/

theorem geomCheck_keepsAlarms (l : List (Nat × Nat)) (s : State) : KeepsAlarms s (geomCheck l s) :=
  .trans (.ofDayl s (by rfl)) (.trans (antCheck_keepsAlarms 0 2 _ _ _) (antCheck_keepsAlarms 1 2 _ _ _))

theorem pairCheck_keepsAlarms (s : State) : KeepsAlarms s (pairCheck s) := by
  refine .trans (.ofDayl s (by rfl)) (.ite (.refl _) ?_)
  refine .trans (.trans (checkFailed_keepsAlarms 0 _) (checkFailed_keepsAlarms 1 _)) (.ite (.refl _) ?_)
  refine .ite (.trans (raiseAlarm_keepsAlarms 0 3 _) (raiseAlarm_keepsAlarms 1 3 _)) ?_
  exact .ite (raiseAlarm_keepsAlarms 1 3 _) (raiseAlarm_keepsAlarms 0 3 _)

theorem clearDiscard_keepsAlarms (a : Nat) (s : State) : KeepsAlarms s (clearDiscard a s) :=
  .antMod a (f := fun x => { x with discarded := decide (s.clk.ticks < x.cleanFrom) }) (fun _ => rfl) s

/-- Settles O20: each antenna's second judges its own source check, and no later step of the second undoes that. -/
theorem alarmedAntennaFailsItsSourceCheck : Obligations.AlarmedAntennaFailsItsSourceCheck := by
  unfold Obligations.AlarmedAntennaFailsItsSourceCheck
  intro oa ob geom s usedA usedB
  refine ⟨_, rfl, ?_⟩
  have time := elapseTo_onlyTime (tickOfLode ((nowFu s / oneSec + 1) * oneSec) s) s
  generalize elapseTo (tickOfLode ((nowFu s / oneSec + 1) * oneSec) s) s = w at time ⊢
  have shared : OnlyDaylight w (allocate w) := rfl
  rw [← antUsed_of_cfg (shared.cfg.trans time.cfg)] at usedA usedB
  have first := antSecond_onlyAntenna usedA oa
  have firstFails := antSecond_alarmFails usedA oa
  rw [← antUsed_of_cfg first.frame.cfg] at usedB
  have second := antSecond_onlyAntenna usedB ob
  have fails : ∀ a, a < 2 → AlarmFails a (antSecond 1 ob (antSecond 0 oa (allocate w))) := by
    intro a range
    obtain rfl | rfl : a = 0 ∨ a = 1 := by omega
    · exact second.alarmFails (by decide) firstFails
    · exact antSecond_alarmFails usedB ob
  have checks := (((geomCheck_keepsAlarms geom (antSecond 1 ob (antSecond 0 oa (allocate w)))).trans
    (pairCheck_keepsAlarms _)).trans ((clearDiscard_keepsAlarms 0 _).trans (clearDiscard_keepsAlarms 1 _))).trans
    (.ofTally (tallyRefresh_onlyTally _))
  have all := ((shared.trans first.frame).trans second.frame).trans checks.frame
  exact ⟨fun a range => checks.fails a (fails a range), all.clk, all.lode.trans time.lode, all.cfg.trans time.cfg⟩

end Sys2Proof.Machine
end

section
/-! SUPPORT. Daylight's commands, each by its equation, and the orbit cache under what is written to it (R31, R118 to R123, R131 to R134). -/

namespace Sys2Proof.Machine

open Safety

/-! ### Samples and channels -/

/-- The end of a block of samples changes the Dial alone. -/
theorem sampleBlock_ends (a : Ant) (u : State) : ∃ d, (match dialOf u 1 (7 + a) with
    | some ch => dialMod ch (fun c => { c with
        block := { before := if c.block.n = 0 then c.block.before else some c.block.last } }) u
    | none => u) = { u with dial := d } := by
  cases dialOf u 1 (7 + a) with
  | some ch => exact ⟨_, rfl⟩
  | none => exact ⟨_, rfl⟩

section
variable {s u : State} (applied : s.surv.structureApplied = true) (due : elapseTo (nextMultiple (10 * ticksPerMs) s) s = u)
include applied due

/-- A block with a line through it gives the antenna its sample times. -/
theorem exec_sampleTimeFit_line {a : Ant} {ok : Bool} (fits : (ok && !u.lode.coarse && (blockOf u a).isSome) = true) :
    ∃ d, exec (.sampleTimeFit a ok) s = .next (antMod a (fun x => { x with
      line := blockOf u a, lost := x.lost && !decide (x.cleanFrom ≤ u.clk.ticks) }) { u with dial := d }) := by
  subst due
  obtain ⟨d, ended⟩ := sampleBlock_ends a (elapseTo (nextMultiple (10 * ticksPerMs) s) s)
  refine ⟨d, (if_neg (by simp [applied])).trans ?_⟩
  rw [← ended]
  exact if_pos fits

/-- Any other block discards the antenna's samples for one second, and is reported. -/
theorem exec_sampleTimeFit_discards {a : Ant} {ok : Bool} (bad : (ok && !u.lode.coarse && (blockOf u a).isSome) = false) :
    ∃ d t, exec (.sampleTimeFit a ok) s = .next t ∧ OnlyReports (antMod a (fun x => { x with
      cleanFrom := u.clk.ticks + ticksPerSec, discarded := true, lost := true }) { u with dial := d }) t := by
  subst due
  obtain ⟨d, ended⟩ := sampleBlock_ends a (elapseTo (nextMultiple (10 * ticksPerMs) s) s)
  refine ⟨d, _, (if_neg (by simp [applied])).trans (if_neg (Bool.eq_false_iff.mp bad)), ?_⟩
  rw [← ended]
  exact ite_onlyReports (.refl _) (faultEvent_onlyReports ..)

end

/-- An acquisition puts the channel into pull-in; beside the channels only the record of the search moves. -/
theorem exec_acquisitionDone {n : Fin 384} {a : Ant} {sig : Fin 9} {sv : Nat} {s : State} (used : antUsed s a = true)
    (enabled : bitAt (antCfg s a).signals sig = true) (chan : chanFor s a sig (sv % 256) = some n.val) (cn0 : Nat) :
    let c : ChanSt := { state := 2, ant := a, signal := sig, sv := sv % 256, cn0 := cn0 % 256 }
    ∃ d, d.chans = sput {} s.dayl.chans n.val c ∧ exec (.acquisitionDone n a sig sv cn0) s = .next { s with dayl := d } := by
  intro c
  refine ⟨{ s.dayl with
    searchCode := (searchWidths s a (signalOf sig).band).1, searchHz := (searchWidths s a (signalOf sig).band).2
    searchCentre := carrierCentre s a (signalOf sig).band, chans := sput {} s.dayl.chans n.val c }, rfl, ?_⟩
  show execAcquisitionDone n a sig sv cn0 s = _
  simp only [execAcquisitionDone, used, enabled, chan, Bool.not_true, Bool.or_self, Bool.false_eq_true, if_false, ne_eq,
    not_true_eq_false, c]

theorem exec_channelLost {n : Fin 384} {t0 : Nat} {s : State} (low : (sget {} s.dayl.chans n.val).lowTick = some t0) :
    exec (.channelLost n) s = .next (let u := elapseTo (t0 + 2 * ticksPerSec) s
      { u with dayl := { u.dayl with
        chans := smod {} u.dayl.chans n.val fun c => { c with state := 6, lowTick := none } } }) := by
  show execChannelLost n s = _
  rw [execChannelLost, low]

/-! ### The orbit cache (R31, R122, R134) -/

theorem leapDisagree_onlyReports (l : LeapSt) (s : State) : OnlyReports s (leapDisagree l s) :=
  ite_onlyReports (faultEvent_onlyReports ..) (.refl s)

/-- A leap announcement that is offered goes to the leap state and to the fault collector. -/
theorem leapOffer_dayl (src : LeapSource) (offset pending : Int) (instant : Nat) (s : State) :
    (leapOffer src offset pending instant s).dayl = s.dayl := by
  unfold leapOffer
  split
  · exact (faultEvent_onlyReports ..).dayl
  · exact (ite_onlyReports (ite_onlyReports (faultEvent_onlyReports ..) (.refl _)) (leapDisagree_onlyReports ..)).dayl

/-- A vote on a leap leaves the orbit cache. -/
theorem leapVote_orbit (k : Nat) (v : Int × Int × Nat) (s : State) : (leapVote k v s).dayl.orbit = s.dayl.orbit := by
  let u := { s with dayl := { s.dayl with votes := sput none s.dayl.votes k (some v) } }
  by_cases two : 2 ≤ (u.dayl.votes.filter fun e => e.2 == some v).length
  · rw [show leapVote k v s = _ from if_pos two, leapOffer_dayl]
  · rw [show leapVote k v s = _ from if_neg two]

/-- In the orbit cache the place of satellite `k` comes to be `o`, and every other one stays. -/
structure OrbitBecomes (k : Nat) (o : OrbitSt) (s t : State) : Prop where
  here : orbitSt t k = o
  others : ∀ j, j ≠ k → orbitSt t j = orbitSt s j

theorem OrbitBecomes.of_sput {k : Nat} {o : OrbitSt} {s t : State} (orbit : t.dayl.orbit = sput {} s.dayl.orbit k o) :
    OrbitBecomes k o s t := by
  refine ⟨?_, fun j h => ?_⟩
  · rw [orbitSt, orbit, sget_sput_same]
  · rw [orbitSt, orbit, sget_sput_ne _ h]
    rfl

theorem OrbitBecomes.of_orbit {k : Nat} {o : OrbitSt} {s t u : State} (x : OrbitBecomes k o s t)
    (orbit : u.dayl.orbit = t.dayl.orbit) : OrbitBecomes k o s u := by
  have same : ∀ j, orbitSt u j = orbitSt t j := fun j => congrArg (fun m => sget ({} : OrbitSt) m j) orbit
  exact ⟨(same k).trans x.here, fun j h => (same j).trans (x.others j h)⟩

/-- A decoded ephemeris is confirmed: it lies within 100 m of the cached one, or within 1 m of the new one before it. -/
def EphConfirmed (o : OrbitSt) (cached previous : Option Nat) : Prop :=
  (o.eph.isSome = true ∧ ∃ d, cached = some d ∧ d ≤ 10000) ∨
  (o.pending.isSome = true ∧ ∃ d, previous = some d ∧ d ≤ 100)

/-- What a decoded ephemeris `e` leaves in its satellite's place: `week` is its week, where that is known. -/
structure EphStored (o o' : OrbitSt) (e now : Nat) (week : Option Nat) (cached previous : Option Nat) : Prop where
  confirmed : ∀ wk, week = some wk → EphConfirmed o cached previous →
    o'.eph = some (e, (now : Int)) ∧ o'.pending = none ∧ o'.week = some wk
  waits : ∀ wk, week = some wk → ¬ EphConfirmed o cached previous → o'.pending = some e ∧ o'.eph = o.eph
  unresolved : week = none → o'.eph = o.eph ∧ o'.pending = o.pending

/-- The model's test of a distance, as a proposition. -/
theorem distanceTest_iff (known : Bool) (limit : Nat) (x : Option Nat) :
    (match x with
      | some d => known && decide (d ≤ limit)
      | none => false) = true ↔ known = true ∧ ∃ d, x = some d ∧ d ≤ limit := by
  cases x with
  | none => simp
  | some d => simp

section
variable {o p q : OrbitSt} {e now : Nat} {week cached previous : Option Nat}

/-! What each branch of the model's rule for a decoded ephemeris leaves. -/

theorem EphStored.of_confirmed {wk : Nat} (known : week = some wk) (ok : EphConfirmed o cached previous) :
    EphStored o { o with eph := some (e, now), pending := none, week := some wk } e now week cached previous :=
  ⟨fun _ h _ => ⟨rfl, rfl, known.symm.trans h⟩, fun _ _ no => absurd ok no, fun h => (nomatch known.symm.trans h)⟩

theorem EphStored.of_waiting {wk : Nat} (known : week = some wk) (no : ¬ EphConfirmed o cached previous) :
    EphStored o { o with pending := some e } e now week cached previous :=
  ⟨fun _ _ ok => absurd ok no, fun _ _ _ => ⟨rfl, rfl⟩, fun h => (nomatch known.symm.trans h)⟩

theorem EphStored.of_unresolved (unknown : week = none) : EphStored o o e now week cached previous :=
  ⟨fun _ h => (nomatch unknown.symm.trans h), fun _ h => (nomatch unknown.symm.trans h), fun _ => ⟨rfl, rfl⟩⟩

/-- An almanac is kept beside the ephemeris. -/
theorem EphStored.withAlm (x : EphStored o p e now week cached previous) (alm : Option (Nat × Int)) :
    EphStored o { p with alm := alm } e now week cached previous :=
  ⟨x.confirmed, x.waits, x.unresolved⟩

/-- The week that a CNAV message names is kept beside the ephemeris. -/
theorem EphStored.withCnav (x : EphStored o p e now week cached previous) (cnav : Option Nat) :
    EphStored o { p with cnavWeek := cnav } e now week cached previous :=
  ⟨x.confirmed, x.waits, x.unresolved⟩

theorem EphStored.ite {c : Prop} [Decidable c] (x : c → EphStored o p e now week cached previous)
    (y : ¬ c → EphStored o q e now week cached previous) : EphStored o (if c then p else q) e now week cached previous := by
  split
  · next h => exact x h
  · next h => exact y h

end

/-- A decoded ephemeris writes its satellite's place; what else is decoded goes to the rest of Daylight and to the leap
state. -/
theorem exec_ephemerisDecoded (sig : Fin 9) (sv e w : Nat) (cached previous alm : Option Nat) (utc : Option (Int × Int))
    (iono : Option Nat) (lp : Option (Int × Int × Nat)) (s : State) :
    let k := satNo (signalOf sig).sys (sv % 256)
    ∃ o' utc' iono' v, EphStored (orbitSt s k) o' e s.clk.ticks (resolveWeek s sig k w) cached previous ∧
      (let u := { s with dayl := { s.dayl with orbit := sput {} s.dayl.orbit k o', utc := utc', iono := iono' } }
       v = if (orbitSt s k).pending.isNone && o'.pending.isSome then irqRaise 7 5 u else u) ∧
      exec (.ephemerisDecoded sig sv (some (e, w)) cached previous alm ⟨utc, iono, lp⟩) s =
        .next (lp.elim v fun l => leapVote k l v) := by
  intro k
  refine ⟨?o, ?utc, ?iono, _, ?stored, rfl, ?eq⟩
  case eq => cases lp <;> rfl
  case stored =>
    have test : ((match cached with
          | some d => (orbitSt s k).eph.isSome && decide (d ≤ 10000)
          | none => false) ||
        (match previous with
          | some d => (orbitSt s k).pending.isSome && decide (d ≤ 100)
          | none => false)) = true ↔ EphConfirmed (orbitSt s k) cached previous := by
      rw [Bool.or_eq_true, distanceTest_iff, distanceTest_iff, EphConfirmed]
    have agreed := fun wk (known : resolveWeek s sig k w = some wk) => EphStored.ite (e := e) (now := s.clk.ticks)
      (fun h => .of_confirmed known (test.mp h)) (fun h => .of_waiting known (fun ok => h (test.mpr ok)))
    cases alm
    case' some x => refine .withAlm ?_ (some (x, (s.clk.ticks : Int)))
    all_goals
      dsimp only
      split
      · next wk known => exact .ite (fun _ => (agreed wk known).withCnav (some wk)) fun _ => agreed wk known
      · next unknown => exact .of_unresolved unknown

/-! ### Alarms, anchors and burst tracking (R123, R131, R132) -/

theorem exec_alarmClear {a : Ant} {s : State} (alarm : (antSt s a).alarm = true) :
    let u := elapseTo ((antSt s a).lastFail + (antCfg s a).clearS * ticksPerSec) s
    exec (.alarmClear a) s = .next (irqRaise 7 3 (heldEnd (65 + a) 1
      (antMod a (fun x => { x with alarm := false, causes := 0, badTick := u.clk.ticks }) u))) :=
  if_neg (by simp [alarm])

/-- What keeps an anchor from moving: an alarm, no qualified flywheel, or no offset of the antenna. -/
def AnchorHeld (a : Ant) (s : State) : Prop :=
  (antSt s 0).alarm = true ∨ (antSt s 1).alarm = true ∨ s.assay.fwOk = false ∨ (antSt s a).us = []

/-- Time is no reason for an anchor to move or stay. -/
theorem anchorHeld_elapseTo (a : Ant) (t : Nat) (s : State) : AnchorHeld a (elapseTo t s) ↔ AnchorHeld a s := by
  have time := elapseTo_onlyTime t s
  have fw : (elapseTo t s).assay.fwOk = s.assay.fwOk := by rw [time]
  rw [AnchorHeld, time.antSt, time.antSt, time.antSt, fw]
  rfl

theorem exec_anchorMove {a : Ant} {t0 : Nat} {ua y : Int} {s : State} (anchor : (antSt s a).anchor = some (t0, ua, y)) :
    let u := elapseTo (t0 + (antCfg s a).tauAnchor * ticksPerSec) s
    (AnchorHeld a s → exec (.anchorMove a) s = .next u) ∧
    (¬ AnchorHeld a s → exec (.anchorMove a) s = .next (antMod a (fun x => { x with
      anchor := some (u.clk.ticks, roundDiv (sumInt (antSt u a).us) (antSt u a).us.length, u.lode.yFw) }) u)) := by
  intro u
  have test : ((antSt u 0).alarm || (antSt u 1).alarm || !u.assay.fwOk || (antSt u a).us.isEmpty) = true ↔ AnchorHeld a s := by
    rw [← anchorHeld_elapseTo a (t0 + (antCfg s a).tauAnchor * ticksPerSec) s]
    simp [AnchorHeld, u, or_assoc]
  have due : exec (.anchorMove a) s =
      if (antSt u 0).alarm || (antSt u 1).alarm || !u.assay.fwOk || (antSt u a).us.isEmpty then .next u
      else .next (antMod a (fun x => { x with
        anchor := some (u.clk.ticks, roundDiv (sumInt (antSt u a).us) (antSt u a).us.length, u.lode.yFw) }) u) := by
    show execAnchorMove a s = _
    rw [execAnchorMove, anchor]
  exact ⟨fun held => due.trans (if_pos (test.mpr held)), fun free => due.trans (if_neg fun h => free (test.mp h))⟩

theorem exec_burstModeChange_same {a : Ant} {s : State} (same : (antUsed s a && burstAllowed s a) = (antSt s a).burst) :
    exec (.burstModeChange a) s = .next s := if_pos same

/-- Burst tracking that begins or ends is marked in the antenna and its channels, and reported. -/
theorem exec_burstModeChange_changes {a : Ant} {s : State} (new : (antUsed s a && burstAllowed s a) ≠ (antSt s a).burst) :
    ∃ t, exec (.burstModeChange a) s = .next t ∧ (antSt t a).burst = (antUsed s a && burstAllowed s a) ∧
      OnlyReports { s with dayl := t.dayl } t := by
  have reports := irqRaise_onlyReports 7 7
  refine ⟨_, if_neg new, ?_, ?_⟩
  · rw [(reports _).tally'.antSt]
    exact congrArg (fun x : AntSt => x.burst) (sget_smod_same s.dayl.ants a
      fun x => { x with burst := antUsed s a && burstAllowed s a, window := false })
  · rw [(reports _).dayl]
    exact reports _

theorem exec_burstWindow {a : Ant} {s : State} (burst : (antSt s a).burst = true) :
    ∃ t, exec (.burstWindow a) s = .next (antMod a (fun y => { y with window := !y.window }) (elapseTo t s)) :=
  ⟨_, if_neg (by simp [burst])⟩

end Sys2Proof.Machine
end

section
/-! PROOFS. O21: Daylight's samples, channels, orbit cache, alarm, anchor and burst tracking. -/

namespace Sys2Proof.Machine

open Safety

/-- The sample block's end in both of its cases. -/
theorem sampleTimeFit_cases {s : State} (applied : s.surv.structureApplied = true) (a : Ant) (ok : Bool) :
    ∃ t u, u = elapseTo (nextMultiple (10 * ticksPerMs) s) s ∧
      exec (.sampleTimeFit a ok) s = .next t ∧ OnlyReports { u with dayl := t.dayl, dial := t.dial } t ∧
      ((ok && !s.lode.coarse && (blockOf u a).isSome) = false →
        (antSt t a).cleanFrom = u.clk.ticks + ticksPerSec ∧ (antSt t a).discarded = true ∧ (antSt t a).lost = true) ∧
      (ok = true → s.lode.coarse = false → (blockOf u a).isSome = true →
        (antSt t a).line = blockOf u a ∧ (antSt t a).cleanFrom = (antSt s a).cleanFrom) := by
  have time := elapseTo_onlyTime (nextMultiple (10 * ticksPerMs) s) s
  generalize due : elapseTo (nextMultiple (10 * ticksPerMs) s) s = u at time
  rw [← time.lode]
  cases fits : ok && !u.lode.coarse && (blockOf u a).isSome with
  | true =>
    obtain ⟨d, run⟩ := exec_sampleTimeFit_line applied due fits
    refine ⟨_, u, rfl, run, rfl, fun bad => (nomatch fits.symm.trans bad), fun _ _ _ => ?_⟩
    rw [antSt_antMod_same]
    exact ⟨rfl, congrArg (·.cleanFrom) (time.antSt a)⟩
  | false =>
    obtain ⟨d, t, run, reports⟩ := exec_sampleTimeFit_discards applied due fits
    refine ⟨t, u, rfl, run, ?_, fun _ => ?_, fun good fine line => ?_⟩
    · rw [reports.dayl, reports.dial]
      exact reports
    · rw [reports.tally'.antSt, antSt_antMod_same]
      exact ⟨rfl, rfl, rfl⟩
    · simp [good, fine, line] at fits

/-- A decoded ephemeris is stored by the rules of R134; the rest of the cache stays, and without leap data nothing beside
Daylight changes but what is reported. -/
theorem ephemerisDecoded_stores (sig : Fin 9) (sv e w : Nat) (cached previous alm : Option Nat) (utc : Option (Int × Int))
    (iono : Option Nat) (lp : Option (Int × Int × Nat)) (s : State) :
    let k := satNo (signalOf sig).sys (sv % 256)
    ∃ t, exec (.ephemerisDecoded sig sv (some (e, w)) cached previous alm ⟨utc, iono, lp⟩) s = .next t ∧
      EphStored (orbitSt s k) (orbitSt t k) e s.clk.ticks (resolveWeek s sig k w) cached previous ∧
      (∀ j, j ≠ k → orbitSt t j = orbitSt s j) ∧ (lp = none → OnlyReports { s with dayl := t.dayl } t) := by
  intro k
  obtain ⟨o', utc', iono', v, stored, written, run⟩ := exec_ephemerisDecoded sig sv e w cached previous alm utc iono lp s
  have reports : OnlyReports { s with dayl := { s.dayl with
      orbit := sput {} s.dayl.orbit k o', utc := utc', iono := iono' } } v :=
    written ▸ ite_onlyReports (irqRaise_onlyReports ..) (.refl _)
  have becomes : OrbitBecomes k o' s v := .of_sput (congrArg (·.orbit) reports.dayl)
  refine ⟨_, run, ?_⟩
  cases lp with
  | none =>
    refine ⟨by rw [Option.elim, becomes.here]; exact stored, becomes.others, fun _ => ?_⟩
    rw [Option.elim, reports.dayl]
    exact reports
  | some l =>
    have voted := becomes.of_orbit (leapVote_orbit k l v)
    exact ⟨by rw [Option.elim, voted.here]; exact stored, voted.others, fun h => nomatch h⟩

/-- Settles O21: each command by its equation. -/
theorem daylightChannelsCacheAndAnchors : Obligations.DaylightChannelsCacheAndAnchors := by
  unfold Obligations.DaylightChannelsCacheAndAnchors
  refine ⟨fun a ok s early => if_pos (by simp [early]), fun a ok s applied => sampleTimeFit_cases applied a ok, ?acquired,
    ?lost, ?ephemeris, ?clear, ?moves, ?stays, fun a s => rfl, ?burst, ?window, fun a s off => if_pos (by simp [off])⟩
  case acquired =>
    intro n a sig sv cn0 s used enabled chan
    obtain ⟨d, chans, run⟩ := exec_acquisitionDone used enabled chan cn0
    exact ⟨_, run, by rw [chans, sget_sput_same], fun m h => by rw [chans, sget_sput_ne _ h], rfl⟩
  case lost =>
    intro n t0 s low
    have time := elapseTo_onlyTime (t0 + 2 * ticksPerSec) s
    refine ⟨_, _, time, elapseTo_ticks .., exec_channelLost low, rfl, by rw [sget_smod_same], fun m h => ?_⟩
    rw [sget_smod_ne _ h, time.dayl]
  case ephemeris =>
    intro sig sv e w cached previous alm utc iono lp s
    obtain ⟨t, run, stored, others, reports⟩ := ephemerisDecoded_stores sig sv e w cached previous alm utc iono lp s
    exact ⟨t, run, ⟨fun wk known => ⟨stored.confirmed wk known, fun far apart =>
      stored.waits wk known (not_or.mpr ⟨far, apart⟩)⟩, stored.unresolved, others⟩, reports⟩
  case clear =>
    intro a s alarm
    have time := elapseTo_onlyTime ((antSt s a).lastFail + (antCfg s a).clearS * ticksPerSec) s
    have reports := fun (w : State) => (heldEnd_onlyReports (65 + a) 1 w).trans (irqRaise_onlyReports 7 3 _)
    refine ⟨_, exec_alarmClear alarm, ?_⟩
    rw [(reports _).tally'.antSt, (reports _).clk, (reports _).lode, antSt_antMod_same]
    exact ⟨rfl, rfl, elapseTo_ticks .., time.lode⟩
  case moves =>
    intro a t0 ua y s anchor fw quietA quietB offsets
    have time := elapseTo_onlyTime (t0 + (antCfg s a).tauAnchor * ticksPerSec) s
    refine ⟨_, (exec_anchorMove anchor).2 (by simp [AnchorHeld, fw, quietA, quietB, offsets]), ?_⟩
    rw [antSt_antMod_same, time.antSt, time.lode]
    rfl
  case stays =>
    intro a t0 ua y s anchor held
    exact ⟨_, (exec_anchorMove anchor).1 held, elapseTo_onlyTime ..⟩
  case burst =>
    intro a s
    by_cases same : (antUsed s a && burstAllowed s a) = (antSt s a).burst
    · exact ⟨s, exec_burstModeChange_same same, same.symm, rfl, rfl⟩
    · obtain ⟨t, run, burst, reports⟩ := exec_burstModeChange_changes same
      exact ⟨t, run, burst, reports.lode, reports.clk⟩
  case window =>
    intro a s on
    obtain ⟨t, run⟩ := exec_burstWindow on
    refine ⟨_, run, ?_⟩
    rw [antSt_antMod_same, (elapseTo_onlyTime t s).antSt]

end Sys2Proof.Machine
end

section
/-! SUPPORT. One synthesiser at a time: what each operation of a ramp generator leaves in it, and that the others stay (R159, R160). -/

namespace Sys2Proof.Safety

open Machine

theorem OnlyTime.synSt {s t : State} (a : OnlyTime s t) (n : Nat) : synSt t n = synSt s n := by
  unfold Machine.synSt
  rw [a.outs]

theorem OnlyTime.synCfg {s t : State} (a : OnlyTime s t) (n : Nat) : synCfg t n = synCfg s n := by
  unfold Machine.synCfg
  rw [a.cfg]

end Sys2Proof.Safety

namespace Sys2Proof.Machine

open Safety

@[simp] theorem synSt_synMod_same (n : Nat) (f : SynSt → SynSt) (s : State) : synSt (synMod n f s) n = f (synSt s n) :=
  sget_smod_same ..

theorem synSt_synMod_ne {k n : Nat} (h : k ≠ n) (f : SynSt → SynSt) (s : State) : synSt (synMod n f s) k = synSt s k :=
  sget_smod_ne _ h f

theorem OnlyOuts.synCfg {s t : State} (a : OnlyOuts s t) (n : Nat) : synCfg t n = synCfg s n := by
  unfold Machine.synCfg
  rw [a.cfg]

/-! ### What leaves every synthesiser -/

/-- The outputs and what is reported may differ, and no synthesiser. -/
structure KeepsSyns (s t : State) : Prop where
  frame : OnlyOuts s t
  syns : ∀ k, synSt t k = synSt s k

namespace KeepsSyns

variable {s t u : State}

theorem refl (s : State) : KeepsSyns s s := ⟨.refl s, fun _ => rfl⟩

theorem trans (a : KeepsSyns s t) (b : KeepsSyns t u) : KeepsSyns s u :=
  ⟨a.frame.trans b.frame, fun k => (b.syns k).trans (a.syns k)⟩

theorem ofReports (a : OnlyReports s t) : KeepsSyns s t := ⟨.ofReports a, fun _ => by unfold synSt; rw [a.outs]⟩

theorem outMod (m : Nat) (f : OutSt → OutSt) (s : State) : KeepsSyns s (outMod m f s) := ⟨rfl, fun _ => rfl⟩

theorem ite {c : Prop} [Decidable c] (a : KeepsSyns s t) (b : KeepsSyns s u) : KeepsSyns s (if c then t else u) := by
  split
  · exact a
  · exact b

theorem foldl {α : Type} {f : State → α → State} (h : ∀ s x, KeepsSyns s (f s x)) (l : List α) (s : State) :
    KeepsSyns s (l.foldl f s) := by
  induction l generalizing s with
  | nil => exact refl s
  | cons x r ih => exact (h s x).trans (ih (f s x))

theorem outSlew (m : Nat) (left : Bool) (s : State) : KeepsSyns s (outSlew m left s) := by
  have slews : KeepsSyns s (rfBump (outBase m + 0x20) 23 16 1
      (Machine.outMod m (fun o => { o with state := .slew, stepTick := s.clk.ticks }) s)) :=
    (outMod m _ s).trans (ofReports (rfBump_onlyReports ..))
  exact ite (slews.trans (ofReports (irqRaise_onlyReports ..))) slews

end KeepsSyns

/-! ### What changes one synthesiser -/

/-- Synthesiser `n` comes to be `y`; beside it only the outputs and what is reported may differ. -/
structure SynBecomes (n : Nat) (y : SynSt) (s t : State) : Prop where
  frame : OnlyOuts s t
  here : synSt t n = y
  others : ∀ k, k ≠ n → synSt t k = synSt s k

namespace SynBecomes

variable {n : Nat} {y z : SynSt} {s t u : State}

theorem synMod (n : Nat) (f : SynSt → SynSt) (s : State) : SynBecomes n (f (synSt s n)) s (synMod n f s) :=
  ⟨rfl, synSt_synMod_same n f s, fun _ h => synSt_synMod_ne h f s⟩

theorem trans (a : SynBecomes n y s t) (b : SynBecomes n z t u) : SynBecomes n z s u :=
  ⟨a.frame.trans b.frame, b.here, fun k h => (b.others k h).trans (a.others k h)⟩

theorem keeps (a : SynBecomes n y s t) (b : KeepsSyns t u) : SynBecomes n y s u :=
  ⟨a.frame.trans b.frame, (b.syns n).trans a.here, fun k h => (b.syns k).trans (a.others k h)⟩

end SynBecomes

/-- A synthesiser whose playback has ended (R159). -/
def rampEnded (y : SynSt) : SynSt := { y with run := false, hold := false, yr := 0, left := 0 }

/-- The end of playback: the outputs that played go FREE or slew back. -/
theorem rampEnd_becomes (n : Nat) (s : State) : SynBecomes n (rampEnded (synSt s n)) s (rampEnd n s) :=
  (SynBecomes.synMod n rampEnded s).keeps ((KeepsSyns.foldl (fun t m =>
    .ite (.ite (.outMod m _ t) (.outSlew m false t)) (.refl t)) _ _).trans (.ofReports (irqRaise_onlyReports ..)))

/-- A synthesiser that has entered segment `i`, which is `g` (R159). -/
def segEntered (i : Nat) (g : RampSeg) (y : SynSt) : SynSt :=
  { y with seg := i, left := g.dur, yr := if g.type = 2 then clampInt (-yrMax) yrMax g.value else y.yr }

theorem rampEnter_becomes {n i : Nat} {g : RampSeg} {s : State} (seg : (synCfg s n).profile[i]? = some g)
    (plays : g.type ≠ 0) : SynBecomes n (segEntered i g (synSt s n)) s (rampEnter n i s) := by
  have enters : rampEnter n i s = synMod n (segEntered i g) s := by
    simp only [rampEnter, seg]
    exact if_neg plays
  rw [enters]
  exact .synMod ..

theorem rampEnter_ends {n i : Nat} {s : State} (ends : ∀ g, (synCfg s n).profile[i]? = some g → g.type = 0) :
    rampEnter n i s = rampEnd n s := by
  unfold rampEnter
  split
  · next g seg => exact if_pos (ends g seg)
  · rfl

/-- A synthesiser that is not held is not held in its next segment, nor when there is none. -/
theorem rampEnter_unheld {n : Nat} {s : State} (free : (synSt s n).hold = false) (i : Nat) :
    ∃ y, y.hold = false ∧ SynBecomes n y s (rampEnter n i s) := by
  by_cases plays : ∃ g, (synCfg s n).profile[i]? = some g ∧ g.type ≠ 0
  · obtain ⟨g, seg, plays⟩ := plays
    exact ⟨segEntered i g (synSt s n), free, rampEnter_becomes seg plays⟩
  · rw [rampEnter_ends fun g seg => Decidable.byContradiction fun h => plays ⟨g, seg, h⟩]
    exact ⟨_, rfl, rampEnd_becomes n s⟩

/-! ### Playing a segment (R159) -/

/-- What a microsecond of a segment adds to y_r. -/
def segSlope (g : RampSeg) : Int := if g.type = 1 then g.value else 0

/-- A synthesiser that has played `j` microseconds of the segment `g`. -/
def segPlayed (g : RampSeg) (j : Nat) (y : SynSt) : SynSt :=
  { y with yr := clampInt (-yrMax) yrMax (y.yr + segSlope g * j), left := y.left - j }

theorem rampPlay_eq {n : Nat} {g : RampSeg} {s : State} (seg : (synCfg s n).profile[(synSt s n).seg]? = some g) (k : Nat) :
    rampPlay n k s = synMod n (segPlayed g (min k (synSt s n).left)) s := by
  simp only [rampPlay, seg]
  rfl

/-- Playing leaves a synthesiser where it is in its profile, and does not end playback. -/
theorem rampPlay_stays (n k : Nat) (s : State) : ∃ y, SynBecomes n y s (rampPlay n k s) ∧
    y.seg = (synSt s n).seg ∧ y.run = (synSt s n).run :=
  ⟨_, .synMod n _ s, rfl, rfl⟩

/-- Playing to the end of the segment is waiting for it, and then all of it. -/
theorem rampToEnd_eq (n : Nat) (s : State) : ∃ u, OnlyTime s u ∧ rampToEnd n s = rampPlay n (synSt s n).left u := by
  refine ⟨_, ?_, rfl⟩
  split
  · exact .refl s
  · exact elapseTo_onlyTime ..

/-! ### Underrun (R160) -/

/-- Synthesisers may be held that were not; nothing else of any synthesiser differs. -/
structure OnlyHolds (s t : State) : Prop where
  frame : OnlyOuts s t
  same : ∀ k, synSt t k = { synSt s k with hold := (synSt t k).hold }
  held : ∀ k, (synSt s k).hold = true → (synSt t k).hold = true

namespace OnlyHolds

variable {s t u : State}

theorem ofKeeps (a : KeepsSyns s t) : OnlyHolds s t :=
  ⟨a.frame, fun k => by rw [a.syns], fun k h => by rw [a.syns, h]⟩

theorem trans (a : OnlyHolds s t) (b : OnlyHolds t u) : OnlyHolds s u :=
  ⟨a.frame.trans b.frame, fun k => by rw [b.same k, a.same k], fun k h => b.held k (a.held k h)⟩

theorem foldl {α : Type} {f : State → α → State} (h : ∀ s x, OnlyHolds s (f s x)) (l : List α) (s : State) :
    OnlyHolds s (l.foldl f s) := by
  induction l generalizing s with
  | nil => exact ofKeeps (.refl s)
  | cons x r ih => exact (h s x).trans (ih (f s x))

end OnlyHolds

/-- The group hold of an underrun at synthesiser `k`, which counts it where `grouped`. -/
def groupHold (grouped : Bool) (t : State) (k : Nat) : State :=
  if (synSt t k).hold then t
  else
    let w := synMod k (fun y => { y with hold := true }) t
    if grouped then rfBump (0x00501030 + 0x100 * k) 31 16 1 w else w

theorem groupHold_holds (grouped : Bool) (k : Nat) (s : State) :
    OnlyHolds s (groupHold grouped s k) ∧ (synSt (groupHold grouped s k) k).hold = true := by
  unfold groupHold
  split
  · next held => exact ⟨.ofKeeps (.refl s), held⟩
  · have sets : SynBecomes k { synSt s k with hold := true } s
        (if grouped then rfBump (0x00501030 + 0x100 * k) 31 16 1 (synMod k (fun y => { y with hold := true }) s)
          else synMod k (fun y => { y with hold := true }) s) :=
      (SynBecomes.synMod k (fun y => { y with hold := true }) s).keeps
        (.ite (.ofReports (rfBump_onlyReports ..)) (.refl _))
    refine ⟨⟨sets.frame, fun j => ?_, fun j held => ?_⟩, by rw [sets.here]⟩
    · by_cases h : j = k
      · rw [h, sets.here]
      · rw [sets.others j h]
    · by_cases h : j = k
      · rw [h, sets.here]
      · rw [sets.others j h, held]

theorem foldl_groupHold_holds (grouped : Bool) {k : Nat} {l : List Nat} (mem : k ∈ l) (s : State) :
    (synSt (l.foldl (groupHold grouped) s) k).hold = true := by
  induction l generalizing s with
  | nil => nomatch mem
  | cons x r ih =>
    rcases List.mem_cons.mp mem with rfl | later
    · exact (OnlyHolds.foldl (fun t j => (groupHold_holds grouped j t).1) r _).held k (groupHold_holds grouped k s).2
    · exact ih later _

/-- An underrun holds every synthesiser of the hold set, and changes no other field of any. -/
theorem rampUnderrun_holds (n : Nat) (s : State) :
    OnlyHolds s (rampUnderrun n s) ∧ ∀ k ∈ holdSet s n, (synSt (rampUnderrun n s) k).hold = true := by
  have counted : KeepsSyns s (rfBump (0x00501030 + 0x100 * n) 15 0 1 s) := .ofReports (rfBump_onlyReports ..)
  have holds := OnlyHolds.foldl (fun t j => (groupHold_holds (synGrouped s n) j t).1) (holdSet s n)
    (rfBump (0x00501030 + 0x100 * n) 15 0 1 s)
  have reported : KeepsSyns ((holdSet s n).foldl (groupHold (synGrouped s n)) (rfBump (0x00501030 + 0x100 * n) 15 0 1 s))
      (rampUnderrun n s) :=
    (KeepsSyns.foldl (fun t m => .ofReports (faultEvent_onlyReports (104 + m) 2 0 t)) (synOuts s n) _).trans
      (.ofReports (irqRaise_onlyReports 5 3 _))
  refine ⟨((OnlyHolds.ofKeeps counted).trans holds).trans (.ofKeeps reported), fun k mem => ?_⟩
  rw [reported.syns]
  exact foldl_groupHold_holds _ mem _

/-! ### Resuming (R160) -/

/-- Whether a synthesiser has a filled half rests on its own state and on the profiles in force. -/
theorem halfFilled_congr {s t : State} {n : Nat} (syn : synSt t n = synSt s n) (cfg : t.cfg = s.cfg) :
    halfFilled t n = halfFilled s n := by
  have cfg : synCfg t n = synCfg s n := by
    unfold synCfg
    rw [cfg]
  simp only [halfFilled, lastOfHalf, syn, cfg]

/-- A playing synthesiser at the end of its half's last segment, with more to play after it, has a filled half only in
the other one. -/
theorem nextReady_of_halfFilled {s : State} {n : Nat} (filled : halfFilled s n = true) (run : (synSt s n).run = true)
    (ended : (synSt s n).left = 0) (last : (synSt s n).seg % 512 = 511)
    (more : (synSt s n).seg + 1 < (synCfg s n).profile.length) : (synSt s n).nextReady = true := by
  have here : lastOfHalf s n = true := decide_eq_true ⟨last, more⟩
  simpa only [halfFilled, run, here, ended, decide_true, Bool.and_self, Bool.not_true, Bool.false_or, Bool.or_false]
    using filled

/-- The release of synthesiser `n`, which goes on with its next segment where it has ended one. -/
def rampRelease (t : State) (n : Nat) : State :=
  let v := synMod n (fun y => { y with hold := false }) t
  if (synSt v n).run && decide ((synSt v n).left = 0) then rampNext n v else v

theorem rampNext_unheld {n : Nat} {s : State} (free : (synSt s n).hold = false)
    (ready : ((synSt s n).seg + 1) % 512 = 0 → (synSt s n).seg + 1 < (synCfg s n).profile.length →
      (synSt s n).nextReady = true) : ∃ y, y.hold = false ∧ SynBecomes n y s (rampNext n s) := by
  simp only [rampNext]
  split
  · next other =>
    rw [if_pos (ready other.1 other.2)]
    have crosses := SynBecomes.synMod n (fun y => { y with half := !y.half, nextReady := false }) s
    obtain ⟨y, unheld, enters⟩ := rampEnter_unheld (by rw [crosses.here]; exact free) ((synSt s n).seg + 1)
    exact ⟨y, unheld, crosses.trans enters⟩
  · exact rampEnter_unheld free _

theorem rampRelease_releases {n : Nat} {s : State} (filled : halfFilled s n = true) :
    ∃ y, y.hold = false ∧ SynBecomes n y s (rampRelease s n) := by
  have frees := SynBecomes.synMod n (fun y => { y with hold := false }) s
  unfold rampRelease
  dsimp only
  split
  · next ended =>
    simp only [Bool.and_eq_true, decide_eq_true_eq, frees.here] at ended
    have ready := nextReady_of_halfFilled filled ended.1 ended.2
    obtain ⟨y, unheld, next⟩ := rampNext_unheld (n := n) (by rw [frees.here]) (by
      rw [frees.here, frees.frame.synCfg]
      exact fun edge => ready (by dsimp only at edge; omega))
    exact ⟨y, unheld, frees.trans next⟩
  · exact ⟨_, rfl, frees⟩

/-- Every held synthesiser that is released once, and has a filled half before, is held no longer. -/
theorem foldl_rampRelease {l : List Nat} (nodup : l.Nodup) {s : State} (filled : ∀ n ∈ l, halfFilled s n = true)
    {k : Nat} (held : (synSt s k).hold = true → k ∈ l) : (synSt (l.foldl rampRelease s) k).hold = false := by
  induction l generalizing s with
  | nil => exact Bool.eq_false_iff.mpr fun h => nomatch held h
  | cons n r ih =>
    obtain ⟨notin, nodup⟩ := List.nodup_cons.mp nodup
    obtain ⟨y, unheld, becomes⟩ := rampRelease_releases (filled n (List.mem_cons_self ..))
    refine ih nodup (fun m mem => ?_) fun h => ?_
    · have other : m ≠ n := fun h => notin (h ▸ mem)
      rw [halfFilled_congr (becomes.others m other) becomes.frame.cfg]
      exact filled m (List.mem_cons_of_mem n mem)
    · have other : k ≠ n := by
        rintro rfl
        rw [becomes.here, unheld] at h
        exact nomatch h
      rw [becomes.others k other] at h
      exact (List.mem_cons.mp (held h)).resolve_left other

end Sys2Proof.Machine
end

section
/-! PROOFS. O17: ramp playback, from START to the end of a group hold. -/

namespace Sys2Proof.Machine

open Safety

/-- A synthesiser that START has put at the front of its profile of `len` segments. -/
def rampStarted (len : Nat) (y : SynSt) : SynSt :=
  { y with run := true, refused := false, half := false, yr := 0, nextReady := decide (512 < len) }

theorem exec_rampStart_refused {n : SynNo} {s : State} (plain : (synCfg s n).char = false) :
    exec (.rampStart n) s = .next (synMod n (fun y => { y with refused := true }) s) :=
  if_neg (by rw [plain]; decide)

theorem exec_rampStart_enters {n : SynNo} {g : RampSeg} {s : State} (char : (synCfg s n).char = true)
    (idle : (synSt s n).run = false) (first : (synCfg s n).profile[0]? = some g) (plays : g.type ≠ 0) :
    ∃ t, exec (.rampStart n) s = .next t ∧
      SynBecomes n (segEntered 0 g (rampStarted (synCfg s n).profile.length (synSt s n))) s t := by
  have starts := (SynBecomes.synMod n (rampStarted (synCfg s n).profile.length) s).keeps (KeepsSyns.foldl
    (fun t m => .ite (c := outRuns t m = true) (.outMod m (fun o => { o with state := .profile }) t) (.refl t))
    (synOuts s n) _)
  refine ⟨_, (if_pos char).trans (if_neg (by rw [idle]; decide)), starts.trans ?_⟩
  rw [← starts.here]
  exact rampEnter_becomes (by rw [starts.frame.synCfg]; exact first) plays

theorem exec_rampStop {n : SynNo} {s : State} (run : (synSt s n).run = true) :
    exec (.rampStop n) s = .next (rampEnd n s) := by
  show execRampStop n s = _
  rw [execRampStop, if_pos run]

theorem exec_rampStop_idle {n : SynNo} {s : State} (idle : (synSt s n).run = false) : exec (.rampStop n) s = .next s := by
  show execRampStop n s = _
  simp [execRampStop, idle]

theorem exec_rampUpdate (n : SynNo) (s : State) : ∃ u, OnlyTime s u ∧ exec (.rampUpdate n) s =
    .next (if (synSt s n).run && !(synSt s n).hold then rampPlay n 1 u else u) := ⟨_, elapseTo_onlyTime .., rfl⟩

theorem exec_rampSegmentEnd {n : SynNo} {s : State} (run : (synSt s n).run = true) (free : (synSt s n).hold = false) :
    exec (.rampSegmentEnd n) s = .next (rampNext n (rampToEnd n s)) := by
  show execRampSegmentEnd n s = _
  simp [execRampSegmentEnd, run, free]

/-- Inside a half the next segment follows. -/
theorem rampNext_inside {n : Nat} {s : State} (inside : ((synSt s n).seg + 1) % 512 ≠ 0) :
    rampNext n s = rampEnter n ((synSt s n).seg + 1) s := if_neg fun h => inside h.1

theorem exec_rampHalfRefill {n : SynNo} {s : State} (run : (synSt s n).run = true) :
    exec (.rampHalfRefill n) s = .next (synMod n (fun y => { y with nextReady := true }) s) := by
  show execRampHalfRefill n s = _
  rw [execRampHalfRefill, if_pos run]

theorem exec_rampHalfRefill_idle {n : SynNo} {s : State} (idle : (synSt s n).run = false) :
    exec (.rampHalfRefill n) s = .next s := by
  show execRampHalfRefill n s = _
  simp [execRampHalfRefill, idle]

theorem exec_rampUnderrun {n : SynNo} {s : State} (run : (synSt s n).run = true) (free : (synSt s n).hold = false)
    (unfilled : (synSt s n).nextReady = false) (last : lastOfHalf s n = true) :
    exec (.rampUnderrun n) s = .next (rampUnderrun n (rampToEnd n s)) := by
  show execRampUnderrun n s = _
  simp [execRampUnderrun, run, free, unfilled, last]

theorem holdSet_of_cfg {s t : State} (cfg : t.cfg = s.cfg) (n : Nat) : holdSet t n = holdSet s n := by
  unfold holdSet synOuts outCfg
  rw [cfg]

/-- The synthesisers that are held, in order. -/
def heldSyns (s : State) : List Nat := (List.range 4).filter fun n => (synSt s n).hold

theorem mem_heldSyns {s : State} {n : Nat} : n ∈ heldSyns s ↔ n < 4 ∧ (synSt s n).hold = true := by
  simp [heldSyns]

theorem exec_rampResume {s : State} (filled : ∀ n ∈ heldSyns s, halfFilled s n = true) :
    ∃ u, OnlyTime s u ∧ exec .rampResume s = .next ((heldSyns s).foldl rampRelease u) :=
  ⟨_, elapseTo_onlyTime .., if_pos (List.all_eq_true.mpr filled)⟩

theorem exec_rampResume_waits {n : Nat} {s : State} (held : n ∈ heldSyns s) (unfilled : halfFilled s n = false) :
    exec .rampResume s = .next s :=
  if_neg fun all => by simpa [unfilled] using List.all_eq_true.mp all n held

/-- What is left of a segment after a microsecond, and what that microsecond adds. -/
theorem segPlayed_microsecond (g : RampSeg) (y : SynSt) : let z := segPlayed g (min 1 y.left) y
    z.yr = clampInt (-yrMax) yrMax (y.yr + if g.type = 1 ∧ 0 < y.left then g.value else 0) ∧ z.left = y.left - 1 := by
  cases left : y.left with
  | zero => simp [segPlayed, left]
  | succ l =>
    simp [segPlayed, segSlope, left]

/-- Settles O17: each command by its equation, and what its operations leave in the synthesisers. -/
theorem rampPlaybackAndUnderrun : Obligations.RampPlaybackAndUnderrun := by
  unfold Obligations.RampPlaybackAndUnderrun
  refine ⟨fun n s => exec_rampStart_refused, ?start, ?stop, ?update, ?segment, fun n s => exec_rampHalfRefill, ?underrun,
    fun n s idle => ⟨exec_rampHalfRefill_idle idle, exec_rampStop_idle idle⟩, ?resume, ?waits⟩
  case start =>
    intro n g s char idle first plays
    obtain ⟨t, run, becomes⟩ := exec_rampStart_enters char idle first plays
    refine ⟨t, run, ?_⟩
    rw [becomes.here]
    exact ⟨rfl, rfl, rfl, rfl, rfl⟩
  case stop =>
    intro n s run
    have becomes := rampEnd_becomes n s
    refine ⟨_, exec_rampStop run, ?_⟩
    rw [becomes.here]
    exact ⟨rfl, rfl, rfl, becomes.others⟩
  case update =>
    intro n s
    obtain ⟨u, time, run⟩ := exec_rampUpdate n s
    refine ⟨_, run, fun still => ?_, fun g run free seg => ?_⟩
    · rw [if_neg (by rcases still with h | h <;> simp [h]), time.synSt]
    · rw [if_pos (by simp [run, free]), rampPlay_eq (by rwa [time.synSt, time.synCfg]), synSt_synMod_same, time.synSt]
      exact segPlayed_microsecond g _
  case segment =>
    intro n g s run free inside seg plays
    obtain ⟨u, time, toEnd⟩ := rampToEnd_eq n s
    obtain ⟨y, played, place, runs⟩ := rampPlay_stays n (synSt s n).left u
    rw [time.synSt] at place runs
    rw [← played.here] at place runs
    refine ⟨_, exec_rampSegmentEnd run free, ?_⟩
    rw [toEnd, rampNext_inside (by rwa [place]), place,
      (rampEnter_becomes (by rwa [played.frame.synCfg, time.synCfg]) plays).here]
    exact ⟨rfl, rfl, runs.trans run⟩
  case underrun =>
    intro n g s run free unfilled last seg
    obtain ⟨u, time, toEnd⟩ := rampToEnd_eq n s
    rw [rampPlay_eq (by rwa [time.synSt, time.synCfg]), time.synSt, Nat.min_self] at toEnd
    have played := SynBecomes.synMod n (segPlayed g (synSt s n).left) u
    rw [← toEnd, time.synSt] at played
    obtain ⟨holds, held⟩ := rampUnderrun_holds n (rampToEnd n s)
    refine ⟨_, exec_rampUnderrun run free unfilled last, ?_⟩
    rw [holdSet_of_cfg (played.frame.cfg.trans time.cfg)] at held
    refine ⟨held, ?_, ?_, ?_, fun k other => ?_, ?_⟩
    · rw [holds.same, played.here]
      exact Nat.sub_self _
    · rw [holds.same, played.here]
      rfl
    · rw [holds.same, played.here]
      rfl
    · rw [holds.same, played.others k other, time.synSt]
    · rw [holds.frame.lode, played.frame.lode, time.lode]
  case resume =>
    intro s filled
    have filled : ∀ n ∈ heldSyns s, halfFilled s n = true := fun n mem =>
      filled n (mem_heldSyns.mp mem).1 (mem_heldSyns.mp mem).2
    obtain ⟨u, time, run⟩ := exec_rampResume filled
    refine ⟨_, run, fun n small => foldl_rampRelease (List.nodup_range.filter _) (fun m mem => ?_) fun held => ?_⟩
    · rw [halfFilled_congr (time.synSt m) time.cfg]
      exact filled m mem
    · rw [time.synSt] at held
      exact mem_heldSyns.mpr ⟨small, held⟩
  case waits =>
    intro n s held unfilled
    exact exec_rampResume_waits (mem_heldSyns.mpr ⟨n.isLt, held⟩) unfilled

end Sys2Proof.Machine
end

section
/-! SUPPORT. What a measurement of a reference may touch (R54, R57, R58, R78 to R81). -/

namespace Sys2Proof.Machine

open Safety

/-- Only what a measurement touches may differ: the clocks, the Lode, the Assay and the Tally, what is reported, and what
is held by its Lode time when a step moves it (R54), the outputs' edges, Daylight and haulage. -/
def OnlyMeasured (s t : State) : Prop :=
  t = { s with
    clk := t.clk, lode := t.lode, assay := t.assay, tally := t.tally, dayl := t.dayl, haul := t.haul
    outs := { s.outs with out := t.outs.out }, rf := t.rf, pcie := t.pcie, fault := t.fault }

namespace OnlyMeasured

variable {s t u : State}

theorem refl (s : State) : OnlyMeasured s s := rfl

theorem trans (a : OnlyMeasured s t) (b : OnlyMeasured t u) : OnlyMeasured s u := by
  unfold OnlyMeasured at *
  rw [b, a]

theorem ofLode (a : OnlyLode s t) : OnlyMeasured s t := by
  unfold OnlyMeasured
  rw [a]

theorem ofTally (a : OnlyTally s t) : OnlyMeasured s t := ofLode a.lode'

theorem ofReports (a : OnlyReports s t) : OnlyMeasured s t := ofTally a.tally'

theorem ite {c : Prop} [Decidable c] (a : OnlyMeasured s t) (b : OnlyMeasured s u) :
    OnlyMeasured s (if c then t else u) := by
  split
  · exact a
  · exact b

/-- A step that may follow. -/
theorem thenIf {c : Prop} [Decidable c] (a : OnlyMeasured s t) (b : OnlyMeasured t u) :
    OnlyMeasured s (if c then u else t) := .ite (a.trans b) a

theorem todin (a : OnlyMeasured s t) : t.outs.todin = s.outs.todin := by rw [a]
theorem prt (a : OnlyMeasured s t) : t.prt = s.prt := by rw [a]
theorem gals (a : OnlyMeasured s t) : t.gals = s.gals := by rw [a]

end OnlyMeasured

theorem lodeUpd_onlyMeasured (s : State) (l : LodeSt) : OnlyMeasured s { s with lode := l } := rfl
theorem tallyUpd_onlyMeasured (s : State) (y : TallySt) : OnlyMeasured s { s with tally := y } := rfl
theorem refMod_onlyMeasured (n : Nat) (f : RefSt → RefSt) (s : State) : OnlyMeasured s (refMod n f s) := rfl
theorem setCorr_onlyMeasured (v : Int) (s : State) : OnlyMeasured s (setCorr v s) := rfl
theorem setInc_onlyMeasured (v : Int) (s : State) : OnlyMeasured s (setInc v s) := rfl
theorem stepBy_onlyMeasured (d : Int) (s : State) : OnlyMeasured s (stepBy d s) := rfl
theorem countMissing_onlyMeasured (n : Nat) (s : State) : OnlyMeasured s (countMissing n s) := rfl

theorem repull_onlyMeasured (slope : Nat) (s : State) : OnlyMeasured s (repull slope s) :=
  .ite (lodeUpd_onlyMeasured s _) (lodeUpd_onlyMeasured s _)

theorem takeParams_onlyMeasured (s : State) : OnlyMeasured s (takeParams s) :=
  (OnlyMeasured.ite (.refl s) (repull_onlyMeasured _ s)).trans (lodeUpd_onlyMeasured _ _)

theorem setClamped_onlyMeasured (sum : Bool) (s : State) : OnlyMeasured s (setClamped sum s) := by
  have marks := lodeUpd_onlyMeasured s { s.lode with clamped := sum || s.lode.fwClamped }
  refine .ite (marks.trans (.ofReports ?_)) (.ite (marks.trans (.ofReports ?_)) marks)
  · exact (irqRaise_onlyReports 2 11 _).trans (faultEvent_onlyReports 19 1 0 _)
  · exact heldEnd_onlyReports 19 1 _

/-- A loop's update: the servo's parameters, the loop's own state, and the increment with its clamp. -/
theorem timeLoopUpdate_onlyMeasured (n t : Nat) (e : Int) (s : State) : OnlyMeasured s (timeLoopUpdate n t e s) :=
  ((((takeParams_onlyMeasured s).trans (lodeUpd_onlyMeasured _ _)).trans (setCorr_onlyMeasured _ _)).trans
    (setInc_onlyMeasured _ _)).trans (setClamped_onlyMeasured _ _)

theorem flywheelUpdate_onlyMeasured (n : Nat) (ph : Int) (s : State) : OnlyMeasured s (flywheelUpdate n ph s) :=
  .ite (.refl s) ((((takeParams_onlyMeasured s).trans (lodeUpd_onlyMeasured _ _)).trans
    (setInc_onlyMeasured _ _)).trans (setClamped_onlyMeasured _ _))

theorem lodeMeasure_onlyMeasured (n : Nat) (e : Int) (t at' : Nat) (s : State) :
    OnlyMeasured s (lodeMeasure n e t at' s) := by
  have keeps := lodeUpd_onlyMeasured s { s.lode with goodTick := some t, goodTime := at', ec := 0 }
  have loop := keeps.trans (timeLoopUpdate_onlyMeasured n t e _)
  unfold lodeMeasure
  cases s.lode.state with
  | acquire =>
    refine .ite keeps (.ite ?_ ?_)
    · exact (keeps.trans (takeParams_onlyMeasured _)).trans (stepBy_onlyMeasured e _)
    · exact (keeps.trans (lodeUpd_onlyMeasured _ _)).trans (timeLoopUpdate_onlyMeasured n t e _)
  | locked => exact loop
  | pull => exact loop
  | free => exact keeps
  | holdover => exact keeps
  | invalid => exact keeps

theorem measure_onlyMeasured (n : Nat) (e : Int) (age : Nat) (s : State) : OnlyMeasured s (measure n e age s) := by
  refine .ite (.refl s) (.ite (countMissing_onlyMeasured n s) (.ite (.refl s) ?_))
  refine .trans ?_ (.ofTally (tallyRefresh_onlyTally _))
  refine .thenIf (.thenIf (.thenIf (refMod_onlyMeasured n _ s) ?_) ?_) ?_
  · exact tallyUpd_onlyMeasured _ _
  · exact lodeMeasure_onlyMeasured n e _ _ _
  · exact flywheelUpdate_onlyMeasured n e _

end Sys2Proof.Machine
end

section
/-! SUPPORT. Bytes, the CRC-32C and bound codes: each stays within its field, and a time-of-day sentence reads as it was written (R37, R38, R168, R170). -/

namespace Sys2Proof.Machine

/-! ### Fields of bytes -/

theorem foldl_beBytes (n v a : Nat) :
    (beBytes n v).foldl (fun a b => a * 256 + b % 256) a = a * 256 ^ n + v % 256 ^ n := by
  induction n generalizing a with
  | zero => simp [beBytes, Nat.mod_one]
  | succ n ih =>
    rw [beBytes, List.foldl_cons, ih, Nat.mod_mod, Nat.pow_succ, Nat.mod_mul, Nat.add_mul, Nat.mul_assoc a,
      Nat.mul_comm 256, Nat.mul_comm (_ / _ % 256), Nat.add_assoc, Nat.add_comm (_ * _) (v % _)]

/-- The bytes of a number spell what fits in them. -/
theorem beVal_beBytes (n v : Nat) : beVal (beBytes n v) = v % 256 ^ n := by
  rw [beVal, foldl_beBytes, Nat.zero_mul, Nat.zero_add]

/-! ### The CRC-32C (R168) -/

theorem crcBit_lt {poly c : Nat} (hp : poly < 2 ^ 32) (hc : c < 2 ^ 32) : crcBit poly c < 2 ^ 32 := by
  unfold crcBit
  split
  · exact Nat.xor_lt_two_pow (by omega) hp
  · omega

theorem crcByte_lt {poly c : Nat} (hp : poly < 2 ^ 32) (hc : c < 2 ^ 32) (b : Nat) : crcByte poly c b < 2 ^ 32 := by
  have start : c ^^^ (b % 256) < 2 ^ 32 := Nat.xor_lt_two_pow hc (by omega)
  have bit := fun {x : Nat} (h : x < 2 ^ 32) => crcBit_lt hp h
  exact bit (bit (bit (bit (bit (bit (bit (bit start)))))))

theorem crc32c_lt (l : List Nat) : crc32c l < 2 ^ 32 := by
  have runs : ∀ c, c < 2 ^ 32 → l.foldl (crcByte 0x82F63B78) c < 2 ^ 32 := by
    induction l with
    | nil => exact fun c h => h
    | cons b r ih => exact fun c h => ih _ (crcByte_lt (by decide) h b)
  exact Nat.xor_lt_two_pow (runs _ (by decide)) (by decide)

/-! ### Bound codes (R37, R38) -/

theorem satCode_le (n : Nat) : satCode n ≤ unboundedCode := by
  unfold satCode
  split
  · exact Nat.le_refl _
  · unfold unboundedCode
    omega

theorem addCode_le (a b : Nat) : addCode a b ≤ unboundedCode := by
  unfold addCode
  split
  · exact Nat.le_refl _
  · exact satCode_le _

theorem boundCode_le (s : State) (l dpt allowance : Nat) : boundCode s l dpt allowance ≤ unboundedCode := by
  unfold boundCode
  split
  · exact Nat.le_refl _
  · exact addCode_le _ _

theorem sentenceCode_le (s : State) (k m edge : Nat) : sentenceCode s k m edge ≤ unboundedCode := by
  unfold sentenceCode
  cases (outSt s m).state with
  | held => exact Nat.le_refl _
  | stopped => exact Nat.le_refl _
  | _ => exact boundCode_le ..

/-! ### Sentences (R168, R170) -/

/-- A sentence before its CRC that bounds its time by `code`. -/
def codedBody (s : State) (edge code seq : Nat) : List Nat :=
  sentenceBody s edge (boundRecord s edge code false (hopServed s)) seq

/-- The sentence whose 48 bytes before the CRC are `body` (R168). -/
def sentenceOf (body : List Nat) : List Nat := body ++ beBytes 4 (crc32c body)

theorem length_codedBody (s : State) (edge code seq : Nat) : (codedBody s edge code seq).length = 48 := by
  simp [codedBody, sentenceBody, boundRecord, recordBytes, length_beBytes]

theorem length_sentenceOf (body : List Nat) : (sentenceOf body).length = body.length + 4 := by
  rw [sentenceOf, List.length_append, length_beBytes]

/-- The CRC that ends a sentence is the one over the 48 bytes before it. -/
theorem sentenceOf_crc {body : List Nat} (whole : body.length = 48) :
    beAt (sentenceOf body) 48 4 = crc32c ((sentenceOf body).take 48) := by
  rw [sentenceOf, List.take_left' whole, beAt, slice, List.drop_left' whole, List.take_of_length_le (Nat.le_of_eq (length_beBytes ..)),
    beVal_beBytes]
  exact Nat.mod_eq_of_lt (crc32c_lt _)

/-- A field of the body reads as in the sentence. -/
theorem slice_sentenceOf {body : List Nat} {i n : Nat} (inside : i + n ≤ body.length) :
    slice i n (sentenceOf body) = slice i n body := by
  rw [sentenceOf, slice, slice, List.drop_append_of_le_length (by omega),
    List.take_append_of_le_length (by rw [List.length_drop]; omega)]

theorem sentenceOf_head (s : State) (edge code seq : Nat) :
    (sentenceOf (codedBody s edge code seq)).take 4 = [0x5A, 0xD1, 1, 52] := by
  have inside : 4 ≤ (codedBody s edge code seq).length := by rw [length_codedBody]; omega
  rw [sentenceOf, List.take_append_of_le_length inside]
  simp [codedBody, sentenceBody]

theorem sentenceOf_ns (s : State) (edge code seq : Nat) :
    beAt (sentenceOf (codedBody s edge code seq)) 10 4 = nsOf edge := by
  have field : slice 10 4 (codedBody s edge code seq) = beBytes 4 (nsOf edge) := by
    simp [codedBody, sentenceBody, slice, beBytes]
  rw [beAt, slice_sentenceOf (by rw [length_codedBody]; omega), field, beVal_beBytes]
  unfold nsOf
  omega

theorem sentenceOf_code (s : State) {code : Nat} (fits : code ≤ unboundedCode) (edge seq : Nat) :
    beAt (sentenceOf (codedBody s edge code seq)) 20 4 = code := by
  have field : slice 20 4 (codedBody s edge code seq) = beBytes 4 code := by
    simp [codedBody, sentenceBody, boundRecord, recordBytes, slice, beBytes]
  rw [beAt, slice_sentenceOf (by rw [length_codedBody]; omega), field, beVal_beBytes]
  unfold unboundedCode at fits
  omega

/-- A TODIN takes a sentence of a TODOUT exactly when its time is bounded. -/
theorem sentenceValid_sentenceOf (s : State) {code : Nat} (fits : code ≤ unboundedCode) (edge seq : Nat) :
    sentenceValid (sentenceOf (codedBody s edge code seq)) = true ↔ code ≠ 0xFFFFFFFF := by
  have ns : nsOf edge < 1000000000 := Nat.mod_lt _ (by decide)
  rw [sentenceValid, length_sentenceOf, length_codedBody, sentenceOf_head, sentenceOf_crc (length_codedBody ..),
    sentenceOf_ns, sentenceOf_code s fits]
  simp [ns]

end Sys2Proof.Machine
end

section
/-! PROOFS. O18: the sentences of a TODOUT, and what a TODIN takes. -/

namespace Sys2Proof.Machine

open Safety

/-- What a TODOUT holds once its next sentence has named `edge`. -/
def sentTodout (s : State) (k : Ant) (edge : Nat) : TodoutSt :=
  let seq := ((sget {} s.outs.todout k).seq + 1) % 2 ^ 16
  { seq := seq, named := some edge
    sentence := sentenceOf (codedBody s edge (sentenceCode s k (sget {} s.cfg.outs.todout k).out edge) seq) }

theorem exec_todoutSentence {k : Ant} {e : Nat} {s : State}
    (edge : (let o := outSt s (sget {} s.cfg.outs.todout k).out
      (if o.emitting then some (pulsePrev s (sget {} s.cfg.outs.todout k).out (nowFu s)) else o.lastEdge) = some e))
    (used : (sget {} s.cfg.outs.todout k).baud ≠ 0) (new : (sget {} s.outs.todout k).named ≠ some e) :
    exec (.todoutSentence k) s = .next
      (let u := elapseTo (tickOfLode (e + fuOfNs ((sget {} s.cfg.outs.todout k).delayMs * 1000000)) s) s
       { u with outs := { u.outs with todout := sput {} u.outs.todout k (sentTodout s k e) } }) := by
  show execTodoutSentence k s = _
  unfold execTodoutSentence
  dsimp only at edge ⊢
  rw [edge]
  exact if_neg (not_or.mpr ⟨used, new⟩)

theorem exec_todinSentence_early {s : State} (early : s.surv.structureApplied = false) (k : Ant) (bytes : List Nat)
    (ago : Nat) : exec (.todinSentence k bytes ago) s = .next s :=
  if_pos (by rw [early]; rfl)

/-- The baud rate at which TODIN `k` listens: that of the reference whose entry names it. -/
def todinBaud (s : State) (k : Nat) : Nat :=
  match todinRef s k with
  | some r => (refRec s r).baud
  | none => 0

theorem exec_todinSentence_refused {k : Ant} {bytes : List Nat} {ago : Nat} {s : State}
    (applied : s.surv.structureApplied = true)
    (bad : sentenceValid bytes = false ∨ tooShort (todinBaud s k) ago = true) :
    exec (.todinSentence k bytes ago) s = .next (irqRaise 5 7 (rfBump (0x00503104 + 0x20 * k) 15 0 1 s)) := by
  have refused : ¬ (sentenceValid bytes && !tooShort (todinBaud s k) ago) = true := by
    rcases bad with h | h <;> simp [h]
  exact (if_neg (by rw [applied]; decide)).trans (if_neg refused)

/-- The sequence number `q` stands in TODIN `k`, and the ports and galleries are those of `s`. -/
structure TodinHolds (k q : Nat) (s t : State) : Prop where
  seq : (sget {} t.outs.todin k).seq = q
  prt : t.prt = s.prt
  gals : t.gals = s.gals

/-- Changes a TODIN. -/
def todinMod (k : Nat) (f : TodinSt → TodinSt) (s : State) : State :=
  { s with outs := { s.outs with todin := smod {} s.outs.todin k f } }

theorem TodinHolds.todinMod (k : Nat) (f : TodinSt → TodinSt) (s : State) :
    TodinHolds k (f (sget {} s.outs.todin k)).seq s (todinMod k f s) :=
  ⟨by rw [Machine.todinMod, sget_smod_same], rfl, rfl⟩

theorem TodinHolds.compared {k q : Nat} {s t : State} (a : TodinHolds k q s t) (ok : Bool) :
    TodinHolds k q s (Machine.todinMod k (fun x => { x with isMatch := ok }) t) :=
  ⟨by rw [Machine.todinMod, sget_smod_same, a.seq], a.prt, a.gals⟩

theorem TodinHolds.measured {k q : Nat} {s t u : State} (a : TodinHolds k q s t) (b : OnlyMeasured t u) :
    TodinHolds k q s u := ⟨by rw [b.todin, a.seq], b.prt.trans a.prt, b.gals.trans a.gals⟩

/-- A valid sentence leaves its sequence number: it is counted where no edge is paired with it, and otherwise compared
with the last one and measured. -/
theorem exec_todinSentence_taken {k : Ant} {bytes : List Nat} {ago : Nat} {s : State}
    (applied : s.surv.structureApplied = true) (valid : sentenceValid bytes = true)
    (whole : tooShort (todinBaud s k) ago = false) :
    ∃ t, exec (.todinSentence k bytes ago) s = .next t ∧ TodinHolds k (beAt bytes 44 2) s t := by
  have taken : (sentenceValid bytes && !tooShort (todinBaud s k) ago) = true := by simp [valid, whole]
  have numbered := TodinHolds.todinMod k (fun t => { t with seq := beAt bytes 44 2 }) s
  have counted := numbered.measured
    (.ofReports ((rfBump_onlyReports (0x00503104 + 0x20 * k) 31 16 1 _).trans (irqRaise_onlyReports 5 7 _)))
  have branch : execTodinSentence k bytes ago s = _ := (if_neg (by simp [applied])).trans (if_pos taken)
  show ∃ t, execTodinSentence k bytes ago s = .next t ∧ _
  rw [branch]
  split
  · exact ⟨_, rfl, counted⟩
  · dsimp only
    split
    · exact ⟨_, rfl, counted⟩
    · exact ⟨_, rfl, ((numbered.compared _).measured (refMod_onlyMeasured ..)).measured (measure_onlyMeasured ..)⟩

/-- Settles O18: a sentence field by field, and the two branches of a TODIN. -/
theorem timeOfDaySentencesAreOnesTheReceiverTakes : Obligations.TimeOfDaySentencesAreOnesTheReceiverTakes := by
  unfold Obligations.TimeOfDaySentencesAreOnesTheReceiverTakes
  refine ⟨?sent, fun k bytes ago s early => exec_todinSentence_early early k bytes ago, fun k bytes ago s applied =>
    ⟨fun bad => ⟨_, exec_todinSentence_refused applied bad, ?reports⟩, ?taken⟩⟩
  case sent =>
    intro k e s edge used new
    have time := elapseTo_onlyTime (tickOfLode (e + fuOfNs ((sget {} s.cfg.outs.todout k).delayMs * 1000000)) s) s
    refine ⟨_, exec_todoutSentence edge used new, ?_⟩
    rw [sget_sput_same]
    refine ⟨by rw [sentTodout, length_sentenceOf, length_codedBody], rfl, rfl,
      sentenceValid_sentenceOf s (sentenceCode_le ..) _ _, ?_⟩
    rw [← time.outs]
    exact time
  case taken =>
    intro valid whole
    obtain ⟨t, run, holds⟩ := exec_todinSentence_taken applied valid whole
    exact ⟨t, run, holds.seq, holds.prt, holds.gals⟩
  case reports =>
    exact (rfBump_onlyReports ..).trans (irqRaise_onlyReports ..)

end Sys2Proof.Machine
end
